-- ==== Sys2Proof/Word.lean ====
section
/-!
DEFINITION. The word types of the model: register words, wire bytes and 64-bit values (R2, R4).
-/
namespace Sys2Proof

/-- A 32-bit register word (R4). -/
abbrev Word := BitVec 32

/-- A byte of memory or of a wire. -/
abbrev Byte := BitVec 8

/-- A 64-bit value: an engine register, a tick number, a time. -/
abbrev Dword := BitVec 64

end Sys2Proof
end

