-- ==== Sys2Proof/Machine/Types.lean ====
section
/-!
DEFINITION. The plain data types that commands and the state share: Azwin operand forms and types,
frames of the wires, field and CAN data, device states.
-/
namespace Sys2Proof

/-- Computation types K of R92 (the reserved codes 0b110 and 0b111 have no constructor). -/
inductive K where | i32 | i64 | u32 | u64 | f32 | f64
deriving DecidableEq, Repr

/-- The integer computation types (REM and the saturating forms, R99). -/
inductive IntK where | i32 | i64 | u32 | u64
deriving DecidableEq, Repr

/-- The real computation types (SQRT, R99). -/
inductive RealK where | f32 | f64
deriving DecidableEq, Repr

/-- Memory types of R93 (0xD to 0xF are reserved). -/
inductive MemType where
  | bool | int8 | int16 | int32 | int64 | uint8 | uint16 | uint32 | uint64
  | real32 | real64 | time | quality
deriving DecidableEq, Repr

/-- Slot types of R57. -/
inductive SlotType where | bit | u16 | s16 | u32 | s32 | f32
deriving DecidableEq, Repr

/-- Parts of a slot that form 1 and form 7 read (R97). -/
inductive SlotPart where | value | quality | age | raw
deriving DecidableEq, Repr

/-- Rounding codes of CVT (R98). -/
inductive RoundMode where | nearest | zero | down | up
deriving DecidableEq, Repr

/-- Operations of ARED (R107). -/
inductive RedOp where | sum | min | max | count
deriving DecidableEq, Repr

/-- Memory types that SATW clamps to (R98: 0x1-0x3, 0x5-0x7). -/
inductive SatType where | int8 | int16 | int32 | uint8 | uint16 | uint32
deriving DecidableEq, Repr

/-- Source operands (R96, R97). `imm` is form 0, `gath` form 1, `var` form 3, `sot` form 4, `rec` form 5,
`const` form 6, `ind` form 7. -/
inductive Src where
  | reg (r : Fin 64)
  | short (v : BitVec 6)
  | imm32 (v : Word)
  | imm64 (v : Dword)
  | gath (pos : BitVec 14) (ty : SlotType) (part : SlotPart)
  | var (off : BitVec 26) (ty : MemType)
  | sot (key : Word) (field : Byte)
  | record (off : BitVec 16) (ty : MemType)
  | const (idx : BitVec 13) (ty : MemType)
  | ind (r : Fin 64) (ty : SlotType) (part : SlotPart)
deriving DecidableEq, Repr

/-- Destination operands (R96, R97). `out` is form 2 (`qual` selects part QUALITY), `ind` form 7. -/
inductive Dst where
  | reg (r : Fin 64)
  | out (h : BitVec 23) (ty : SlotType) (qual : Bool)
  | var (off : BitVec 26) (ty : MemType)
  | record (off : BitVec 16) (ty : MemType)
  | ind (r : Fin 64) (ty : SlotType) (qual : Bool)
deriving DecidableEq, Repr

/-- Device states (R21). -/
inductive DevState where
  | parked | booting | refused | ready | syncing | standby | active | member | benched | tripped | stopped
deriving DecidableEq, Repr

/-- Service modes (R1); `none` before an image is loaded. -/
inductive SvcMode where | none | solo | pair | triad
deriving DecidableEq, Repr

/-- The two plant ports (R399). -/
inductive PlantPort where | a | b
deriving DecidableEq, Repr

/-- The two triad links (R294). -/
inductive TriLink where | a | b
deriving DecidableEq, Repr

/-- The two ports of a marionette (R182). -/
inductive MPort where | a | b
deriving DecidableEq, Repr

/-- A frame of a string, of the pair link or of a triad link (R186 to R189), taken apart into its fields.
`fcsOk` says whether the FCS was correct on arrival; `dstKind` is the last byte of the destination
address, `dstOk` whether its first five bytes are 03-54-53-00-00; `srcMac` is the source address (R186). -/
structure Frame where
  fcsOk     : Bool
  etherType : BitVec 16
  dstOk     : Bool
  dstKind   : Byte
  len       : Nat
  proto     : Byte
  ver       : Byte
  kind      : Byte
  flags     : Byte
  pairId    : Dword
  epoch     : Word
  tick      : Dword
  tstart    : Dword
  memberNo  : Byte
  src       : Byte
  strNo     : Byte
  hops      : Byte
  plen      : BitVec 16
  rsv       : BitVec 16
  payload   : List Byte
  crc       : Dword
  srcMac    : BitVec 48 := 0
deriving DecidableEq, Repr

/-- A frame of a plant port, as far as R400 to R403 look at it. `ipv4Dst`, `udpDst` and `udpSum` hold for
UDP over IPv4; `fragment` marks an IPv4 fragment; `bcast` a broadcast or multicast destination address. -/
structure PlantFrame where
  fcsOk     : Bool
  len       : Nat
  tagged    : Bool
  vid       : BitVec 12
  pcp       : BitVec 3
  dstMac    : BitVec 48
  srcMac    : BitVec 48
  bcast     : Bool
  etherType : BitVec 16
  ipv4Dst   : Word
  ipv4Src   : Word
  fragment  : Bool
  ipProto   : Byte
  icmpType  : Byte
  udpDst    : BitVec 16
  udpSrc    : BitVec 16
  udpSumOk  : Bool
  udpSum    : BitVec 16
  ptpType   : BitVec 4
  ptpDomain : Byte
  corrField : Dword
  payload   : List Byte
deriving DecidableEq, Repr

/-- An Announce message (R412): domain, transport (UDP or Ethernet), the identity of its sender as clock and port, the data set of its
grandmaster that the best master clock algorithm compares, stepsRemoved, logAnnounceInterval. -/
structure Announce where
  domain    : Byte
  udp       : Bool
  master    : Dword
  portNo    : BitVec 16
  priority1 : Byte
  clkClass  : Byte
  accuracy  : Byte
  variance  : BitVec 16
  priority2 : Byte
  gm        : Dword
  steps     : BitVec 16
  logInterval : Int
deriving DecidableEq, Repr

/-- A Sync or Follow_Up message (R411, R413): domain, transport, the clock that sent it, logSyncInterval; `origin` is the master's time
in ns as seconds and nanoseconds, `corr` the correction in ns. -/
structure SyncMsg where
  domain  : Byte
  udp     : Bool
  master  : Dword
  twoStep : Bool
  seq     : BitVec 16
  logInterval : Int
  originS : BitVec 48
  originN : Word
  corr    : Int
deriving DecidableEq, Repr

/-- A CAN frame (R445). -/
structure CanFrame where
  ide   : Bool
  id    : BitVec 29
  fdf   : Bool
  brs   : Bool
  dlc   : BitVec 4
  crcOk : Bool
  data  : List Byte
deriving DecidableEq, Repr

/-- A command frame of the control die to the field die (R428): the 32 output slots of lines 4 to 7 in
slot order, DRIVE and SAFE. -/
structure FieldCmd where
  crcOk : Bool
  drive : Bool
  safe  : Bool
  outs  : List Word
deriving DecidableEq, Repr

/-- What the field die measures up to its sample instant (R428, R434, R435, R441). Of each input channel since the sample before,
as runs of a constant reading and their length in µs: the DI level, whether the DI current lies below 0.35 mA, the AI current in
mA as binary32. At the instant: L+ in V, the field-die temperature in degrees, DO outputs above 12 V, the DO faults that stand
(the places of word 24), AO readback currents in mA, and the channels whose last self-test failed (R442). -/
structure FieldIn where
  di      : List (List (Bool × Nat))
  diWire  : List (List (Bool × Nat))
  ai      : List (List (Word × Nat))
  lplus   : Word
  temp    : Word
  doHigh  : Byte
  doFault : Word
  aoRead  : List Word
  diFail  : BitVec 16
  aoFail  : BitVec 4
  aiFail  : BitVec 4
deriving DecidableEq, Repr

/-- One slot of a field-die status frame: VALUE and the quality bits of R432. -/
structure FieldSlot where
  value : Word
  qual  : Byte
deriving DecidableEq, Repr

/-- A datagram on the service channel (R416): interface 0 service port, 1 plant A, 2 plant B, its source, whether its
UDP checksum is correct and is not 0, and its payload. -/
structure SvcDatagram where
  iface  : Fin 3
  ip     : Word
  port   : BitVec 16
  sumOk  : Bool
  sumZero : Bool
  bytes  : List Byte
deriving DecidableEq, Repr

/-- A status frame of the field die (R428, R431): the 64 slots of station L and the result of a self-test slice as
(item, channel, passed). -/
structure FieldStatus where
  crcOk : Bool
  slots : List FieldSlot
  wdExpired : Bool
  result : Option (Nat × Nat × Bool)
deriving DecidableEq, Repr

/-- A Delay_Resp message (R411, R413): domain, transport, the master's receive time of the Delay_Req, its correction in ns and the rate it
requests. -/
structure DelayResp where
  domain : Byte
  udp    : Bool
  master : Dword
  seq    : BitVec 16
  rxS    : BitVec 48
  rxN    : Word
  corr   : Int
  logInterval : Int
deriving DecidableEq, Repr

/-- A station type as a marionette carries it from power-up (R195, R198, R211): its roll-call data, its layout as
run words, its power-up safe values and whether it is a triad object controller with its objects, each a list of output
run indices. -/
structure MarioType where
  typ    : Word
  serial : Dword
  fw     : Word
  nin    : Nat
  nout   : Nat
  runs   : List Word
  caps   : Byte
  dAB    : BitVec 16
  dBA    : BitVec 16
  safe   : List Word
  objects : List (List Nat)
deriving DecidableEq, Repr

/-- The rails of groups 1 to 3 (R453). -/
inductive Rail where | aon | io | core | sram | sd | sdh | m1 | m2 | mq
deriving DecidableEq, Repr

/-- What one tail measures (R500, R505, R536): junction and field-die temperatures in 0.1 degrees, the ten
rail margins in mV, the item codes whose slice of this tail fails, the lines that the scrub slice of this tail corrects, whether
the duplicate bank disagrees in an injection test of this tail (R169), the bay whose engine-local SRAM holds the block that the
March slice of this tail tests, none for any other SRAM. -/
structure TailEnv where
  tj     : BitVec 16
  tfield : BitVec 16
  margins : List (BitVec 16)
  fails  : List Nat
  scrub  : Nat
  dup    : Bool := false
  marchBay : Option (Fin 3) := none
deriving DecidableEq, Repr

/-- What the two comparator banks report beside the true comparison (R168, R169): whether the injected
comparison reports a match, and whether the duplicate channel disagrees with the normal comparator. -/
structure CmpEnv where
  injMatch : Bool
  dupDisagrees : Bool
deriving DecidableEq, Repr

/-- Kinds of access that the colour gate checks (R371). -/
inductive AccKind where | read | write | fetch | rmw
deriving DecidableEq, Repr

/-- What a station takes at its sample instant (R194, R217): `values`, one for each input slot in layout order; `status`, what the
station itself reports: VALID in bit 0, FAULT in bit 9, its own bits [31:16]. -/
structure Sample where
  values : List Word
  status : Word
deriving DecidableEq, Repr

/-- Fault events of a bay (R171). -/
inductive BayEvent where | corrected | gatherScatter | march | bist
deriving DecidableEq, Repr

/-- Faults that the clock monitor measures (R532), with their length in ns. -/
inductive ClockEvent where
  | refRange (ns : Nat) | refStop (ns : Nat) | pllUnlock (ns : Nat) | laneRefStop (ns : Nat) (enabled : Bool)
deriving DecidableEq, Repr

/-- Conditions on a CAN bus that may wake a sleeping port (R451). -/
inductive WakeEvent where
  | dominant (ns : Nat) | frame (f : CanFrame)
deriving DecidableEq, Repr

end Sys2Proof
end

