-- ==== Sys2Proof/Syntax.lean ====
section
/-!
DEFINITION. The commands of the block: one constructor for each row of spec/opcode_table.json, in the table's order
within each part, with the row's operands. What arrives from outside (a frame, a measured value, the name of a port) is
an operand. Azwin instructions name the engine that executes them.
-/
namespace Sys2Proof

/-- The commands (opcode_table.json). -/
inductive Instr where
  /-- `REGISTER_WRITE` (R5). -/
  | registerWrite (ctx : Fin 64) (addr : Word) (size : Nat) (val : Word)
  /-- `READ_CLEAR` (R5). -/
  | readClear (ctx : Fin 64) (addr : Word) (size : Nat)
  /-- `TICK_NUM_LO_READ` (R53). -/
  | tickNumLoRead
  /-- `TICK_START_LO_READ` (R53). -/
  | tickStartLoRead
  /-- `TIME_NS_READ` (R406). -/
  | timeNsRead
  /-- `TUMB_TIME_LO_READ` (R364). -/
  | tumbTimeLoRead
  /-- `MIRR_LAST_LO_READ` (R293). -/
  | mirrLastLoRead
  /-- `PLX_TSQ_ID_READ` (R405). -/
  | plxTsqIdRead (p : PlantPort)
  /-- `GATE_VQ0_READ` (R379). -/
  | gateVq0Read
  /-- `PD_OFF_REQUEST` (R19). -/
  | pdOffRequest (d : Fin 12)
  /-- `PD_ON_REQUEST` (R20). -/
  | pdOnRequest (d : Fin 12)
  /-- `PD_POWER_UP_DONE` (R20). -/
  | pdPowerUpDone (d : Fin 12)
  /-- `TICK_RUN` (R54). -/
  | tickRun
  /-- `TIME_LOAD` (R408). -/
  | timeLoad
  /-- `TIME_INC_WRITE` (R407). -/
  | timeIncWrite (v : Word)
  /-- `TUMB_CMD_TRIP` (R364). -/
  | tumbCmdTrip (key : BitVec 16)
  /-- `RACK_CMD_WAKE` (R473). -/
  | rackCmdWake (tgt : BitVec 6)
  /-- `RACK_CMD_PARK` (R473). -/
  | rackCmdPark (tgt : BitVec 6)
  /-- `RETAG_GO` (R379). -/
  | retagGo (count : BitVec 22) (colour : BitVec 4)
  /-- `RETAG_DONE` (R366). -/
  | retagDone
  /-- `CAN_SLEEP` (R451). -/
  | canSleep (p : Fin 2)
  /-- `TICK_BOUNDARY` (R31). -/
  | tickBoundary
  /-- `FREEZE_DONE_POINT` (R39). -/
  | freezeDonePoint
  /-- `GATHER` (R76). -/
  | gather
  /-- `EXECUTE_WINDOW_START` (R40). -/
  | executeWindowStart
  /-- `EXECUTE_WINDOW_END` (R41). -/
  | executeWindowEnd
  /-- `DISPATCH` (R44). -/
  | dispatch
  /-- `TAIL_START` (R34). -/
  | tailStart (env : TailEnv)
  /-- `TICK_WATCHDOG_EXPIRY` (R47). -/
  | tickWatchdogExpiry (intervalNs : Nat)
  /-- `TICK_REFERENCE_LOST` (R50). -/
  | tickReferenceLost
  /-- `REPLY_RECEIVE` (R64). -/
  | replyReceive (port : Fin 16) (f : Frame)
  /-- `FORCE_APPLY` (R72). -/
  | forceApply
  /-- `IMAGE_ECC_TRIP` (R69). -/
  | imageEccTrip (addr : Word)
  /-- `DEFERRED_COMMIT` (R269). -/
  | deferredCommit
  /-- `TWIN_COMPARE` (R165). -/
  | twinCompare (t : Fin 6) (env : CmpEnv)
  /-- `INJECTION_INTERVAL_EXPIRY` (R168). -/
  | injectionIntervalExpiry (t : Fin 6)
  /-- `INJECTION_TEST_TAIL` (R168). -/
  | injectionTestTail (t : Fin 6) (env : CmpEnv)
  /-- `ENGINE_SRAM_ECC_ERROR` (R166). -/
  | engineSramEccError (e : Fin 12)
  /-- `BAY_FAULT_EVENT` (R171). -/
  | bayFaultEvent (b : Fin 3) (k : BayEvent)
  /-- `BAY_WINDOW_CLEAR` (R171). -/
  | bayWindowClear
  /-- `FENCE_DECISION` (R172). -/
  | fenceDecision
  /-- `FENCE_EFFECT` (R174). -/
  | fenceEffect
  /-- `BAY_DRAINED` (R174). -/
  | bayDrained (b : Fin 3)
  /-- `STRING_PORT_UP` (R179). -/
  | stringPortUp (str : Fin 16)
  /-- `STRING_PORT_DOWN` (R179). -/
  | stringPortDown (str : Fin 16)
  /-- `CUE_SEND` (R220). -/
  | cueSend (str : Fin 16)
  /-- `RELAY_CUE_SEND` (R236). -/
  | relayCueSend (str : Fin 16) (fs : List Frame)
  /-- `ROLLCALL_SEND` (R202). -/
  | rollcallSend (str : Fin 16)
  /-- `ROLLCALL_ANSWER_RECEIVE` (R206). -/
  | rollcallAnswerReceive (port : Fin 16) (f : Frame)
  /-- `DELAYS_RECEIVE` (R538). -/
  | delaysReceive (f : Frame)
  /-- `ADMISSION_REQUEST_SEND` (R213). -/
  | admissionRequestSend (str : Fin 16) (pos : Fin 128)
  /-- `SERVICE_RSP_RECEIVE` (R213). -/
  | serviceRspReceive (port : Fin 16) (f : Frame)
  /-- `SERVICE_REQ_TIMEOUT` (R214). -/
  | serviceReqTimeout (str : Fin 16)
  /-- `STATION_ADMIT` (R213). -/
  | stationAdmit (str : Fin 16) (pos : Fin 128)
  /-- `STATION_ADMISSION_LOSS` (R210). -/
  | stationAdmissionLoss (str : Fin 16) (pos : Fin 128)
  /-- `ADMIT_SEND` (R539). -/
  | admitSend
  /-- `ADMIT_RECEIVE` (R539). -/
  | admitReceive (f : Frame)
  /-- `PROBATION_START` (R233). -/
  | probationStart (str : Fin 16) (pos : Fin 128)
  /-- `PROBATION_END` (R234). -/
  | probationEnd (str : Fin 16) (pos : Fin 128)
  /-- `REJOIN_ACK_SET` (R151). -/
  | rejoinAckSet (station : Fin 2049)
  /-- `HEARD_MAPS_SEND` (R235). -/
  | heardMapsSend
  /-- `HEARD_MAPS_RECEIVE` (R235). -/
  | heardMapsReceive (maps : List (BitVec 128))
  /-- `RELAY_END` (R235). -/
  | relayEnd (str : Fin 16)
  /-- `FORWARDED_REPLY_RECEIVE` (R237). -/
  | forwardedReplyReceive (str : Fin 16) (f : Frame)
  /-- `MARIONETTE_FORWARD` (R183). -/
  | marionetteForward (m : Fin 6144) (port : MPort) (f : Frame)
  /-- `MARIONETTE_PORT_DOWN` (R185). -/
  | marionettePortDown (m : Fin 6144) (port : MPort)
  /-- `MARIONETTE_ROLLCALL_RECEIVE` (R203). -/
  | marionetteRollcallReceive (m : Fin 6144) (port : MPort) (t : Dword) (f : Frame)
  /-- `ROLLCALL_ANSWER_SEND` (R204). -/
  | rollcallAnswerSend (m : Fin 6144) (turn : Word)
  /-- `SERVICE_REQ_READ` (R215). -/
  | serviceReqRead (m : Fin 6144) (port : MPort) (f : Frame)
  /-- `SERVICE_REQ_WRITE` (R215). -/
  | serviceReqWrite (m : Fin 6144) (port : MPort) (f : Frame)
  /-- `SERVICE_REQ_COMMIT` (R215). -/
  | serviceReqCommit (m : Fin 6144) (port : MPort) (f : Frame)
  /-- `SERVICE_REQ_DISCARD` (R215). -/
  | serviceReqDiscard (m : Fin 6144) (port : MPort) (f : Frame)
  /-- `MARIONETTE_CUE_RECEIVE` (R226). -/
  | marionetteCueReceive (m : Fin 6144) (port : MPort) (t : Dword) (f : Frame)
  /-- `MARIONETTE_RELEASE_RECEIVE` (R230). -/
  | marionetteReleaseReceive (m : Fin 6144) (port : MPort) (f : Frame)
  /-- `STATION_SAMPLE` (R217). -/
  | stationSample (m : Fin 6144) (smp : Sample) (quals : List Byte)
  /-- `STATION_REPLY_SEND` (R222). -/
  | stationReplySend (m : Fin 6144)
  /-- `STATION_APPLY` (R227). -/
  | stationApply (m : Fin 6144)
  /-- `STATION_HOLD_EXPIRY` (R228). -/
  | stationHoldExpiry (m : Fin 6144)
  /-- `OBJECT_CONTROLLER_APPLY` (R312). -/
  | objectControllerApply (site : Fin 2048)
  /-- `PAIR_LANE_UP` (R242). -/
  | pairLaneUp (lane : Fin 2)
  /-- `PAIR_LANE_DOWN` (R242). -/
  | pairLaneDown (lane : Fin 2)
  /-- `HEARTBEAT_SEND` (R243). -/
  | heartbeatSend
  /-- `HEARTBEAT_RECEIVE` (R244). -/
  | heartbeatReceive (f : Frame)
  /-- `GRANT_SEND` (R249). -/
  | grantSend
  /-- `GRANT_RECEIVE` (R246). -/
  | grantReceive (f : Frame)
  /-- `HELLO_SEND` (R262). -/
  | helloSend
  /-- `HELLO_RECEIVE` (R263). -/
  | helloReceive (f : Frame)
  /-- `PAIR_TRIP_RECEIVE` (R253). -/
  | pairTripReceive (f : Frame)
  /-- `LEASE_POINT` (R246). -/
  | leasePoint
  /-- `CLAIM_TICK_START` (R253). -/
  | claimTickStart
  /-- `CLAIM_TICK_END` (R255). -/
  | claimTickEnd
  /-- `HANDOVER` (R260). -/
  | handover
  /-- `HANDOVER_CHECK` (R260). -/
  | handoverCheck
  /-- `HANDOVER_TICK` (R260). -/
  | handoverTick
  /-- `HANDOVER_BOUNDARY` (R260). -/
  | handoverBoundary
  /-- `HANDOVER_UNCONFIRMED` (R260). -/
  | handoverUnconfirmed
  /-- `START_WINDOW_EXPIRY` (R263). -/
  | startWindowExpiry
  /-- `SPARE_WAIT_EXPIRY` (R467). -/
  | spareWaitExpiry
  /-- `MIRROR_STREAM_START` (R270). -/
  | mirrorStreamStart
  /-- `MIRR_COMMIT_SEND` (R270). -/
  | mirrCommitSend
  /-- `MIRROR_RECORD_LIMIT` (R271). -/
  | mirrorRecordLimit
  /-- `MIRR_DATA_RECEIVE` (R275). -/
  | mirrDataReceive (f : Frame)
  /-- `MIRR_COMMIT_RECEIVE` (R275). -/
  | mirrCommitReceive (f : Frame)
  /-- `MIRROR_APPLY_DONE` (R275). -/
  | mirrorApplyDone
  /-- `MIRR_ACK_RECEIVE` (R277). -/
  | mirrAckReceive (f : Frame)
  /-- `RECOPY_START` (R286). -/
  | recopyStart
  /-- `COPY_DATA_SEND` (R285). -/
  | copyDataSend (n : Nat)
  /-- `SWEEP_SEND` (R287). -/
  | sweepSend
  /-- `SWEEP_RECEIVE` (R288). -/
  | sweepReceive (f : Frame)
  /-- `SWEEP_ANSWER_RECEIVE` (R288). -/
  | sweepAnswerReceive (f : Frame)
  /-- `REHEARSAL_SELECT` (R289). -/
  | rehearsalSelect
  /-- `REHEARSE_IN_RECEIVE` (R290). -/
  | rehearseInReceive (f : Frame)
  /-- `REHEARSE_OUT_RECEIVE` (R290). -/
  | rehearseOutReceive (f : Frame)
  /-- `REHEARSAL_COMPARE` (R290). -/
  | rehearsalCompare
  /-- `TRIAD_LINK_UP` (R295). -/
  | triadLinkUp (l : TriLink)
  /-- `TRIAD_LINK_DOWN` (R295). -/
  | triadLinkDown (l : TriLink)
  /-- `TSYNC_SEND` (R297). -/
  | tsyncSend
  /-- `TSYNC_RECEIVE` (R297). -/
  | tsyncReceive (l : TriLink) (f : Frame)
  /-- `INPUT_PHASE_START` (R302). -/
  | inputPhaseStart
  /-- `IDIG_RECEIVE` (R302). -/
  | idigReceive (l : TriLink) (f : Frame)
  /-- `BLOCK_EXCHANGE_START` (R301). -/
  | blockExchangeStart
  /-- `IBLK_RECEIVE` (R304). -/
  | iblkReceive (l : TriLink) (f : Frame)
  /-- `INPUT_VOTE` (R305). -/
  | inputVote
  /-- `VOTE_DEADLINE` (R302). -/
  | voteDeadline
  /-- `OUTPUT_PHASE_START` (R302). -/
  | outputPhaseStart
  /-- `ODIG_RECEIVE` (R302). -/
  | odigReceive (l : TriLink) (f : Frame)
  /-- `OBLK_RECEIVE` (R304). -/
  | oblkReceive (l : TriLink) (f : Frame)
  /-- `OUTPUT_VOTE` (R309). -/
  | outputVote
  /-- `TRIAD_SELF_TRIP` (R310). -/
  | triadSelfTrip
  /-- `TRIAD_TRIP_RECEIVE` (R308). -/
  | triadTripReceive (l : TriLink) (f : Frame)
  /-- `TRIAD_FORCE_RECEIVE` (R317). -/
  | triadForceReceive (l : TriLink) (f : Frame)
  /-- `FORCE_EFFECT` (R317). -/
  | forceEffect
  /-- `RS_DATA_RECEIVE` (R315). -/
  | rsDataReceive (l : TriLink) (f : Frame)
  /-- `RS_COMMIT_RECEIVE` (R315). -/
  | rsCommitReceive (l : TriLink) (f : Frame)
  /-- `JOIN_COMPARE` (R316). -/
  | joinCompare
  /-- `COLD_START_PROPOSE` (R314). -/
  | coldStartPropose
  /-- `COLD_START_ENTER` (R314). -/
  | coldStartEnter
  /-- `SWITCH_MESSAGE_RECEIVE` (R333). -/
  | switchMessageReceive (l : TriLink) (f : Frame)
  /-- `CHANGE_STAGE` (R325). -/
  | changeStage
  /-- `STAGE_COMPLETE` (R325). -/
  | stageComplete
  /-- `CHANGE_SWITCH` (R332). -/
  | changeSwitch
  /-- `SWITCH_TICK` (R332). -/
  | switchTick
  /-- `SWITCH_STOP_END` (R332). -/
  | switchStopEnd
  /-- `SWITCH_RESUME` (R332). -/
  | switchResume
  /-- `CHANGE_ROLLBACK` (R336). -/
  | changeRollback
  /-- `CHANGE_COMPLETE` (R337). -/
  | changeComplete
  /-- `VERSION_SEND` (R334). -/
  | versionSend
  /-- `VERSION_RECEIVE` (R335). -/
  | versionReceive (f : Frame)
  /-- `FIELD_DIE_SILENCE` (R345). -/
  | fieldDieSilence
  /-- `TELEGRAM_RECEIVE` (R356). -/
  | telegramReceive (p : PlantPort) (udpPort : BitVec 16) (payload : List Byte)
  /-- `TELEGRAM_SKEW_EXPIRY` (R356). -/
  | telegramSkewExpiry (conn : Byte)
  /-- `TELEGRAM_WATCHDOG_EXPIRY` (R356). -/
  | telegramWatchdogExpiry (conn : Byte)
  /-- `PASSWORD_LOCK_EXPIRY` (R359). -/
  | passwordLockExpiry
  /-- `TAG_ECC_ERROR` (R377). -/
  | tagEccError (addr : Word) (uncorrectable : Bool)
  /-- `POWER_ON_RESET` (R455). -/
  | powerOnReset
  /-- `RESET_N_ASSERT` (R457). -/
  | resetNAssert
  /-- `TAP_SYSRESET` (R456). -/
  | tapSysreset
  /-- `BOOT_STEP_OVERRUN` (R470). -/
  | bootStepOverrun
  /-- `DBG_NONCE` (R395). -/
  | dbgNonce
  /-- `DBG_HOLD` (R395). -/
  | dbgHold
  /-- `DBG_TOKEN` (R396). -/
  | dbgToken (token : List Byte)
  /-- `DEBUG_HOLD_TIMEOUT` (R395). -/
  | debugHoldTimeout
  /-- `ATTEST` (R391). -/
  | attest
  /-- `LIFECYCLE_SEAL` (R393). -/
  | lifecycleSeal
  /-- `LIFECYCLE_RETIRE` (R393). -/
  | lifecycleRetire
  /-- `KEYSLOT` (R394). -/
  | keyslot
  /-- `SECURITY_ENGINE_FAULT` (R398). -/
  | securityEngineFault (code : Byte)
  /-- `PLANT_PORT_UP` (R399). -/
  | plantPortUp (p : PlantPort)
  /-- `PLANT_FRAME_RECEIVE` (R400). -/
  | plantFrameReceive (p : PlantPort) (fr : PlantFrame)
  /-- `ARP_REQUEST` (R400). -/
  | arpRequest (p : PlantPort) (fr : PlantFrame)
  /-- `ICMP_ECHO_REQUEST` (R400). -/
  | icmpEchoRequest (p : PlantPort) (fr : PlantFrame)
  /-- `LINE_FORWARD` (R402). -/
  | lineForward (p : PlantPort) (fr : PlantFrame) (residenceNs : Nat)
  /-- `ANNOUNCE_RECEIVE` (R412). -/
  | announceReceive (p : PlantPort) (a : Announce)
  /-- `SYNC_RECEIVE` (R413). -/
  | syncReceive (p : PlantPort) (sy : SyncMsg)
  /-- `FOLLOW_UP_RECEIVE` (R413). -/
  | followUpReceive (p : PlantPort) (sy : SyncMsg)
  /-- `DELAY_REQ_SEND` (R411). -/
  | delayReqSend (p : PlantPort) (id : BitVec 16)
  /-- `DELAY_RESP_RECEIVE` (R413). -/
  | delayRespReceive (p : PlantPort) (dr : DelayResp)
  /-- `ANNOUNCE_RECEIPT_TIMEOUT` (R414). -/
  | announceReceiptTimeout (p : PlantPort)
  /-- `SERVICE_REQUEST_RECEIVE` (R423). -/
  | serviceRequestReceive (d : SvcDatagram)
  /-- `LOGIN` (R419). -/
  | login
  /-- `LOGOUT` (R419). -/
  | logout
  /-- `PASSWORD` (R358). -/
  | password
  /-- `READ` (R421). -/
  | read
  /-- `WRITE` (R422). -/
  | write
  /-- `VARIABLE_WRITE_APPLY` (R422). -/
  | variableWriteApply
  /-- `FORCE` (R73). -/
  | force
  /-- `UNFORCE` (R72). -/
  | unforce
  /-- `SLOT_WRITE` (R420). -/
  | slotWrite
  /-- `RESTART` (R350). -/
  | restart
  /-- `BAY_CLEAR` (R176). -/
  | bayClear
  /-- `LOG_READ` (R360). -/
  | logRead
  /-- `HEALTH` (R505). -/
  | health
  /-- `SESSION_IDLE_TIMEOUT` (R419). -/
  | sessionIdleTimeout
  /-- `FIELD_COMMAND_SEND` (R429). -/
  | fieldCommandSend
  /-- `FIELD_COMMAND_RECEIVE` (R429). -/
  | fieldCommandReceive (c : FieldCmd)
  /-- `FIELD_APPLY` (R429). -/
  | fieldApply
  /-- `FIELD_SAMPLE` (R428). -/
  | fieldSample (x : FieldIn)
  /-- `FIELD_STATUS_RECEIVE` (R428). -/
  | fieldStatusReceive (st : FieldStatus)
  /-- `FIELD_HOLD_EXPIRY` (R429). -/
  | fieldHoldExpiry
  /-- `FIELD_WATCHDOG_EXPIRY` (R430). -/
  | fieldWatchdogExpiry
  /-- `DO_OVERLOAD` (R436). -/
  | doOverload (ch : Fin 8)
  /-- `DO_OVERTEMP` (R436). -/
  | doOvertemp (ch : Fin 8)
  /-- `DO_GROUP_OVERLOAD` (R436). -/
  | doGroupOverload (g : Fin 2)
  /-- `DO_OPEN_WIRE` (R438). -/
  | doOpenWire (ch : Fin 8) (present : Bool)
  /-- `DO_TEST_PULSE` (R438). -/
  | doTestPulse (ch : Fin 8)
  /-- `DO_PULSE_END` (R438). -/
  | doPulseEnd (ch : Fin 8) (fell : Bool)
  /-- `AO_COMPLIANCE` (R440). -/
  | aoCompliance (ch : Fin 4) (reached : Word)
  /-- `AO_READBACK_FAULT` (R440). -/
  | aoReadbackFault (ch : Fin 4) (present : Bool)
  /-- `L_PLUS_LOW` (R443). -/
  | lPlusLow (low : Bool)
  /-- `CAN_FRAME_RECEIVE` (R447). -/
  | canFrameReceive (p : Fin 2) (f : CanFrame)
  /-- `CAN_SEND_DUE` (R448). -/
  | canSendDue (p : Fin 2)
  /-- `CAN_TX_COMPLETE` (R449). -/
  | canTxComplete (p : Fin 2)
  /-- `CAN_TX_ERROR` (R449). -/
  | canTxError (p : Fin 2)
  /-- `CAN_BUS_OFF` (R450). -/
  | canBusOff (p : Fin 2)
  /-- `CAN_BUS_OFF_RECOVERY` (R445). -/
  | canBusOffRecovery (p : Fin 2)
  /-- `CAN_WAKE` (R451). -/
  | canWake (p : Fin 2) (ev : WakeEvent)
  /-- `SUPPLY_MONITOR` (R455). -/
  | supplyMonitor (rail : Rail) (ns : Nat)
  /-- `CLOCK_MONITOR` (R532). -/
  | clockMonitor (ev : ClockEvent)
  /-- `PWR_FAIL_ASSERT` (R460). -/
  | pwrFailAssert
  /-- `RETAIN_FLUSH_DONE` (R460). -/
  | retainFlushDone
  /-- `RETAIN_GENERATION_COMMIT` (R459). -/
  | retainGenerationCommit
  /-- `RACK_FRAME_RECEIVE` (R464). -/
  | rackFrameReceive (w : BitVec 24)
  /-- `RACK_FRAME_SEND` (R463). -/
  | rackFrameSend
  /-- `CHAIN_HEAD_DETECT` (R464). -/
  | chainHeadDetect
  /-- `SELFTEST_PASS_DUE` (R499). -/
  | selftestPassDue (item : Fin 11)
  /-- `ITEM_AGED` (R503). -/
  | itemAged (item : Fin 11)
  /-- `PANEL_UPDATE_START` (R514). -/
  | panelUpdateStart
  /-- `PANEL_RECORD_COMMITTED` (R514). -/
  | panelRecordCommitted
  /-- `PANEL_UPDATE_DONE` (R514). -/
  | panelUpdateDone
  /-- `PANEL_AON_REDRAW` (R516). -/
  | panelAonRedraw
  /-- `NOP` (R98). -/
  | nop (e : Fin 12)
  /-- `MOV` (R98). -/
  | mov (e : Fin 12) (d : Dst) (a : Src)
  /-- `SEL` (R98). -/
  | sel (e : Fin 12) (d : Fin 64) (a b : Src)
  /-- `CVT` (R98). -/
  | cvt (e : Fin 12) (d : Dst) (a : Src) (frm into : K) (rm : RoundMode)
  /-- `SATW` (R98). -/
  | satw (e : Fin 12) (d : Dst) (a : Src) (ty : SatType)
  /-- `LDX` (R98). -/
  | ldx (e : Fin 12) (d : Dst) (a : Src) (off : BitVec 26) (ty : MemType) (count : Word)
  /-- `STX` (R98). -/
  | stx (e : Fin 12) (a b : Src) (off : BitVec 26) (ty : MemType) (count : Word)
  /-- `LDXG` (R98). -/
  | ldxg (e : Fin 12) (d : Dst) (a : Src) (pos : BitVec 14) (ty : SlotType) (part : SlotPart) (count : Word)
  /-- `LDXK` (R98). -/
  | ldxk (e : Fin 12) (d : Dst) (a : Src) (idx : BitVec 13) (ty : MemType) (count : Word)
  /-- `STXO` (R98). -/
  | stxo (e : Fin 12) (a b : Src) (h : BitVec 23) (ty : SlotType) (qual : Bool) (count : Word)
  /-- `ADD` (R99). -/
  | add (e : Fin 12) (k : K) (d : Dst) (a b : Src)
  /-- `SUB` (R99). -/
  | sub (e : Fin 12) (k : K) (d : Dst) (a b : Src)
  /-- `MUL` (R99). -/
  | mul (e : Fin 12) (k : K) (d : Dst) (a b : Src)
  /-- `DIV` (R99). -/
  | div (e : Fin 12) (k : K) (d : Dst) (a b : Src)
  /-- `REM` (R99). -/
  | rem (e : Fin 12) (k : IntK) (d : Dst) (a b : Src)
  /-- `ADDS` (R99). -/
  | adds (e : Fin 12) (k : IntK) (d : Dst) (a b : Src)
  /-- `SUBS` (R99). -/
  | subs (e : Fin 12) (k : IntK) (d : Dst) (a b : Src)
  /-- `MULS` (R99). -/
  | muls (e : Fin 12) (k : IntK) (d : Dst) (a b : Src)
  /-- `NEG` (R99). -/
  | neg (e : Fin 12) (k : K) (d : Dst) (a : Src)
  /-- `ABS` (R99). -/
  | abs (e : Fin 12) (k : K) (d : Dst) (a : Src)
  /-- `MIN` (R99). -/
  | min (e : Fin 12) (k : K) (d : Dst) (a b : Src)
  /-- `MAX` (R99). -/
  | max (e : Fin 12) (k : K) (d : Dst) (a b : Src)
  /-- `CEQ` (R99). -/
  | ceq (e : Fin 12) (k : K) (d : Dst) (a b : Src)
  /-- `CNE` (R99). -/
  | cne (e : Fin 12) (k : K) (d : Dst) (a b : Src)
  /-- `CLT` (R99). -/
  | clt (e : Fin 12) (k : K) (d : Dst) (a b : Src)
  /-- `CLE` (R99). -/
  | cle (e : Fin 12) (k : K) (d : Dst) (a b : Src)
  /-- `SQRT` (R99). -/
  | sqrt (e : Fin 12) (k : RealK) (d : Dst) (a : Src)
  /-- `LIM` (R99). -/
  | lim (e : Fin 12) (k : K) (d : Fin 64) (a b : Src)
  /-- `AND` (R101). -/
  | and (e : Fin 12) (d : Dst) (a b : Src)
  /-- `OR` (R101). -/
  | or (e : Fin 12) (d : Dst) (a b : Src)
  /-- `XOR` (R101). -/
  | xor (e : Fin 12) (d : Dst) (a b : Src)
  /-- `NOT` (R101). -/
  | not (e : Fin 12) (d : Dst) (a : Src)
  /-- `SHL` (R101). -/
  | shl (e : Fin 12) (d : Dst) (a b : Src)
  /-- `SHR` (R101). -/
  | shr (e : Fin 12) (d : Dst) (a b : Src)
  /-- `SAR` (R101). -/
  | sar (e : Fin 12) (d : Dst) (a b : Src)
  /-- `ROL` (R101). -/
  | rol (e : Fin 12) (d : Dst) (a b : Src)
  /-- `BTST` (R101). -/
  | btst (e : Fin 12) (d : Dst) (a b : Src)
  /-- `BSET` (R101). -/
  | bset (e : Fin 12) (d : Dst) (a b : Src)
  /-- `BCLR` (R101). -/
  | bclr (e : Fin 12) (d : Dst) (a b : Src)
  /-- `LNOT` (R101). -/
  | lnot (e : Fin 12) (d : Dst) (a : Src)
  /-- `BFX` (R101). -/
  | bfx (e : Fin 12) (d : Dst) (a : Src) (pos lenM1 : BitVec 6)
  /-- `BINS` (R101). -/
  | bins (e : Fin 12) (d : Fin 64) (a : Src) (pos lenM1 : BitVec 6)
  /-- `POPC` (R101). -/
  | popc (e : Fin 12) (d : Dst) (a : Src)
  /-- `QTEST` (R101). -/
  | qtest (e : Fin 12) (d : Dst) (a b : Src)
  /-- `QANY` (R101). -/
  | qany (e : Fin 12) (d : Dst) (a b : Src)
  /-- `QMRG` (R101). -/
  | qmrg (e : Fin 12) (d : Dst) (a b : Src)
  /-- `BR` (R103). -/
  | br (e : Fin 12) (off : BitVec 16)
  /-- `BRT` (R103). -/
  | brt (e : Fin 12) (c : Src) (off : BitVec 16)
  /-- `BRF` (R103). -/
  | brf (e : Fin 12) (c : Src) (off : BitVec 16)
  /-- `LOOP` (R104). -/
  | loop (e : Fin 12) (ctr : Fin 64) (count : Src) (bound n : BitVec 16)
  /-- `CALL` (R105). -/
  | call (e : Fin 12) (vd va : Fin 64) (fn : Byte)
  /-- `RET` (R105). -/
  | ret (e : Fin 12) (vr : Fin 64)
  /-- `END` (R105). -/
  | endTask (e : Fin 12)
  /-- `TON` (R126). -/
  | ton (e : Fin 12) (d : Dst) (a b : Src) (key : Word)
  /-- `TOF` (R126). -/
  | tof (e : Fin 12) (d : Dst) (a b : Src) (key : Word)
  /-- `TP` (R126). -/
  | tp (e : Fin 12) (d : Dst) (a b : Src) (key : Word)
  /-- `RTRIG` (R127). -/
  | rtrig (e : Fin 12) (d : Dst) (a : Src) (key : Word)
  /-- `FTRIG` (R127). -/
  | ftrig (e : Fin 12) (d : Dst) (a : Src) (key : Word)
  /-- `CTU` (R128). -/
  | ctu (e : Fin 12) (d : Dst) (va : Fin 64) (b : Src) (key : Word)
  /-- `CTD` (R128). -/
  | ctd (e : Fin 12) (d : Dst) (va : Fin 64) (b : Src) (key : Word)
  /-- `CTUD` (R128). -/
  | ctud (e : Fin 12) (d : Dst) (va : Fin 64) (b : Src) (key : Word)
  /-- `HYST` (R129). -/
  | hyst (e : Fin 12) (d : Dst) (a : Src) (vb : Fin 64) (key : Word)
  /-- `INTG` (R130). -/
  | intg (e : Fin 12) (d : Dst) (a : Src) (vb : Fin 64) (key : Word)
  /-- `STEPGO` (R131). -/
  | stepgo (e : Fin 12) (d : Dst) (a b : Src) (key : Word)
  /-- `STEPIS` (R131). -/
  | stepis (e : Fin 12) (d : Dst) (a : Src) (key : Word)
  /-- `ORESET` (R132). -/
  | oreset (e : Fin 12) (a : Src) (key : Word)
  /-- `RIDX` (R107). -/
  | ridx (e : Fin 12) (d : Dst)
  /-- `RNXT` (R142). -/
  | rnxt (e : Fin 12)
  /-- `ARED` (R145). -/
  | ared (e : Fin 12) (n : Fin 16) (a : Src) (op : RedOp) (k : K)
  /-- `CLOCK` (R134). -/
  | clock (e : Fin 12) (d : Dst)
  /-- `TICKN` (R108). -/
  | tickn (e : Fin 12) (d : Dst)
  /-- `JRNL` (R152). -/
  | jrnl (e : Fin 12) (a : Src) (vb : Fin 64)
  /-- `TGSEND` (R153). -/
  | tgsend (e : Fin 12) (a : Src)
  /-- `STREQ` (R154). -/
  | streq (e : Fin 12) (a : Src)
  /-- `PANEL` (R155). -/
  | panel (e : Fin 12) (a b : Src)
  /-- `STOBJ` (R150). -/
  | stobj (e : Fin 12) (d : Dst) (a b : Src)
  /-- `STACK` (R151). -/
  | stack (e : Fin 12) (a : Src)
  /-- `RESET_N_RELEASE` (R471). -/
  | resetNRelease
  /-- `PWR_FAIL_RELEASE` (R461). -/
  | pwrFailRelease
  /-- `PLANT_PORT_DOWN` (R399). -/
  | plantPortDown (p : PlantPort)
  /-- `SERVICE_LINK_UP` (R426). -/
  | serviceLinkUp
  /-- `SERVICE_LINK_DOWN` (R426). -/
  | serviceLinkDown
  /-- `PTP_HOLDOVER_EXPIRY` (R414). -/
  | ptpHoldoverExpiry
  /-- `CAN_RX_ERROR` (R445). -/
  | canRxError (p : Fin 2)
  /-- `RACK_FRAME_GAP` (R473). -/
  | rackFrameGap
  /-- `SELFTEST_REQUEST_AGED` (R502). -/
  | selftestRequestAged (item : Fin 11)
  /-- `AON_WAVEFORM_DONE` (R516). -/
  | aonWaveformDone
  /-- `NVM_OPERATION_COMPLETE` (R494). -/
  | nvmOperationComplete
  /-- `DEBUG_ACCESS` (R371). -/
  | debugAccess (addr : Word) (size : Nat) (kind : AccKind) (data : List Byte)
  /-- `PARTNER_FRAME_RECEIVE` (R255). -/
  | partnerFrameReceive (port : Fin 16) (f : Frame)
  /-- `MARIONETTE_POWER_UP` (R211). -/
  | marionettePowerUp (m : Fin 6144) (ty : MarioType)
  /-- `MARIONETTE_POWER_LOSS` (R185). -/
  | marionettePowerLoss (m : Fin 6144)
  /-- `MARIONETTE_PORT_UP` (R185). -/
  | marionettePortUp (m : Fin 6144) (port : MPort)
deriving DecidableEq, Repr

end Sys2Proof
end

