-- ==== Sys2Proof/Machine/Bits.lean ====
section
/-!
DEFINITION. Byte order, field extraction and the cyclic redundancy checks the chapters share (R3, R161, R463).
-/
namespace Sys2Proof.Machine

/-- `n` bytes of `v`, least significant first (R3: memory, image and NVM). -/
def leBytes : Nat → Nat → List Byte
  | 0, _ => []
  | n + 1, v => BitVec.ofNat 8 v :: leBytes n (v / 256)

/-- `n` bytes of `v`, most significant first (R3: every wire). -/
def beBytes (n v : Nat) : List Byte := (leBytes n v).reverse

/-- The number that bytes hold, least significant first. -/
def ofLe : List Byte → Nat
  | [] => 0
  | b :: t => b.toNat + 256 * ofLe t

/-- The number that bytes hold, most significant first. -/
def ofBe (l : List Byte) : Nat := ofLe l.reverse

/-- `n` bytes from offset `o`; bytes past the end read 0. -/
def slice (l : List Byte) (o n : Nat) : List Byte :=
  let x := (l.drop o).take n
  x ++ List.replicate (n - x.length) 0

/-- The little-endian number in `n` bytes at offset `o`. -/
def leAt (l : List Byte) (o n : Nat) : Nat := ofLe (slice l o n)

/-- The big-endian number in `n` bytes at offset `o`. -/
def beAt (l : List Byte) (o n : Nat) : Nat := ofBe (slice l o n)

/-- Bits [lo + wid - 1 : lo] of a number. -/
def bitsOf (v lo wid : Nat) : Nat := (v >>> lo) % 2 ^ wid

/-- Bit `i` of a number. -/
def nbit (v i : Nat) : Bool := v.testBit i

/-- 1 for true, 0 for false. -/
def b2n (b : Bool) : Nat := if b then 1 else 0

/-- The low `n` bits of `v` as a signed number. -/
def signed (n v : Nat) : Int := if v % 2 ^ n < 2 ^ (n - 1) then ((v % 2 ^ n : Nat) : Int) else ((v % 2 ^ n : Nat) : Int) - 2 ^ n

/-- `x` modulo 2^n, in two's complement. -/
def wrapTo (n : Nat) (x : Int) : Nat := (x % 2 ^ n).toNat

/-- Ceiling division. -/
def cdiv (a b : Nat) : Nat := (a + b - 1) / b

/-- The polynomial of R161 (ECMA-182). -/
def crc64Poly : Dword := 0x42F0E1EBA9EA3693#64

/-- `n` single-bit steps of the CRC-64, most significant bit first. -/
def crc64Steps : Nat → Dword → Dword
  | 0, c => c
  | n + 1, c => crc64Steps n (if c.msb then (c <<< 1) ^^^ crc64Poly else c <<< 1)

/-- One byte folded into the CRC-64 (R161). -/
def crc64Byte (c : Dword) (b : Byte) : Dword := crc64Steps 8 (c ^^^ ((b.setWidth 64) <<< 56))

/-- The CRC-64 of R161 over bytes, from an initial value. -/
def crc64 (init : Dword) (l : List Byte) : Dword := l.foldl crc64Byte init

/-- 8-byte words folded least significant byte first (R161). -/
def crc64Words (init : Dword) (l : List Dword) : Dword := l.foldl (fun c w => crc64 c (leBytes 8 w.toNat)) init

/-- `n` single-bit steps of the CRC-4 of R463 over the top bits of `v` (a 20-bit field). -/
def crc4Steps : Nat → Nat → Nat → Nat
  | 0, _, c => c
  | n + 1, v, c =>
    let fb := xor (nbit c 3) (nbit v n)
    let c' := (c * 2) % 16
    crc4Steps n v (if fb then c' ^^^ 3 else c')

/-- The CRC-4 of R463 over bits [23:4] of a rack frame. -/
def crc4 (w : BitVec 24) : Nat := crc4Steps 20 (w.toNat / 16) 15

/-- The number of 1 bits among the low `n` bits. -/
def popCount : Nat → Nat → Nat
  | 0, _ => 0
  | n + 1, v => v % 2 + popCount n (v / 2)

/-- `a` and the `n - 1` numbers after it. -/
def span (a n : Nat) : List Nat := (List.range n).map (a + ·)

/-- An association list with the value at `k` put in place, a new key going to the end. -/
def aput {α β : Type} [DecidableEq α] (k : α) (v : β) : List (α × β) → List (α × β)
  | [] => [(k, v)]
  | (k', v') :: t => if k' = k then (k, v) :: t else (k', v') :: aput k v t

/-- The value at `k` of an association list. -/
def aget? {α β : Type} [DecidableEq α] (k : α) : List (α × β) → Option β
  | [] => none
  | (k', v') :: t => if k' = k then some v' else aget? k t

/-- Saturating addition at `2^n - 1`. -/
def satAdd (n a b : Nat) : Nat := min (2 ^ n - 1) (a + b)

end Sys2Proof.Machine
end

