-- ==== Sys2Proof/Machine/Float.lean ====
section
/-!
DEFINITION. IEEE 754 binary32 and binary64 as R100 uses them: round to nearest, ties to even, subnormals kept, one
canonical NaN, no flags. Values are computed exactly on numbers m × 2^e and rounded once.
-/
namespace Sys2Proof.Machine

/-- A format: mantissa bits and exponent bits. -/
structure Fmt where
  mb : Nat
  eb : Nat
deriving DecidableEq, Repr

def f32 : Fmt := ⟨23, 8⟩
def f64 : Fmt := ⟨52, 11⟩

/-- The exponent of the least significant bit of a subnormal. -/
def Fmt.low (f : Fmt) : Int := 2 - 2 ^ (f.eb - 1) - f.mb

/-- +∞, and the canonical quiet NaN (R100). -/
def Fmt.inf (f : Fmt) : Nat := (2 ^ f.eb - 1) * 2 ^ f.mb
def Fmt.nan (f : Fmt) : Nat := f.inf + 2 ^ (f.mb - 1)

/-- A sign put on a magnitude. -/
def Fmt.signed (f : Fmt) (neg : Bool) (v : Nat) : Nat := if neg then v + 2 ^ (f.mb + f.eb) else v

/-- A real as the format reads it: m × 2^e with its sign. -/
inductive Flt where
  | nan
  | inf (neg : Bool)
  | fin (neg : Bool) (m : Nat) (e : Int)
deriving DecidableEq, Repr

/-- Bits read as a real. -/
def Fmt.read (f : Fmt) (v : Nat) : Flt :=
  let neg := v.testBit (f.mb + f.eb)
  let ex := bitsOf v f.mb f.eb
  let m := v % 2 ^ f.mb
  if ex = 2 ^ f.eb - 1 then (if m = 0 then .inf neg else .nan)
  else if ex = 0 then .fin neg m f.low
  else .fin neg (2 ^ f.mb + m) (f.low + ex - 1)

/-- (m + a fraction below 1 if `sticky`) × 2^e rounded to the format. -/
def Fmt.round (f : Fmt) (neg : Bool) (m : Nat) (e : Int) (sticky : Bool) : Nat :=
  if m = 0 then f.signed neg 0
  else
    let t := max (e + (Nat.log2 m : Int) - f.mb) f.low
    let q :=
      if t ≤ e then m * 2 ^ (e - t).toNat
      else
        let sh := (t - e).toNat
        let r := m % 2 ^ sh
        let half := 2 ^ (sh - 1)
        let q := m / 2 ^ sh
        if half < r ∨ (r = half ∧ (sticky ∨ q % 2 = 1)) then q + 1 else q
    f.signed neg (min f.inf (q + (t - f.low).toNat * 2 ^ f.mb))

/-- A real written in the format. -/
def Fmt.write (f : Fmt) : Flt → Nat
  | .nan => f.nan
  | .inf neg => f.signed neg f.inf
  | .fin neg m e => f.round neg m e false

/-- m × 2^e as an integer multiple of 2^base, base ≤ e. -/
def scaled (neg : Bool) (m : Nat) (e base : Int) : Int :=
  let x : Int := m * 2 ^ (e - base).toNat
  if neg then -x else x

/-- A real negated. -/
def Flt.neg : Flt → Flt
  | .nan => .nan
  | .inf s => .inf !s
  | .fin s m e => .fin (!s) m e

/-- Sum (IEEE 754). -/
def Fmt.add (f : Fmt) (a b : Flt) : Nat :=
  match a, b with
  | .nan, _ => f.nan
  | _, .nan => f.nan
  | .inf s, .inf t => if s = t then f.signed s f.inf else f.nan
  | .inf s, _ => f.signed s f.inf
  | _, .inf t => f.signed t f.inf
  | .fin s m e, .fin t n d =>
    let base := min e d
    let x := scaled s m e base + scaled t n d base
    if x = 0 then f.signed (s && t) 0 else f.round (decide (x < 0)) x.natAbs base false

/-- Product (IEEE 754). -/
def Fmt.mul (f : Fmt) (a b : Flt) : Nat :=
  match a, b with
  | .nan, _ => f.nan
  | _, .nan => f.nan
  | .inf s, .inf t => f.signed (s != t) f.inf
  | .inf s, .fin t n _ => if n = 0 then f.nan else f.signed (s != t) f.inf
  | .fin s m _, .inf t => if m = 0 then f.nan else f.signed (s != t) f.inf
  | .fin s m e, .fin t n d => f.round (s != t) (m * n) (e + d) false

/-- Quotient (IEEE 754). -/
def Fmt.div (f : Fmt) (a b : Flt) : Nat :=
  match a, b with
  | .nan, _ => f.nan
  | _, .nan => f.nan
  | .inf _, .inf _ => f.nan
  | .inf s, .fin t _ _ => f.signed (s != t) f.inf
  | .fin s _ _, .inf t => f.signed (s != t) 0
  | .fin s m e, .fin t n d =>
    if n = 0 then (if m = 0 then f.nan else f.signed (s != t) f.inf)
    else
      let x := m * 2 ^ 128
      f.round (s != t) (x / n) (e - d - 128) (x % n != 0)

/-- The integer square root, bit by bit below 2^i. -/
def isqrt : Nat → Nat → Nat → Nat
  | 0, _, r => r
  | i + 1, m, r => if (r + 2 ^ i) * (r + 2 ^ i) ≤ m then isqrt i m (r + 2 ^ i) else isqrt i m r

/-- Square root (IEEE 754). -/
def Fmt.sqrt (f : Fmt) (a : Flt) : Nat :=
  match a with
  | .nan => f.nan
  | .inf s => if s then f.nan else f.inf
  | .fin s m e =>
    if m = 0 then f.signed s 0
    else if s then f.nan
    else
      let odd := e % 2 != 0
      let x := (if odd then 2 * m else m) * 2 ^ 128
      let r := isqrt 96 x 0
      f.round false r ((if odd then e - 1 else e) / 2 - 64) (r * r != x)

/-- The order of two reals that are not NaN: less, equal in value, greater. -/
def Flt.cmp (a b : Flt) : Ordering :=
  match a, b with
  | .inf s, .inf t => if s = t then .eq else if s then .lt else .gt
  | .inf s, _ => if s then .lt else .gt
  | _, .inf t => if t then .gt else .lt
  | .fin s m e, .fin t n d => compare (scaled s m e (min e d)) (scaled t n d (min e d))
  | _, _ => .eq

/-- Whether a real is NaN. -/
def Flt.isNan : Flt → Bool
  | .nan => true
  | _ => false

/-- Whether a real carries a minus sign. -/
def Flt.isNeg : Flt → Bool
  | .nan => false
  | .inf s => s
  | .fin s _ _ => s

/-- a comes before b in the order of R100, in which −0 lies below +0. -/
def Flt.before (a b : Flt) : Bool :=
  match a.cmp b with
  | .lt => true
  | .eq => a.isNeg && !b.isNeg
  | .gt => false

/-- Smaller and larger of two values; the canonical NaN if one is NaN (R100). -/
def Fmt.min (f : Fmt) (x y : Nat) : Nat :=
  let a := f.read x
  let b := f.read y
  if a.isNan || b.isNan then f.nan else if b.before a then y else x
def Fmt.max (f : Fmt) (x y : Nat) : Nat :=
  let a := f.read x
  let b := f.read y
  if a.isNan || b.isNan then f.nan else if a.before b then y else x

/-- Comparisons: false with a NaN (R100). -/
def Fmt.eq (f : Fmt) (x y : Nat) : Bool :=
  let a := f.read x
  let b := f.read y
  !a.isNan && !b.isNan && a.cmp b == .eq
def Fmt.lt (f : Fmt) (x y : Nat) : Bool :=
  let a := f.read x
  let b := f.read y
  !a.isNan && !b.isNan && a.cmp b == .lt
def Fmt.le (f : Fmt) (x y : Nat) : Bool := f.lt x y || f.eq x y

/-- m × 2^e rounded to an integer: 0 to nearest with ties to even, 1 toward zero, 2 down, 3 up (R98). -/
def roundInt (mode : Nat) (neg : Bool) (m : Nat) (e : Int) : Int :=
  let x : Int :=
    if 0 ≤ e then m * 2 ^ e.toNat
    else
      let sh := (-e).toNat
      let q := m / 2 ^ sh
      let r := m % 2 ^ sh
      let up := match mode with
        | 0 => decide (2 ^ sh < 2 * r) || (decide (2 ^ sh = 2 * r) && q % 2 == 1)
        | 1 => false
        | 2 => neg && r != 0
        | _ => !neg && r != 0
      if up then q + 1 else q
  if neg then -x else x

/-- An integer as a real. -/
def Flt.ofInt (x : Int) : Flt := .fin (decide (x < 0)) x.natAbs 0

end Sys2Proof.Machine
end

