-- ==== Sys2Proof/Config.lean ====
section
/-!
DEFINITION. What the spec leaves open: constants without a body, so that no proof can rest on a value of them. The free values are
the ones that NOTES.md lists.
-/
namespace Sys2Proof.Config

/-- The public key that a device certificate holds, as 97 bytes (R390; the layout of X.509 is not given, NOTES 84). -/
opaque certKey : List Byte → List Byte

/-- The policy that an image gives an engine context, by the hash of the image (R375; where it stands is not given, NOTES 109). -/
opaque imagePolicy : List Byte → Nat → Nat

/-- The true random generator (R390, R395, R419): a fresh 256 bits at each use. -/
opaque random : Nat → BitVec 256

/-- What comparison `k` of the boot test number `n` reports at a comparator of a twin (R170): 0 to 63 injected, 64 matching;
`dup`: the twin's channel of the duplicate bank. -/
opaque bootCompare : (n twin : Nat) → (dup : Bool) → (k : Nat) → Bool

/-- What the epilogue finds in the register of a reduction that no instruction of the task names (R146). -/
opaque noReduction : Nat → Dword

/-- What a manifest says (R338, R389; its layout is not given, NOTES 31): whether it lists a silicon step, whether it lists a
combination of SF, EM, PS and FF hashes, its Azwin level range, its mirror layout level, its REVOKE byte. -/
opaque manifestStep : List Byte → Byte → Bool
opaque manifestTested : List Byte → List (List Byte) → Bool
opaque manifestAzwin : List Byte → Nat × Nat
opaque manifestMlayout : List Byte → Nat
opaque manifestRevoke : List Byte → Nat

/-- The bytes of a load report (R114, R421; its layout is not given, NOTES 32): per task TASK_ID, WCET, WCET_DECL, placement
codes, incoherent runs, refusal code; and the force entries dropped (R326). -/
opaque loadReportBytes : List (Nat × Nat × Nat × List Nat × List (Nat × Nat) × Nat) → Nat → List Byte

/-- The hash of the migration plan between two images, by their hashes (R325; what is hashed is not given, NOTES 39). -/
opaque planHash : List Byte → List Byte → BitVec 384

/-- The coefficient of a first-order AI filter, by its code and the time in µs that a current stood, as binary32 (R441; NOTES 167). -/
opaque aiCoeff : Nat → Nat → BitVec 32

/-- A free value (NOTES 3): what the spec leaves open, a fresh number at each use. -/
opaque free : Nat → Nat

end Sys2Proof.Config
end

