-- ==== Sys2Proof/Machine/RegMap.lean ====
section
/-!
DEFINITION. The register map (R15 and the register table of each chapter): block bases, register offsets, the
bits, access code and reset value of every field, and a name for every field.
-/
namespace Sys2Proof.Machine

/-- Access codes of R5. -/
inductive Acc where | ro | rw | rwl | w1c | wo | rc
deriving DecidableEq, Repr

/-- One field of a register table: bits [hi:lo], access, the Reset column. -/
structure FieldDef where
  hi : Nat
  lo : Nat
  acc : Acc
  rst : Nat
deriving DecidableEq, Repr

/-- One register, or `count` registers `stride` bytes apart, at `off` from the block base. -/
structure RegDef where
  off : Nat
  stride : Nat
  count : Nat
  fields : List FieldDef
deriving DecidableEq, Repr

/-- One block, or `count` blocks `stride` bytes apart. `lock`: bit 31 of the register at offset 0 is the block's
LOCK (R7); `pd0`: the block's registers are held in PD0 (R8). -/
structure BlockDef where
  base : Nat
  stride : Nat
  count : Nat
  lock : Bool
  pd0 : Bool
  regs : List RegDef
deriving DecidableEq, Repr

/-- A field of one register: its address, lowest bit and width. -/
structure Fld where
  addr : Nat
  lo : Nat
  wid : Nat
deriving DecidableEq, Repr

/-- The SYS registers. -/
def regsSYS : List RegDef := [
  ⟨0x10, 0, 1, [⟨11, 0, .rw, 0xFFF⟩, ⟨27, 16, .ro, 0xFFF⟩, ⟨31, 31, .w1c, 0x0⟩]⟩,
  ⟨0x0, 0, 1, [⟨3, 0, .ro, 0x2⟩, ⟨7, 4, .ro, 0x0⟩, ⟨9, 8, .ro, 0x0⟩, ⟨10, 10, .ro, 0x0⟩, ⟨31, 16, .ro, 0x0⟩]⟩,
  ⟨0x4, 0, 1, [⟨0, 0, .ro, 0x0⟩, ⟨1, 1, .ro, 0x0⟩, ⟨2, 2, .ro, 0x0⟩, ⟨3, 3, .ro, 0x0⟩, ⟨5, 4, .ro, 0x0⟩, ⟨13, 8, .ro, 0x0⟩, ⟨31, 16, .ro, 0x0⟩]⟩,
  ⟨0x40, 0, 1, [⟨2, 0, .ro, 0x0⟩, ⟨11, 8, .ro, 0x0⟩, ⟨23, 16, .ro, 0x0⟩, ⟨24, 24, .ro, 0x0⟩]⟩,
  ⟨0x44, 0, 1, [⟨21, 0, .ro, 0x0⟩]⟩,
  ⟨0x48, 0, 1, [⟨15, 0, .ro, 0x0⟩, ⟨31, 16, .ro, 0x0⟩]⟩,
  ⟨0x4C, 0, 1, [⟨31, 0, .ro, 0x0⟩]⟩,
  ⟨0x20, 0, 1, [⟨2, 0, .ro, 0x1⟩, ⟨31, 16, .ro, 0x0⟩]⟩,
  ⟨0x24, 0, 1, [⟨0, 0, .ro, 0x0⟩, ⟨1, 1, .ro, 0x0⟩, ⟨2, 2, .ro, 0x0⟩, ⟨3, 3, .ro, 0x0⟩, ⟨4, 4, .ro, 0x0⟩, ⟨6, 5, .ro, 0x0⟩, ⟨31, 16, .ro, 0x0⟩]⟩]

/-- The TICK registers. -/
def regsTICK : List RegDef := [
  ⟨0x0, 0, 1, [⟨1, 0, .rwl, 0x2⟩, ⟨2, 2, .rwl, 0x0⟩, ⟨3, 3, .rwl, 0x0⟩, ⟨31, 31, .rwl, 0x0⟩]⟩,
  ⟨0x4, 0, 1, [⟨9, 0, .rwl, 0x50⟩, ⟨25, 16, .rwl, 0x2BC⟩]⟩,
  ⟨0x8, 0, 1, [⟨9, 0, .rwl, 0x384⟩, ⟨25, 16, .rwl, 0x3B6⟩]⟩,
  ⟨0xC, 0, 1, [⟨9, 0, .rwl, 0x190⟩]⟩,
  ⟨0x10, 0, 1, [⟨9, 0, .rwl, 0xC8⟩, ⟨25, 16, .rwl, 0x226⟩]⟩,
  ⟨0x14, 0, 1, [⟨0, 0, .rwl, 0x0⟩, ⟨2, 1, .rwl, 0x0⟩, ⟨5, 3, .rwl, 0x0⟩, ⟨9, 6, .rwl, 0x0⟩, ⟨14, 10, .rwl, 0x0⟩, ⟨20, 15, .rwl, 0x0⟩, ⟨27, 21, .rwl, 0x0⟩]⟩,
  ⟨0x20, 0, 1, [⟨31, 0, .ro, 0x0⟩]⟩,
  ⟨0x24, 0, 1, [⟨31, 0, .ro, 0x0⟩]⟩,
  ⟨0x28, 0, 1, [⟨31, 0, .ro, 0x0⟩]⟩,
  ⟨0x2C, 0, 1, [⟨31, 0, .ro, 0x0⟩]⟩,
  ⟨0x30, 0, 1, [⟨7, 0, .ro, 0x0⟩, ⟨15, 8, .ro, 0x0⟩]⟩,
  ⟨0x34, 0, 1, [⟨1, 0, .ro, 0x0⟩, ⟨2, 2, .ro, 0x0⟩, ⟨3, 3, .ro, 0x0⟩, ⟨4, 4, .ro, 0x0⟩]⟩,
  ⟨0x38, 0, 1, [⟨31, 0, .ro, 0x0⟩]⟩,
  ⟨0x3C, 0, 1, [⟨9, 0, .rc, 0x3FF⟩, ⟨25, 16, .rc, 0x3FF⟩]⟩,
  ⟨0x40, 0, 1, [⟨1, 0, .ro, 0x0⟩, ⟨6, 4, .ro, 0x0⟩, ⟨31, 16, .ro, 0x0⟩]⟩]

/-- The IMG registers. -/
def regsIMG : List RegDef := [
  ⟨0x0, 0, 1, [⟨0, 0, .rwl, 0x0⟩, ⟨31, 31, .rwl, 0x0⟩]⟩,
  ⟨0x10, 0, 1, [⟨15, 0, .ro, 0x0⟩, ⟨31, 16, .ro, 0x0⟩]⟩,
  ⟨0x14, 0, 1, [⟨9, 0, .rc, 0x0⟩]⟩,
  ⟨0x18, 0, 1, [⟨15, 0, .rc, 0x0⟩, ⟨31, 16, .rc, 0x0⟩]⟩,
  ⟨0x20, 0, 1, [⟨7, 0, .ro, 0x80⟩, ⟨15, 8, .ro, 0x0⟩]⟩,
  ⟨0x30, 0, 1, [⟨10, 0, .ro, 0x0⟩]⟩,
  ⟨0x400, 16, 64, [⟨22, 0, .rwl, 0x0⟩, ⟨26, 24, .rwl, 0x0⟩, ⟨28, 28, .rwl, 0x0⟩]⟩,
  ⟨0x404, 16, 64, [⟨22, 0, .rwl, 0x0⟩, ⟨26, 24, .rwl, 0x0⟩, ⟨29, 28, .rwl, 0x0⟩]⟩,
  ⟨0x408, 16, 64, [⟨31, 0, .rwl, 0x0⟩]⟩]

/-- The SEQ registers. -/
def regsSEQ : List RegDef := [
  ⟨0x0, 0, 1, [⟨0, 0, .rwl, 0x0⟩, ⟨31, 31, .rwl, 0x0⟩]⟩,
  ⟨0x20, 0, 1, [⟨7, 0, .rwl, 0x10⟩, ⟨12, 8, .rwl, 0x16⟩, ⟨15, 15, .rwl, 0x1⟩]⟩,
  ⟨0x24, 0, 1, [⟨2, 0, .ro, 0x0⟩, ⟨6, 4, .ro, 0x0⟩, ⟨10, 8, .ro, 0x0⟩, ⟨18, 16, .w1c, 0x0⟩]⟩,
  ⟨0x30, 4, 3, [⟨7, 0, .ro, 0x0⟩, ⟨31, 16, .rc, 0x0⟩]⟩,
  ⟨0x40, 0, 1, [⟨10, 0, .ro, 0x0⟩, ⟨26, 16, .ro, 0x0⟩]⟩,
  ⟨0x100, 4, 12, [⟨9, 0, .ro, 0x0⟩, ⟨14, 12, .ro, 0x0⟩, ⟨16, 16, .ro, 0x0⟩, ⟨17, 17, .ro, 0x0⟩]⟩]

/-- The TWIN registers. -/
def regsTWIN : List RegDef := [
  ⟨0x0, 0, 1, [⟨5, 0, .rwl, 0xA⟩, ⟨31, 31, .rwl, 0x0⟩]⟩,
  ⟨0x10, 4, 6, [⟨13, 0, .rwl, 0x400⟩]⟩,
  ⟨0x40, 4, 6, [⟨0, 0, .ro, 0x0⟩, ⟨13, 8, .ro, 0x0⟩, ⟨16, 16, .ro, 0x0⟩, ⟨17, 17, .ro, 0x0⟩, ⟨18, 18, .ro, 0x0⟩]⟩,
  ⟨0x80, 4, 6, [⟨31, 0, .rc, 0x0⟩]⟩,
  ⟨0xC0, 4, 6, [⟨31, 0, .rc, 0x0⟩]⟩,
  ⟨0x100, 0, 1, [⟨2, 0, .ro, 0x0⟩, ⟨5, 4, .ro, 0x0⟩, ⟨25, 16, .ro, 0x0⟩]⟩,
  ⟨0x104, 0, 1, [⟨31, 0, .ro, 0x0⟩]⟩,
  ⟨0x108, 0, 1, [⟨31, 0, .ro, 0x0⟩]⟩,
  ⟨0x110, 0, 1, [⟨5, 0, .ro, 0x0⟩, ⟨8, 8, .rwl, 0x0⟩]⟩]

/-- The STRs registers. -/
def regsSTR : List RegDef := [
  ⟨0x0, 0, 1, [⟨0, 0, .rwl, 0x0⟩, ⟨1, 1, .rwl, 0x0⟩, ⟨2, 2, .rwl, 0x0⟩, ⟨31, 31, .rwl, 0x0⟩]⟩,
  ⟨0x4, 0, 1, [⟨20, 0, .rwl, 0x0⟩]⟩,
  ⟨0x8, 0, 1, [⟨19, 0, .rwl, 0x0⟩]⟩,
  ⟨0x10, 0, 1, [⟨0, 0, .ro, 0x0⟩, ⟨1, 1, .ro, 0x0⟩, ⟨2, 2, .ro, 0x0⟩, ⟨3, 3, .w1c, 0x0⟩, ⟨4, 4, .ro, 0x0⟩, ⟨17, 8, .ro, 0x0⟩, ⟨27, 18, .ro, 0x0⟩]⟩,
  ⟨0x20, 4, 4, [⟨31, 0, .ro, 0x0⟩]⟩,
  ⟨0x30, 4, 4, [⟨31, 0, .ro, 0x0⟩]⟩,
  ⟨0x40, 4, 4, [⟨31, 0, .ro, 0x0⟩]⟩,
  ⟨0x50, 0, 1, [⟨6, 0, .ro, 0x0⟩, ⟨11, 8, .ro, 0x0⟩]⟩,
  ⟨0x60, 0, 1, [⟨7, 0, .rc, 0x0⟩, ⟨15, 8, .rc, 0x0⟩, ⟨23, 16, .rc, 0x0⟩, ⟨31, 24, .rc, 0x0⟩]⟩,
  ⟨0x64, 0, 1, [⟨7, 0, .rc, 0x0⟩, ⟨15, 8, .rc, 0x0⟩, ⟨23, 16, .rc, 0x0⟩, ⟨31, 24, .rc, 0x0⟩]⟩,
  ⟨0x68, 0, 1, [⟨15, 0, .rc, 0x0⟩, ⟨31, 16, .rc, 0x0⟩]⟩,
  ⟨0x6C, 0, 1, [⟨9, 0, .rc, 0x0⟩]⟩]

/-- The SAW registers. -/
def regsSAW : List RegDef := [
  ⟨0x0, 0, 1, [⟨3, 0, .rwl, 0x2⟩, ⟨7, 4, .ro, 0x1⟩, ⟨15, 8, .rwl, 0x40⟩, ⟨19, 16, .rwl, 0x4⟩, ⟨31, 31, .rwl, 0x0⟩]⟩,
  ⟨0x4, 0, 1, [⟨2, 0, .ro, 0x0⟩, ⟨7, 4, .ro, 0x0⟩, ⟨11, 8, .ro, 0x0⟩, ⟨12, 12, .ro, 0x0⟩, ⟨13, 13, .ro, 0x0⟩, ⟨14, 14, .ro, 0x0⟩, ⟨15, 15, .ro, 0x0⟩, ⟨16, 16, .ro, 0x0⟩, ⟨17, 17, .ro, 0x0⟩]⟩,
  ⟨0x8, 0, 1, [⟨31, 0, .ro, 0x0⟩]⟩,
  ⟨0xC, 0, 1, [⟨31, 0, .ro, 0x0⟩]⟩,
  ⟨0x10, 0, 1, [⟨1, 0, .ro, 0x0⟩, ⟨2, 2, .ro, 0x0⟩, ⟨31, 16, .ro, 0x0⟩]⟩,
  ⟨0x14, 0, 1, [⟨15, 0, .rc, 0x0⟩, ⟨31, 16, .rc, 0x0⟩]⟩,
  ⟨0x18, 0, 1, [⟨15, 0, .rc, 0x0⟩, ⟨31, 16, .rc, 0x0⟩]⟩,
  ⟨0x20, 0, 1, [⟨0, 0, .wo, 0x0⟩, ⟨6, 4, .ro, 0x0⟩, ⟨11, 8, .ro, 0x0⟩, ⟨31, 16, .ro, 0x0⟩]⟩]

/-- The PAIR registers. -/
def regsPAIR : List RegDef := [
  ⟨0x0, 0, 1, [⟨0, 0, .rwl, 0x0⟩, ⟨31, 31, .rwl, 0x0⟩]⟩,
  ⟨0x4, 0, 1, [⟨0, 0, .ro, 0x0⟩, ⟨1, 1, .ro, 0x0⟩, ⟨2, 2, .ro, 0x0⟩, ⟨3, 3, .ro, 0x0⟩, ⟨4, 4, .ro, 0x0⟩, ⟨13, 8, .ro, 0x0⟩, ⟨19, 16, .ro, 0x0⟩]⟩,
  ⟨0x8, 0, 1, [⟨12, 0, .ro, 0x0⟩, ⟨28, 16, .rc, 0x0⟩]⟩,
  ⟨0xC, 0, 1, [⟨15, 0, .rc, 0x0⟩, ⟨31, 16, .rc, 0x0⟩]⟩,
  ⟨0x10, 0, 1, [⟨15, 0, .rc, 0x0⟩, ⟨31, 16, .rc, 0x0⟩]⟩]

/-- The MIRR registers. -/
def regsMIRR : List RegDef := [
  ⟨0x0, 0, 1, [⟨9, 0, .rwl, 0x1F4⟩, ⟨23, 16, .rwl, 0x3C⟩, ⟨31, 31, .rwl, 0x0⟩]⟩,
  ⟨0x4, 0, 1, [⟨15, 0, .rwl, 0x3E8⟩, ⟨16, 16, .rwl, 0x1⟩]⟩,
  ⟨0x10, 0, 1, [⟨1, 0, .ro, 0x0⟩, ⟨2, 2, .ro, 0x0⟩, ⟨3, 3, .ro, 0x0⟩, ⟨31, 16, .ro, 0x0⟩]⟩,
  ⟨0x18, 0, 1, [⟨31, 0, .ro, 0x0⟩]⟩,
  ⟨0x1C, 0, 1, [⟨31, 0, .ro, 0x0⟩]⟩,
  ⟨0x24, 0, 1, [⟨16, 0, .rc, 0x0⟩]⟩,
  ⟨0x28, 0, 1, [⟨16, 0, .ro, 0x0⟩]⟩,
  ⟨0x30, 0, 1, [⟨15, 0, .rc, 0x0⟩, ⟨31, 16, .rc, 0x0⟩]⟩,
  ⟨0x34, 0, 1, [⟨15, 0, .rc, 0x0⟩, ⟨31, 16, .rc, 0x0⟩]⟩,
  ⟨0x38, 0, 1, [⟨15, 0, .rc, 0x0⟩, ⟨31, 16, .rc, 0x0⟩]⟩,
  ⟨0x3C, 0, 1, [⟨15, 0, .rc, 0x0⟩, ⟨31, 16, .rc, 0x0⟩]⟩,
  ⟨0x40, 0, 1, [⟨16, 0, .ro, 0x0⟩]⟩,
  ⟨0x44, 0, 1, [⟨16, 0, .ro, 0x0⟩]⟩,
  ⟨0x48, 0, 1, [⟨16, 0, .ro, 0x0⟩]⟩]

/-- The TRI registers. -/
def regsTRI : List RegDef := [
  ⟨0x0, 0, 1, [⟨1, 0, .ro, 0x0⟩, ⟨7, 4, .rwl, 0x3⟩, ⟨12, 8, .rwl, 0xA⟩, ⟨20, 16, .rwl, 0x10⟩, ⟨31, 31, .rwl, 0x0⟩]⟩,
  ⟨0x4, 0, 1, [⟨7, 0, .rwl, 0x40⟩]⟩,
  ⟨0x10, 0, 1, [⟨2, 0, .ro, 0x0⟩, ⟨5, 3, .ro, 0x0⟩, ⟨7, 6, .ro, 0x0⟩, ⟨11, 8, .ro, 0x0⟩, ⟨12, 12, .ro, 0x0⟩, ⟨13, 13, .ro, 0x0⟩, ⟨14, 14, .ro, 0x0⟩, ⟨24, 16, .ro, 0x0⟩]⟩,
  ⟨0x14, 0, 1, [⟨2, 0, .ro, 0x0⟩]⟩,
  ⟨0x18, 0, 1, [⟨4, 0, .ro, 0x0⟩, ⟨12, 8, .ro, 0x0⟩]⟩,
  ⟨0x20, 0, 1, [⟨15, 0, .rc, 0x0⟩, ⟨31, 16, .rc, 0x0⟩]⟩,
  ⟨0x24, 0, 1, [⟨15, 0, .rc, 0x0⟩, ⟨31, 16, .rc, 0x0⟩]⟩,
  ⟨0x28, 0, 1, [⟨15, 0, .rc, 0x0⟩, ⟨31, 16, .rc, 0x0⟩]⟩,
  ⟨0x2C, 0, 1, [⟨15, 0, .rc, 0x0⟩]⟩,
  ⟨0x400, 16, 64, [⟨31, 0, .rwl, 0x0⟩]⟩,
  ⟨0x404, 16, 64, [⟨31, 0, .rwl, 0x0⟩]⟩,
  ⟨0x408, 16, 64, [⟨0, 0, .rwl, 0x0⟩]⟩]

/-- The TLx registers. -/
def regsTL : List RegDef := [
  ⟨0x0, 0, 1, [⟨0, 0, .rwl, 0x0⟩, ⟨31, 31, .rwl, 0x0⟩]⟩,
  ⟨0x4, 0, 1, [⟨0, 0, .ro, 0x0⟩, ⟨1, 1, .ro, 0x0⟩, ⟨3, 2, .ro, 0x0⟩, ⟨4, 4, .ro, 0x0⟩, ⟨11, 8, .ro, 0x0⟩, ⟨12, 12, .ro, 0x0⟩, ⟨13, 13, .ro, 0x0⟩]⟩,
  ⟨0x8, 0, 1, [⟨12, 0, .ro, 0x0⟩, ⟨28, 16, .rc, 0x0⟩]⟩,
  ⟨0xC, 0, 1, [⟨31, 0, .ro, 0x0⟩]⟩,
  ⟨0x10, 0, 1, [⟨15, 0, .rc, 0x0⟩, ⟨31, 16, .rc, 0x0⟩]⟩]

/-- The TUMB registers. -/
def regsTUMB : List RegDef := [
  ⟨0x0, 0, 1, [⟨0, 0, .ro, 0x0⟩, ⟨1, 1, .ro, 0x0⟩, ⟨2, 2, .ro, 0x0⟩, ⟨15, 8, .ro, 0x0⟩, ⟨31, 16, .ro, 0x0⟩]⟩,
  ⟨0x4, 0, 1, [⟨31, 0, .ro, 0x0⟩]⟩,
  ⟨0x8, 0, 1, [⟨31, 0, .ro, 0x0⟩]⟩,
  ⟨0xC, 0, 1, [⟨12, 1, .ro, 0x0⟩]⟩,
  ⟨0x10, 0, 1, [⟨0, 0, .wo, 0x0⟩, ⟨31, 16, .wo, 0x0⟩]⟩,
  ⟨0x14, 0, 1, [⟨15, 0, .ro, 0x0⟩]⟩,
  ⟨0x18, 0, 1, [⟨0, 0, .wo, 0x0⟩, ⟨6, 4, .ro, 0x0⟩]⟩]

/-- The GATE registers. -/
def regsGATE : List RegDef := [
  ⟨0x0, 0, 1, [⟨31, 31, .rwl, 0x0⟩]⟩,
  ⟨0x10, 0, 1, [⟨21, 0, .rwl, 0x0⟩, ⟨24, 24, .rwl, 0x0⟩]⟩,
  ⟨0x14, 0, 1, [⟨21, 0, .rwl, 0x0⟩, ⟨27, 24, .rwl, 0x0⟩, ⟨31, 31, .wo, 0x0⟩]⟩,
  ⟨0x18, 0, 1, [⟨0, 0, .ro, 0x0⟩, ⟨1, 1, .w1c, 0x0⟩]⟩,
  ⟨0x20, 0, 1, [⟨31, 0, .ro, 0x0⟩]⟩,
  ⟨0x24, 0, 1, [⟨31, 0, .ro, 0x0⟩]⟩,
  ⟨0x28, 0, 1, [⟨31, 0, .ro, 0x0⟩]⟩,
  ⟨0x2C, 0, 1, [⟨31, 0, .ro, 0x0⟩]⟩,
  ⟨0x30, 0, 1, [⟨5, 0, .ro, 0x0⟩, ⟨31, 16, .rc, 0x0⟩]⟩,
  ⟨0x34, 0, 1, [⟨15, 0, .rc, 0x0⟩, ⟨31, 16, .rc, 0x0⟩]⟩,
  ⟨0x40, 4, 4, [⟨1, 0, .rwl, 0x0⟩, ⟨3, 2, .rwl, 0x0⟩, ⟨5, 4, .rwl, 0x0⟩, ⟨7, 6, .rwl, 0x0⟩, ⟨9, 8, .rwl, 0x0⟩, ⟨11, 10, .rwl, 0x0⟩, ⟨13, 12, .rwl, 0x0⟩, ⟨15, 14, .rwl, 0x0⟩, ⟨17, 16, .rwl, 0x0⟩, ⟨19, 18, .rwl, 0x0⟩, ⟨21, 20, .rwl, 0x0⟩, ⟨23, 22, .rwl, 0x0⟩, ⟨25, 24, .rwl, 0x0⟩, ⟨27, 26, .rwl, 0x0⟩, ⟨29, 28, .rwl, 0x0⟩, ⟨31, 30, .rwl, 0x0⟩]⟩,
  ⟨0x400, 8, 64, [⟨15, 0, .rwl, 0x0⟩, ⟨31, 16, .rwl, 0x0⟩]⟩,
  ⟨0x404, 8, 64, [⟨15, 0, .rwl, 0x0⟩, ⟨31, 31, .rwl, 0x0⟩]⟩]

/-- The SEC registers. -/
def regsSEC : List RegDef := [
  ⟨0x0, 0, 1, [⟨1, 0, .ro, 0x0⟩, ⟨15, 8, .ro, 0x0⟩]⟩,
  ⟨0x4, 0, 1, [⟨31, 0, .ro, 0x0⟩]⟩,
  ⟨0x8, 0, 1, [⟨31, 0, .ro, 0x0⟩]⟩,
  ⟨0x10, 0, 1, [⟨0, 0, .ro, 0x0⟩, ⟨1, 1, .ro, 0x0⟩, ⟨11, 8, .ro, 0x0⟩, ⟨15, 12, .ro, 0x0⟩]⟩,
  ⟨0x14, 0, 1, [⟨3, 0, .ro, 0x0⟩, ⟨7, 4, .ro, 0x0⟩, ⟨19, 8, .ro, 0x0⟩, ⟨23, 20, .ro, 0x0⟩]⟩,
  ⟨0x18, 0, 1, [⟨31, 0, .ro, 0x0⟩]⟩,
  ⟨0x20, 0, 1, [⟨0, 0, .ro, 0x0⟩, ⟨1, 1, .ro, 0x0⟩, ⟨15, 8, .rc, 0x0⟩, ⟨31, 16, .ro, 0x0⟩]⟩,
  ⟨0x24, 0, 1, [⟨0, 0, .ro, 0x0⟩, ⟨1, 1, .ro, 0x0⟩, ⟨15, 8, .ro, 0x0⟩]⟩]

/-- The TIME registers. -/
def regsTIME : List RegDef := [
  ⟨0x0, 0, 1, [⟨0, 0, .rwl, 0x0⟩, ⟨1, 1, .rwl, 0x0⟩, ⟨2, 2, .rwl, 0x0⟩, ⟨3, 3, .rwl, 0x0⟩, ⟨10, 4, .rwl, 0x0⟩, ⟨23, 16, .rwl, 0xA⟩, ⟨31, 31, .rwl, 0x0⟩]⟩,
  ⟨0x4, 0, 1, [⟨31, 0, .ro, 0x0⟩]⟩,
  ⟨0x8, 0, 1, [⟨31, 0, .ro, 0x0⟩]⟩,
  ⟨0xC, 0, 1, [⟨31, 0, .rw, 0x40000000⟩]⟩,
  ⟨0x10, 0, 1, [⟨31, 0, .rw, 0x0⟩]⟩,
  ⟨0x14, 0, 1, [⟨31, 0, .rw, 0x0⟩]⟩,
  ⟨0x18, 0, 1, [⟨0, 0, .wo, 0x0⟩]⟩,
  ⟨0x20, 0, 1, [⟨0, 0, .ro, 0x0⟩, ⟨1, 1, .ro, 0x0⟩, ⟨2, 2, .ro, 0x0⟩, ⟨3, 3, .ro, 0x0⟩, ⟨4, 4, .w1c, 0x0⟩, ⟨5, 5, .w1c, 0x0⟩]⟩,
  ⟨0x24, 0, 1, [⟨31, 0, .ro, 0x0⟩]⟩,
  ⟨0x28, 0, 1, [⟨31, 0, .ro, 0x0⟩]⟩,
  ⟨0x30, 0, 1, [⟨31, 0, .rw, 0x0⟩]⟩,
  ⟨0x34, 0, 1, [⟨15, 0, .rw, 0x0⟩]⟩,
  ⟨0x38, 0, 1, [⟨31, 0, .rw, 0x0⟩]⟩]

/-- The PLx registers. -/
def regsPL : List RegDef := [
  ⟨0x0, 0, 1, [⟨0, 0, .rwl, 0x0⟩, ⟨2, 1, .rwl, 0x0⟩, ⟨31, 31, .rwl, 0x0⟩]⟩,
  ⟨0x4, 0, 1, [⟨31, 0, .rwl, 0x0⟩]⟩,
  ⟨0x8, 0, 1, [⟨15, 0, .rwl, 0x0⟩]⟩,
  ⟨0xC, 0, 1, [⟨31, 0, .rwl, 0x0⟩]⟩,
  ⟨0x10, 0, 1, [⟨11, 0, .rwl, 0x0⟩, ⟨12, 12, .rwl, 0x0⟩, ⟨15, 13, .rwl, 0x0⟩]⟩,
  ⟨0x14, 0, 1, [⟨15, 0, .rwl, 0x0⟩, ⟨31, 16, .rwl, 0x0⟩]⟩,
  ⟨0x20, 0, 1, [⟨0, 0, .ro, 0x0⟩, ⟨1, 1, .w1c, 0x0⟩, ⟨8, 4, .ro, 0x0⟩]⟩,
  ⟨0x24, 0, 1, [⟨15, 0, .ro, 0x0⟩, ⟨23, 16, .ro, 0x0⟩, ⟨31, 31, .ro, 0x0⟩]⟩,
  ⟨0x28, 0, 1, [⟨31, 0, .ro, 0x0⟩]⟩,
  ⟨0x2C, 0, 1, [⟨15, 0, .rc, 0x0⟩]⟩,
  ⟨0x30, 0, 1, [⟨15, 0, .rc, 0x0⟩, ⟨31, 16, .rc, 0x0⟩]⟩,
  ⟨0x34, 0, 1, [⟨15, 0, .rc, 0x0⟩, ⟨31, 16, .rc, 0x0⟩]⟩,
  ⟨0x38, 0, 1, [⟨15, 0, .rc, 0x0⟩]⟩]

/-- The SVC registers. -/
def regsSVC : List RegDef := [
  ⟨0x0, 0, 1, [⟨0, 0, .rwl, 0x1⟩, ⟨1, 1, .rwl, 0x0⟩, ⟨2, 2, .rwl, 0x0⟩, ⟨3, 3, .rwl, 0x0⟩, ⟨15, 8, .rwl, 0x1E⟩, ⟨31, 31, .rwl, 0x0⟩]⟩,
  ⟨0x4, 0, 1, [⟨31, 0, .rwl, 0x0⟩]⟩,
  ⟨0x8, 0, 1, [⟨31, 0, .rwl, 0x0⟩]⟩,
  ⟨0xC, 0, 1, [⟨15, 0, .rwl, 0x0⟩]⟩,
  ⟨0x10, 0, 1, [⟨0, 0, .ro, 0x0⟩, ⟨1, 1, .ro, 0x0⟩, ⟨3, 2, .ro, 0x0⟩, ⟨12, 8, .ro, 0x0⟩]⟩,
  ⟨0x14, 0, 1, [⟨31, 0, .ro, 0x0⟩]⟩,
  ⟨0x18, 0, 1, [⟨15, 0, .rc, 0x0⟩, ⟨31, 16, .rc, 0x0⟩]⟩]

/-- The FIELD registers. -/
def regsFIELD : List RegDef := [
  ⟨0x0, 0, 1, [⟨0, 0, .rwl, 0x0⟩, ⟨31, 31, .rwl, 0x0⟩]⟩,
  ⟨0x4, 0, 1, [⟨22, 0, .rwl, 0x0⟩]⟩,
  ⟨0x8, 0, 1, [⟨20, 0, .rwl, 0x0⟩]⟩,
  ⟨0xC, 0, 1, [⟨6, 0, .rwl, 0xA⟩, ⟨15, 8, .rwl, 0x8⟩]⟩,
  ⟨0x20, 4, 16, [⟨7, 0, .rwl, 0xA⟩, ⟨8, 8, .rwl, 0x0⟩]⟩,
  ⟨0x60, 0, 1, [⟨7, 0, .rwl, 0x0⟩, ⟨15, 8, .rwl, 0x0⟩, ⟨23, 16, .rwl, 0x0⟩, ⟨27, 24, .rwl, 0x5⟩]⟩,
  ⟨0x70, 8, 4, [⟨14, 0, .rwl, 0x0⟩, ⟨31, 31, .rwl, 0x0⟩]⟩,
  ⟨0x74, 8, 4, [⟨14, 0, .rwl, 0xC80⟩, ⟨30, 16, .rwl, 0x57E4⟩]⟩,
  ⟨0x90, 4, 4, [⟨0, 0, .rwl, 0x0⟩, ⟨3, 1, .rwl, 0x0⟩]⟩,
  ⟨0xA0, 0, 1, [⟨0, 0, .ro, 0x0⟩, ⟨1, 1, .ro, 0x0⟩, ⟨5, 2, .ro, 0x0⟩]⟩,
  ⟨0xA4, 0, 1, [⟨31, 0, .ro, 0x0⟩]⟩,
  ⟨0xB0, 0, 1, [⟨15, 0, .rc, 0x0⟩, ⟨31, 16, .rc, 0x0⟩]⟩,
  ⟨0xB4, 0, 1, [⟨15, 0, .rc, 0x0⟩]⟩]

/-- The CANx registers. -/
def regsCAN : List RegDef := [
  ⟨0x0, 0, 1, [⟨0, 0, .rwl, 0x0⟩, ⟨1, 1, .rwl, 0x0⟩, ⟨7, 4, .rwl, 0x3⟩, ⟨8, 8, .rwl, 0x0⟩, ⟨9, 9, .rwl, 0x1⟩, ⟨16, 16, .rw, 0x0⟩, ⟨31, 31, .rwl, 0x0⟩]⟩,
  ⟨0x4, 0, 1, [⟨7, 0, .rwl, 0x1⟩, ⟨15, 8, .rwl, 0x3B⟩, ⟨22, 16, .rwl, 0x14⟩, ⟨30, 24, .rwl, 0x14⟩]⟩,
  ⟨0x8, 0, 1, [⟨30, 0, .rwl, 0x5050E01⟩]⟩,
  ⟨0x10, 0, 1, [⟨1, 0, .rwl, 0x0⟩, ⟨2, 2, .rwl, 0x0⟩]⟩,
  ⟨0x14, 0, 1, [⟨28, 0, .rwl, 0x0⟩]⟩,
  ⟨0x18, 0, 1, [⟨28, 0, .rwl, 0x0⟩]⟩,
  ⟨0x1C, 0, 1, [⟨31, 0, .rwl, 0x0⟩]⟩,
  ⟨0x20, 0, 1, [⟨31, 0, .rwl, 0x0⟩]⟩,
  ⟨0x24, 0, 1, [⟨31, 0, .rwl, 0x0⟩]⟩,
  ⟨0x28, 0, 1, [⟨31, 0, .rwl, 0x0⟩]⟩,
  ⟨0x30, 0, 1, [⟨1, 0, .ro, 0x0⟩, ⟨15, 8, .ro, 0x0⟩, ⟨23, 16, .ro, 0x0⟩, ⟨24, 24, .w1c, 0x0⟩]⟩,
  ⟨0x34, 0, 1, [⟨15, 0, .rc, 0x0⟩, ⟨31, 16, .rc, 0x0⟩]⟩,
  ⟨0x38, 0, 1, [⟨15, 0, .rc, 0x0⟩, ⟨31, 16, .rc, 0x0⟩]⟩,
  ⟨0x400, 16, 128, [⟨28, 0, .rwl, 0x0⟩, ⟨29, 29, .rwl, 0x0⟩, ⟨31, 30, .rwl, 0x0⟩]⟩,
  ⟨0x404, 16, 128, [⟨28, 0, .rwl, 0x0⟩]⟩,
  ⟨0x408, 16, 128, [⟨25, 0, .rwl, 0x0⟩, ⟨29, 26, .rwl, 0x0⟩, ⟨30, 30, .rwl, 0x0⟩, ⟨31, 31, .rwl, 0x0⟩]⟩,
  ⟨0x40C, 16, 128, [⟨7, 0, .rwl, 0x1⟩, ⟨16, 16, .ro, 0x0⟩, ⟨17, 17, .w1c, 0x0⟩, ⟨18, 18, .w1c, 0x0⟩]⟩]

/-- The RACK registers. -/
def regsRACK : List RegDef := [
  ⟨0x0, 0, 1, [⟨7, 0, .rwl, 0x1E⟩, ⟨31, 31, .rwl, 0x0⟩]⟩,
  ⟨0x4, 0, 1, [⟨6, 0, .ro, 0x40⟩, ⟨13, 8, .ro, 0x0⟩, ⟨14, 14, .ro, 0x0⟩, ⟨15, 15, .w1c, 0x0⟩, ⟨19, 16, .ro, 0x0⟩]⟩,
  ⟨0x8, 0, 1, [⟨0, 0, .wo, 0x0⟩, ⟨1, 1, .wo, 0x0⟩, ⟨13, 8, .wo, 0x0⟩]⟩,
  ⟨0xC, 0, 1, [⟨15, 0, .rc, 0x0⟩, ⟨31, 16, .rc, 0x0⟩]⟩]

/-- The NVM registers. -/
def regsNVM : List RegDef := [
  ⟨0x0, 0, 1, [⟨0, 0, .ro, 0x0⟩, ⟨1, 1, .ro, 0x0⟩, ⟨2, 2, .ro, 0x0⟩, ⟨3, 3, .ro, 0x0⟩, ⟨4, 4, .ro, 0x0⟩]⟩,
  ⟨0x4, 0, 1, [⟨7, 0, .ro, 0x0⟩, ⟨15, 8, .ro, 0x0⟩]⟩,
  ⟨0x8, 0, 1, [⟨31, 0, .ro, 0x0⟩]⟩,
  ⟨0xC, 0, 1, [⟨31, 0, .ro, 0x0⟩]⟩,
  ⟨0x10, 0, 1, [⟨15, 0, .rc, 0x0⟩, ⟨31, 16, .rc, 0x0⟩]⟩]

/-- The HLTH registers. -/
def regsHLTH : List RegDef := [
  ⟨0x0, 0, 1, [⟨0, 0, .rwl, 0x1⟩, ⟨31, 31, .rwl, 0x0⟩]⟩,
  ⟨0x4, 0, 1, [⟨1, 0, .ro, 0x0⟩, ⟨28, 16, .ro, 0x0⟩]⟩,
  ⟨0x10, 4, 10, [⟨2, 0, .ro, 0x0⟩, ⟨3, 3, .ro, 0x0⟩, ⟨31, 8, .ro, 0xFFFFFF⟩]⟩,
  ⟨0x40, 0, 1, [⟨3, 0, .ro, 0x0⟩, ⟨31, 16, .ro, 0x0⟩]⟩,
  ⟨0x44, 0, 1, [⟨15, 0, .ro, 0x0⟩, ⟨31, 16, .rc, 0x0⟩]⟩,
  ⟨0x48, 0, 1, [⟨15, 0, .ro, 0x0⟩, ⟨19, 16, .ro, 0x0⟩]⟩,
  ⟨0x4C, 0, 1, [⟨31, 0, .rc, 0x0⟩]⟩]

/-- The PANEL registers. -/
def regsPANEL : List RegDef := [
  ⟨0x0, 0, 1, [⟨0, 0, .rwl, 0x0⟩, ⟨31, 31, .rwl, 0x0⟩]⟩,
  ⟨0x4, 0, 1, [⟨0, 0, .ro, 0x0⟩, ⟨1, 1, .ro, 0x0⟩, ⟨3, 2, .ro, 0x0⟩, ⟨6, 4, .ro, 0x0⟩]⟩,
  ⟨0x8, 0, 1, [⟨31, 0, .ro, 0x0⟩]⟩,
  ⟨0xC, 0, 1, [⟨31, 0, .ro, 0x0⟩]⟩,
  ⟨0x10, 0, 1, [⟨31, 0, .ro, 0x0⟩]⟩,
  ⟨0x14, 0, 1, [⟨31, 0, .ro, 0x0⟩]⟩,
  ⟨0x20, 4, 8, [⟨2, 0, .ro, 0x0⟩, ⟨6, 4, .ro, 0x0⟩, ⟨10, 8, .ro, 0x0⟩, ⟨14, 12, .ro, 0x0⟩, ⟨18, 16, .ro, 0x0⟩, ⟨22, 20, .ro, 0x0⟩, ⟨26, 24, .ro, 0x0⟩, ⟨30, 28, .ro, 0x0⟩]⟩,
  ⟨0x40, 0, 1, [⟨5, 0, .rw, 0x0⟩]⟩,
  ⟨0x44, 0, 1, [⟨31, 0, .ro, 0x0⟩]⟩]

/-- Every register block at its base (R15). -/
def regBlocks : List BlockDef := [
  ⟨0x40000000, 0x10000, 1, false, true, regsSYS⟩,
  ⟨0x40010000, 0x10000, 1, true, false, regsTICK⟩,
  ⟨0x40020000, 0x10000, 1, true, false, regsIMG⟩,
  ⟨0x40050000, 0x10000, 1, true, false, regsSEQ⟩,
  ⟨0x40040000, 0x10000, 1, true, false, regsTWIN⟩,
  ⟨0x40200000, 0x10000, 16, true, false, regsSTR⟩,
  ⟨0x40070000, 0x10000, 1, true, false, regsSAW⟩,
  ⟨0x40300000, 0x10000, 1, true, false, regsPAIR⟩,
  ⟨0x40060000, 0x10000, 1, true, false, regsMIRR⟩,
  ⟨0x40080000, 0x10000, 1, true, false, regsTRI⟩,
  ⟨0x40310000, 0x10000, 2, true, false, regsTL⟩,
  ⟨0x40090000, 0x10000, 1, false, true, regsTUMB⟩,
  ⟨0x40030000, 0x10000, 1, true, false, regsGATE⟩,
  ⟨0x400A0000, 0x10000, 1, false, false, regsSEC⟩,
  ⟨0x40110000, 0x10000, 1, true, false, regsTIME⟩,
  ⟨0x40120000, 0x10000, 2, true, false, regsPL⟩,
  ⟨0x40140000, 0x10000, 1, true, false, regsSVC⟩,
  ⟨0x40100000, 0x10000, 1, true, false, regsFIELD⟩,
  ⟨0x400D0000, 0x10000, 2, true, true, regsCAN⟩,
  ⟨0x400C0000, 0x10000, 1, true, true, regsRACK⟩,
  ⟨0x400B0000, 0x10000, 1, false, false, regsNVM⟩,
  ⟨0x40150000, 0x10000, 1, true, false, regsHLTH⟩,
  ⟨0x400F0000, 0x10000, 1, true, true, regsPANEL⟩]

namespace F

def SYS_PD_ON : Fld := ⟨0x40000010, 0, 12⟩
def SYS_PD_ACK : Fld := ⟨0x40000010, 16, 12⟩
def SYS_PD_DENIED : Fld := ⟨0x40000010, 31, 1⟩
def SYS_STATE_STATE : Fld := ⟨0x40000000, 0, 4⟩
def SYS_STATE_LAST : Fld := ⟨0x40000000, 4, 4⟩
def SYS_STATE_SVC : Fld := ⟨0x40000000, 8, 2⟩
def SYS_STATE_ADDR : Fld := ⟨0x40000000, 10, 1⟩
def SYS_STATE_TICK_LO : Fld := ⟨0x40000000, 16, 16⟩
def SYS_MODE_COMMIT : Fld := ⟨0x40000004, 0, 1⟩
def SYS_MODE_HANDOFF : Fld := ⟨0x40000004, 1, 1⟩
def SYS_MODE_LAG : Fld := ⟨0x40000004, 2, 1⟩
def SYS_MODE_PLANT : Fld := ⟨0x40000004, 3, 1⟩
def SYS_MODE_TB : Fld := ⟨0x40000004, 4, 2⟩
def SYS_MODE_SPLIT : Fld := ⟨0x40000004, 8, 6⟩
def SYS_MODE_RATE1000 : Fld := ⟨0x40000004, 16, 16⟩
def SYS_CHG_PHASE : Fld := ⟨0x40000040, 0, 3⟩
def SYS_CHG_REASON : Fld := ⟨0x40000040, 8, 4⟩
def SYS_CHG_Z : Fld := ⟨0x40000040, 16, 8⟩
def SYS_CHG_ALLOW_SAFE : Fld := ⟨0x40000040, 24, 1⟩
def SYS_CHG_MOV_LINES : Fld := ⟨0x40000044, 0, 22⟩
def SYS_CHG_KEYS_CREATED : Fld := ⟨0x40000048, 0, 16⟩
def SYS_CHG_KEYS_FREED : Fld := ⟨0x40000048, 16, 16⟩
def SYS_CHG_SW_TICK_LO : Fld := ⟨0x4000004C, 0, 32⟩
def SYS_RST_CAUSE : Fld := ⟨0x40000020, 0, 3⟩
def SYS_RST_COUNT : Fld := ⟨0x40000020, 16, 16⟩
def SYS_PWR_PWR_FAIL : Fld := ⟨0x40000024, 0, 1⟩
def SYS_PWR_FLUSHING : Fld := ⟨0x40000024, 1, 1⟩
def SYS_PWR_FLUSH_OK : Fld := ⟨0x40000024, 2, 1⟩
def SYS_PWR_MRAM : Fld := ⟨0x40000024, 3, 1⟩
def SYS_PWR_WOKEN : Fld := ⟨0x40000024, 4, 1⟩
def SYS_PWR_WAKE_SRC : Fld := ⟨0x40000024, 5, 2⟩
def SYS_PWR_GEN : Fld := ⟨0x40000024, 16, 16⟩
def TICK_CFG_TB : Fld := ⟨0x40010000, 0, 2⟩
def TICK_CFG_PTP_ALIGN : Fld := ⟨0x40010000, 2, 1⟩
def TICK_CFG_RUN : Fld := ⟨0x40010000, 3, 1⟩
def TICK_CFG_LOCK : Fld := ⟨0x40010000, 31, 1⟩
def TICK_PH0_FREEZE_DONE : Fld := ⟨0x40010004, 0, 10⟩
def TICK_PH0_DISPATCH : Fld := ⟨0x40010004, 16, 10⟩
def TICK_PH1_COMMIT_END : Fld := ⟨0x40010008, 0, 10⟩
def TICK_PH1_REPLY_END : Fld := ⟨0x40010008, 16, 10⟩
def TICK_PH2_SAMPLE : Fld := ⟨0x4001000C, 0, 10⟩
def TICK_PH3_IVOTE_END : Fld := ⟨0x40010010, 0, 10⟩
def TICK_PH3_EXEC_END : Fld := ⟨0x40010010, 16, 10⟩
def TICK_OFFS_O1 : Fld := ⟨0x40010014, 0, 1⟩
def TICK_OFFS_O2 : Fld := ⟨0x40010014, 1, 2⟩
def TICK_OFFS_O3 : Fld := ⟨0x40010014, 3, 3⟩
def TICK_OFFS_O4 : Fld := ⟨0x40010014, 6, 4⟩
def TICK_OFFS_O5 : Fld := ⟨0x40010014, 10, 5⟩
def TICK_OFFS_O6 : Fld := ⟨0x40010014, 15, 6⟩
def TICK_OFFS_O7 : Fld := ⟨0x40010014, 21, 7⟩
def TICK_NUM_LO_NUM_LO : Fld := ⟨0x40010020, 0, 32⟩
def TICK_NUM_HI_NUM_HI : Fld := ⟨0x40010024, 0, 32⟩
def TICK_START_LO_START_LO : Fld := ⟨0x40010028, 0, 32⟩
def TICK_START_HI_START_HI : Fld := ⟨0x4001002C, 0, 32⟩
def TICK_DUE_FROZEN : Fld := ⟨0x40010030, 0, 8⟩
def TICK_DUE_DEADLINE : Fld := ⟨0x40010030, 8, 8⟩
def TICK_STAT_SRC : Fld := ⟨0x40010034, 0, 2⟩
def TICK_STAT_LOCKED : Fld := ⟨0x40010034, 2, 1⟩
def TICK_STAT_HOLDOVER : Fld := ⟨0x40010034, 3, 1⟩
def TICK_STAT_RUNNING : Fld := ⟨0x40010034, 4, 1⟩
def TICK_ERR_PHASE_ERR : Fld := ⟨0x40010038, 0, 32⟩
def TICK_SLACK_MIN_DISPATCH : Fld := ⟨0x4001003C, 0, 10⟩
def TICK_SLACK_MIN_FREEZE : Fld := ⟨0x4001003C, 16, 10⟩
def TICK_OVR_KIND : Fld := ⟨0x40010040, 0, 2⟩
def TICK_OVR_CLASS : Fld := ⟨0x40010040, 4, 3⟩
def TICK_OVR_TICK_LO : Fld := ⟨0x40010040, 16, 16⟩
def IMG_CTRL_FREEZE_EN : Fld := ⟨0x40020000, 0, 1⟩
def IMG_CTRL_LOCK : Fld := ⟨0x40020000, 31, 1⟩
def IMG_FRZ_LINES : Fld := ⟨0x40020010, 0, 16⟩
def IMG_FRZ_READ : Fld := ⟨0x40020010, 16, 16⟩
def IMG_GATH_MAX_END : Fld := ⟨0x40020014, 0, 10⟩
def IMG_ECC_CORR : Fld := ⟨0x40020018, 0, 16⟩
def IMG_ECC_UNCORR_L : Fld := ⟨0x40020018, 16, 16⟩
def IMG_CRED_FREE : Fld := ⟨0x40020020, 0, 8⟩
def IMG_CRED_INFLIGHT : Fld := ⟨0x40020020, 8, 8⟩
def IMG_FORCE_COUNT : Fld := ⟨0x40020030, 0, 11⟩
def IMG_RD_A_START (n : Nat) : Fld := ⟨0x40020400 + 16 * n, 0, 23⟩
def IMG_RD_A_TYPE (n : Nat) : Fld := ⟨0x40020400 + 16 * n, 24, 3⟩
def IMG_RD_A_SUBST_EN (n : Nat) : Fld := ⟨0x40020400 + 16 * n, 28, 1⟩
def IMG_RD_B_LENGTH (n : Nat) : Fld := ⟨0x40020404 + 16 * n, 0, 23⟩
def IMG_RD_B_CLASS (n : Nat) : Fld := ⟨0x40020404 + 16 * n, 24, 3⟩
def IMG_RD_B_DIR (n : Nat) : Fld := ⟨0x40020404 + 16 * n, 28, 2⟩
def IMG_RD_SV_SUBST (n : Nat) : Fld := ⟨0x40020408 + 16 * n, 0, 32⟩
def SEQ_CTRL_RUN : Fld := ⟨0x40050000, 0, 1⟩
def SEQ_CTRL_LOCK : Fld := ⟨0x40050000, 31, 1⟩
def SEQ_FENCE_CFG_LIMIT : Fld := ⟨0x40050020, 0, 8⟩
def SEQ_FENCE_CFG_WIN : Fld := ⟨0x40050020, 8, 5⟩
def SEQ_FENCE_CFG_AUTO : Fld := ⟨0x40050020, 15, 1⟩
def SEQ_FENCE_FENCED : Fld := ⟨0x40050024, 0, 3⟩
def SEQ_FENCE_DRAINING : Fld := ⟨0x40050024, 4, 3⟩
def SEQ_FENCE_DUE : Fld := ⟨0x40050024, 8, 3⟩
def SEQ_FENCE_MARK : Fld := ⟨0x40050024, 16, 3⟩
def SEQ_BAYEVT_COUNT (n : Nat) : Fld := ⟨0x40050030 + 4 * n, 0, 8⟩
def SEQ_BAYEVT_TOTAL (n : Nat) : Fld := ⟨0x40050030 + 4 * n, 16, 16⟩
def SEQ_SHED_COUNT : Fld := ⟨0x40050040, 0, 11⟩
def SEQ_SHED_FIRST : Fld := ⟨0x40050040, 16, 11⟩
def SEQ_ENG_TASK (n : Nat) : Fld := ⟨0x40050100 + 4 * n, 0, 10⟩
def SEQ_ENG_CLASS (n : Nat) : Fld := ⟨0x40050100 + 4 * n, 12, 3⟩
def SEQ_ENG_RUNNING (n : Nat) : Fld := ⟨0x40050100 + 4 * n, 16, 1⟩
def SEQ_ENG_FAULT_NOW (n : Nat) : Fld := ⟨0x40050100 + 4 * n, 17, 1⟩
def TWIN_CFG_INJ_INT : Fld := ⟨0x40040000, 0, 6⟩
def TWIN_CFG_LOCK : Fld := ⟨0x40040000, 31, 1⟩
def TWIN_STAG_STAGGER (n : Nat) : Fld := ⟨0x40040010 + 4 * n, 0, 14⟩
def TWIN_STAT_DUP_ON (n : Nat) : Fld := ⟨0x40040040 + 4 * n, 0, 1⟩
def TWIN_STAT_INJ_BIT (n : Nat) : Fld := ⟨0x40040040 + 4 * n, 8, 6⟩
def TWIN_STAT_MISMATCH (n : Nat) : Fld := ⟨0x40040040 + 4 * n, 16, 1⟩
def TWIN_STAT_INJ_MISS (n : Nat) : Fld := ⟨0x40040040 + 4 * n, 17, 1⟩
def TWIN_STAT_DUP_DIS (n : Nat) : Fld := ⟨0x40040040 + 4 * n, 18, 1⟩
def TWIN_CMP_COUNT (n : Nat) : Fld := ⟨0x40040080 + 4 * n, 0, 32⟩
def TWIN_INJ_COUNT (n : Nat) : Fld := ⟨0x400400C0 + 4 * n, 0, 32⟩
def TWIN_MISM_A_TWIN : Fld := ⟨0x40040100, 0, 3⟩
def TWIN_MISM_A_KIND : Fld := ⟨0x40040100, 4, 2⟩
def TWIN_MISM_A_TASK : Fld := ⟨0x40040100, 16, 10⟩
def TWIN_MISM_B_SEG : Fld := ⟨0x40040104, 0, 32⟩
def TWIN_MISM_C_TICK_LO : Fld := ⟨0x40040108, 0, 32⟩
def TWIN_DUP_ON : Fld := ⟨0x40040110, 0, 6⟩
def TWIN_DUP_ALWAYS : Fld := ⟨0x40040110, 8, 1⟩
def STR_CTRL_EN (i : Nat) : Fld := ⟨0x40200000 + 0x10000 * i, 0, 1⟩
def STR_CTRL_LOOP (i : Nat) : Fld := ⟨0x40200000 + 0x10000 * i, 1, 1⟩
def STR_CTRL_RELAY_EN (i : Nat) : Fld := ⟨0x40200000 + 0x10000 * i, 2, 1⟩
def STR_CTRL_LOCK (i : Nat) : Fld := ⟨0x40200000 + 0x10000 * i, 31, 1⟩
def STR_CUE_CUE_AT (i : Nat) : Fld := ⟨0x40200004 + 0x10000 * i, 0, 21⟩
def STR_PROP_PROP (i : Nat) : Fld := ⟨0x40200008 + 0x10000 * i, 0, 20⟩
def STR_STAT_UP (i : Nat) : Fld := ⟨0x40200010 + 0x10000 * i, 0, 1⟩
def STR_STAT_RELAY (i : Nat) : Fld := ⟨0x40200010 + 0x10000 * i, 1, 1⟩
def STR_STAT_RELAYING (i : Nat) : Fld := ⟨0x40200010 + 0x10000 * i, 2, 1⟩
def STR_STAT_PROP_EXCEED (i : Nat) : Fld := ⟨0x40200010 + 0x10000 * i, 3, 1⟩
def STR_STAT_PEER (i : Nat) : Fld := ⟨0x40200010 + 0x10000 * i, 4, 1⟩
def STR_STAT_REPLY_END (i : Nat) : Fld := ⟨0x40200010 + 0x10000 * i, 8, 10⟩
def STR_STAT_CUE_LEN (i : Nat) : Fld := ⟨0x40200010 + 0x10000 * i, 18, 10⟩
def STR_ADMIT_ADMIT (i n : Nat) : Fld := ⟨0x40200020 + 0x10000 * i + 4 * n, 0, 32⟩
def STR_HEARD_HEARD (i n : Nat) : Fld := ⟨0x40200030 + 0x10000 * i + 4 * n, 0, 32⟩
def STR_PROB_PROB (i n : Nat) : Fld := ⟨0x40200040 + 0x10000 * i + 4 * n, 0, 32⟩
def STR_MISFIT_POS (i : Nat) : Fld := ⟨0x40200050 + 0x10000 * i, 0, 7⟩
def STR_MISFIT_CODE (i : Nat) : Fld := ⟨0x40200050 + 0x10000 * i, 8, 4⟩
def STR_ERR0_FCS (i : Nat) : Fld := ⟨0x40200060 + 0x10000 * i, 0, 8⟩
def STR_ERR0_HDR (i : Nat) : Fld := ⟨0x40200060 + 0x10000 * i, 8, 8⟩
def STR_ERR0_KIND (i : Nat) : Fld := ⟨0x40200060 + 0x10000 * i, 16, 8⟩
def STR_ERR0_LEN (i : Nat) : Fld := ⟨0x40200060 + 0x10000 * i, 24, 8⟩
def STR_ERR1_CRC (i : Nat) : Fld := ⟨0x40200064 + 0x10000 * i, 0, 8⟩
def STR_ERR1_PAIR (i : Nat) : Fld := ⟨0x40200064 + 0x10000 * i, 8, 8⟩
def STR_ERR1_STRING (i : Nat) : Fld := ⟨0x40200064 + 0x10000 * i, 16, 8⟩
def STR_ERR1_LATE (i : Nat) : Fld := ⟨0x40200064 + 0x10000 * i, 24, 8⟩
def STR_MISS_MISSING (i : Nat) : Fld := ⟨0x40200068 + 0x10000 * i, 0, 16⟩
def STR_MISS_QUEUED (i : Nat) : Fld := ⟨0x40200068 + 0x10000 * i, 16, 16⟩
def STR_RTMAX_LAST_REPLY (i : Nat) : Fld := ⟨0x4020006C + 0x10000 * i, 0, 10⟩
def SAW_CFG_LEASE : Fld := ⟨0x40070000, 0, 4⟩
def SAW_CFG_GUARD : Fld := ⟨0x40070000, 4, 4⟩
def SAW_CFG_START_WIN : Fld := ⟨0x40070000, 8, 8⟩
def SAW_CFG_HOVR_LEAD : Fld := ⟨0x40070000, 16, 4⟩
def SAW_CFG_LOCK : Fld := ⟨0x40070000, 31, 1⟩
def SAW_STAT_ROLE : Fld := ⟨0x40070004, 0, 3⟩
def SAW_STAT_MISS_GRANT : Fld := ⟨0x40070004, 4, 4⟩
def SAW_STAT_MISS_HB : Fld := ⟨0x40070004, 8, 4⟩
def SAW_STAT_PATH_FAULT : Fld := ⟨0x40070004, 12, 1⟩
def SAW_STAT_NO_PATH : Fld := ⟨0x40070004, 13, 1⟩
def SAW_STAT_BARRED : Fld := ⟨0x40070004, 14, 1⟩
def SAW_STAT_END_B : Fld := ⟨0x40070004, 15, 1⟩
def SAW_STAT_PINGPONG : Fld := ⟨0x40070004, 16, 1⟩
def SAW_STAT_EPOCH_END : Fld := ⟨0x40070004, 17, 1⟩
def SAW_EPOCH_EPOCH : Fld := ⟨0x40070008, 0, 32⟩
def SAW_KNOWN_KNOWN : Fld := ⟨0x4007000C, 0, 32⟩
def SAW_TAKE_CAUSE : Fld := ⟨0x40070010, 0, 2⟩
def SAW_TAKE_OVERRUN : Fld := ⟨0x40070010, 2, 1⟩
def SAW_TAKE_TICK_LO : Fld := ⟨0x40070010, 16, 16⟩
def SAW_CNT_TAKEOVERS : Fld := ⟨0x40070014, 0, 16⟩
def SAW_CNT_ABANDONED : Fld := ⟨0x40070014, 16, 16⟩
def SAW_LAPSE_LAPSES : Fld := ⟨0x40070018, 0, 16⟩
def SAW_LAPSE_PARTNER_LOST : Fld := ⟨0x40070018, 16, 16⟩
def SAW_HOVR_START : Fld := ⟨0x40070020, 0, 1⟩
def SAW_HOVR_RESULT : Fld := ⟨0x40070020, 4, 3⟩
def SAW_HOVR_REASON : Fld := ⟨0x40070020, 8, 4⟩
def SAW_HOVR_TICK_LO : Fld := ⟨0x40070020, 16, 16⟩
def PAIR_CTRL_EN : Fld := ⟨0x40300000, 0, 1⟩
def PAIR_CTRL_LOCK : Fld := ⟨0x40300000, 31, 1⟩
def PAIR_STAT_LANE0 : Fld := ⟨0x40300004, 0, 1⟩
def PAIR_STAT_LANE1 : Fld := ⟨0x40300004, 1, 1⟩
def PAIR_STAT_UP : Fld := ⟨0x40300004, 2, 1⟩
def PAIR_STAT_HALF : Fld := ⟨0x40300004, 3, 1⟩
def PAIR_STAT_PEER : Fld := ⟨0x40300004, 4, 1⟩
def PAIR_STAT_PEER_ADDR : Fld := ⟨0x40300004, 8, 6⟩
def PAIR_STAT_PEER_STATE : Fld := ⟨0x40300004, 16, 4⟩
def PAIR_LAT_LAT : Fld := ⟨0x40300008, 0, 13⟩
def PAIR_LAT_MAX : Fld := ⟨0x40300008, 16, 13⟩
def PAIR_ERR_CRC : Fld := ⟨0x4030000C, 0, 16⟩
def PAIR_ERR_LATE : Fld := ⟨0x4030000C, 16, 16⟩
def PAIR_MISS_HB : Fld := ⟨0x40300010, 0, 16⟩
def PAIR_MISS_GRANT : Fld := ⟨0x40300010, 16, 16⟩
def MIRR_CFG_START : Fld := ⟨0x40060000, 0, 10⟩
def MIRR_CFG_SWEEP : Fld := ⟨0x40060000, 16, 8⟩
def MIRR_CFG_LOCK : Fld := ⟨0x40060000, 31, 1⟩
def MIRR_REH_INTERVAL : Fld := ⟨0x40060004, 0, 16⟩
def MIRR_REH_EN : Fld := ⟨0x40060004, 16, 1⟩
def MIRR_STAT_MODE : Fld := ⟨0x40060010, 0, 2⟩
def MIRR_STAT_MERGING : Fld := ⟨0x40060010, 2, 1⟩
def MIRR_STAT_REH_FAIL : Fld := ⟨0x40060010, 3, 1⟩
def MIRR_STAT_LAG : Fld := ⟨0x40060010, 16, 16⟩
def MIRR_LAST_LO_LAST_LO : Fld := ⟨0x40060018, 0, 32⟩
def MIRR_LAST_HI_LAST_HI : Fld := ⟨0x4006001C, 0, 32⟩
def MIRR_LMAX_MAX : Fld := ⟨0x40060024, 0, 17⟩
def MIRR_COPY_BLOCKS : Fld := ⟨0x40060028, 0, 17⟩
def MIRR_ERR_NAK : Fld := ⟨0x40060030, 0, 16⟩
def MIRR_ERR_DIGEST : Fld := ⟨0x40060030, 16, 16⟩
def MIRR_CNT_MERGED : Fld := ⟨0x40060034, 0, 16⟩
def MIRR_CNT_WITHHELD : Fld := ⟨0x40060034, 16, 16⟩
def MIRR_SWEEP_PASSES : Fld := ⟨0x40060038, 0, 16⟩
def MIRR_SWEEP_RESENT : Fld := ⟨0x40060038, 16, 16⟩
def MIRR_REHS_PASS : Fld := ⟨0x4006003C, 0, 16⟩
def MIRR_REHS_FAIL : Fld := ⟨0x4006003C, 16, 16⟩
def MIRR_BOOK0_SENT : Fld := ⟨0x40060040, 0, 17⟩
def MIRR_BOOK1_STAGED : Fld := ⟨0x40060044, 0, 17⟩
def MIRR_BOOK2_APPLIED : Fld := ⟨0x40060048, 0, 17⟩
def TRI_CFG_MEMBER : Fld := ⟨0x40080000, 0, 2⟩
def TRI_CFG_TRIPCNT : Fld := ⟨0x40080000, 4, 4⟩
def TRI_CFG_IN_MAX : Fld := ⟨0x40080000, 8, 5⟩
def TRI_CFG_OUT_MAX : Fld := ⟨0x40080000, 16, 5⟩
def TRI_CFG_LOCK : Fld := ⟨0x40080000, 31, 1⟩
def TRI_CFG1_START_WIN : Fld := ⟨0x40080004, 0, 8⟩
def TRI_STAT_SET : Fld := ⟨0x40080010, 0, 3⟩
def TRI_STAT_MAJ : Fld := ⟨0x40080010, 3, 3⟩
def TRI_STAT_MODE : Fld := ⟨0x40080010, 6, 2⟩
def TRI_STAT_MINCNT : Fld := ⟨0x40080010, 8, 4⟩
def TRI_STAT_JOINING : Fld := ⟨0x40080010, 12, 1⟩
def TRI_STAT_SOURCE : Fld := ⟨0x40080010, 13, 1⟩
def TRI_STAT_JOIN_FAIL : Fld := ⟨0x40080010, 14, 1⟩
def TRI_STAT_NBLK : Fld := ⟨0x40080010, 16, 9⟩
def TRI_LINKS_UP : Fld := ⟨0x40080014, 0, 3⟩
def TRI_XCH_IN : Fld := ⟨0x40080018, 0, 5⟩
def TRI_XCH_OUT : Fld := ⟨0x40080018, 8, 5⟩
def TRI_CNT0_IN_SPLIT : Fld := ⟨0x40080020, 0, 16⟩
def TRI_CNT0_OUT_SPLIT : Fld := ⟨0x40080020, 16, 16⟩
def TRI_CNT1_OVERFLOW : Fld := ⟨0x40080024, 0, 16⟩
def TRI_CNT1_MINORITY : Fld := ⟨0x40080024, 16, 16⟩
def TRI_CNT2_DISAGREE : Fld := ⟨0x40080028, 0, 16⟩
def TRI_CNT2_COPYLOSS : Fld := ⟨0x40080028, 16, 16⟩
def TRI_SKEW_MAX : Fld := ⟨0x4008002C, 0, 16⟩
def TRI_VD_TOL_TOL (n : Nat) : Fld := ⟨0x40080400 + 16 * n, 0, 32⟩
def TRI_VD_SAFE_SAFE (n : Nat) : Fld := ⟨0x40080404 + 16 * n, 0, 32⟩
def TRI_VD_CFG_SIDE (n : Nat) : Fld := ⟨0x40080408 + 16 * n, 0, 1⟩
def TL_CTRL_EN (i : Nat) : Fld := ⟨0x40310000 + 0x10000 * i, 0, 1⟩
def TL_CTRL_LOCK (i : Nat) : Fld := ⟨0x40310000 + 0x10000 * i, 31, 1⟩
def TL_STAT_UP (i : Nat) : Fld := ⟨0x40310004 + 0x10000 * i, 0, 1⟩
def TL_STAT_PEER (i : Nat) : Fld := ⟨0x40310004 + 0x10000 * i, 1, 1⟩
def TL_STAT_PEER_ID (i : Nat) : Fld := ⟨0x40310004 + 0x10000 * i, 2, 2⟩
def TL_STAT_WIRING (i : Nat) : Fld := ⟨0x40310004 + 0x10000 * i, 4, 1⟩
def TL_STAT_PEER_STATE (i : Nat) : Fld := ⟨0x40310004 + 0x10000 * i, 8, 4⟩
def TL_STAT_COPY_TX (i : Nat) : Fld := ⟨0x40310004 + 0x10000 * i, 12, 1⟩
def TL_STAT_COPY_RX (i : Nat) : Fld := ⟨0x40310004 + 0x10000 * i, 13, 1⟩
def TL_DLY_DELAY (i : Nat) : Fld := ⟨0x40310008 + 0x10000 * i, 0, 13⟩
def TL_DLY_MAX (i : Nat) : Fld := ⟨0x40310008 + 0x10000 * i, 16, 13⟩
def TL_OFS_OFFSET (i : Nat) : Fld := ⟨0x4031000C + 0x10000 * i, 0, 32⟩
def TL_ERR_CRC (i : Nat) : Fld := ⟨0x40310010 + 0x10000 * i, 0, 16⟩
def TL_ERR_LATE (i : Nat) : Fld := ⟨0x40310010 + 0x10000 * i, 16, 16⟩
def TUMB_STAT_ARMED : Fld := ⟨0x40090000, 0, 1⟩
def TUMB_STAT_TRIPPED : Fld := ⟨0x40090000, 1, 1⟩
def TUMB_STAT_TRIP_N : Fld := ⟨0x40090000, 2, 1⟩
def TUMB_STAT_CAUSE : Fld := ⟨0x40090000, 8, 8⟩
def TUMB_STAT_TICK_LO : Fld := ⟨0x40090000, 16, 16⟩
def TUMB_TIME_LO_TIME_LO : Fld := ⟨0x40090004, 0, 32⟩
def TUMB_TIME_HI_TIME_HI : Fld := ⟨0x40090008, 0, 32⟩
def TUMB_MORE_MORE : Fld := ⟨0x4009000C, 1, 12⟩
def TUMB_CMD_TRIP : Fld := ⟨0x40090010, 0, 1⟩
def TUMB_CMD_KEY : Fld := ⟨0x40090010, 16, 16⟩
def TUMB_COUNT_TRIPS : Fld := ⟨0x40090014, 0, 16⟩
def TUMB_RESTART_REQ : Fld := ⟨0x40090018, 0, 1⟩
def TUMB_RESTART_RESULT : Fld := ⟨0x40090018, 4, 3⟩
def GATE_CTRL_LOCK : Fld := ⟨0x40030000, 31, 1⟩
def GATE_RETAG_A_LINE : Fld := ⟨0x40030010, 0, 22⟩
def GATE_RETAG_A_REGION : Fld := ⟨0x40030010, 24, 1⟩
def GATE_RETAG_B_COUNT : Fld := ⟨0x40030014, 0, 22⟩
def GATE_RETAG_B_COLOUR : Fld := ⟨0x40030014, 24, 4⟩
def GATE_RETAG_B_GO : Fld := ⟨0x40030014, 31, 1⟩
def GATE_RETAG_S_BUSY : Fld := ⟨0x40030018, 0, 1⟩
def GATE_RETAG_S_REFUSED : Fld := ⟨0x40030018, 1, 1⟩
def GATE_VQ0_W0 : Fld := ⟨0x40030020, 0, 32⟩
def GATE_VQ1_W1 : Fld := ⟨0x40030024, 0, 32⟩
def GATE_VQ2_W2 : Fld := ⟨0x40030028, 0, 32⟩
def GATE_VQ3_W3 : Fld := ⟨0x4003002C, 0, 32⟩
def GATE_VSTAT_COUNT : Fld := ⟨0x40030030, 0, 6⟩
def GATE_VSTAT_OVERFLOW : Fld := ⟨0x40030030, 16, 16⟩
def GATE_ECC_CORR : Fld := ⟨0x40030034, 0, 16⟩
def GATE_ECC_UNCORR : Fld := ⟨0x40030034, 16, 16⟩
/-- `GATE_POLk`, field of index k. -/
def GATE_POL_POL (n k : Nat) : Fld := ⟨0x40030040 + 4 * n, 2 * k, 2⟩
def GATE_CTX_RW_READ_MASK (n : Nat) : Fld := ⟨0x40030400 + 8 * n, 0, 16⟩
def GATE_CTX_RW_WRITE_MASK (n : Nat) : Fld := ⟨0x40030400 + 8 * n, 16, 16⟩
def GATE_CTX_X_EXEC_MASK (n : Nat) : Fld := ⟨0x40030404 + 8 * n, 0, 16⟩
def GATE_CTX_X_LOCK (n : Nat) : Fld := ⟨0x40030404 + 8 * n, 31, 1⟩
def SEC_LC_STATE : Fld := ⟨0x400A0000, 0, 2⟩
def SEC_LC_STEP : Fld := ⟨0x400A0000, 8, 8⟩
def SEC_ID_LO_ID_LO : Fld := ⟨0x400A0004, 0, 32⟩
def SEC_ID_HI_ID_HI : Fld := ⟨0x400A0008, 0, 32⟩
def SEC_BOOT_SLOT : Fld := ⟨0x400A0010, 0, 1⟩
def SEC_BOOT_ROM_ONLY : Fld := ⟨0x400A0010, 1, 1⟩
def SEC_BOOT_REASON_A : Fld := ⟨0x400A0010, 8, 4⟩
def SEC_BOOT_REASON_B : Fld := ⟨0x400A0010, 12, 4⟩
def SEC_KEYS_PRESENT : Fld := ⟨0x400A0014, 0, 4⟩
def SEC_KEYS_REVOKED : Fld := ⟨0x400A0014, 4, 4⟩
def SEC_KEYS_PURPOSE : Fld := ⟨0x400A0014, 8, 12⟩
def SEC_KEYS_USED : Fld := ⟨0x400A0014, 20, 4⟩
def SEC_CTR_CTR : Fld := ⟨0x400A0018, 0, 32⟩
def SEC_DBG_UNLOCKED : Fld := ⟨0x400A0020, 0, 1⟩
def SEC_DBG_HOLD : Fld := ⟨0x400A0020, 1, 1⟩
def SEC_DBG_REFUSED : Fld := ⟨0x400A0020, 8, 8⟩
def SEC_DBG_READ_MASK : Fld := ⟨0x400A0020, 16, 16⟩
def SEC_STAT_KEY_OK : Fld := ⟨0x400A0024, 0, 1⟩
def SEC_STAT_BUSY : Fld := ⟨0x400A0024, 1, 1⟩
def SEC_STAT_ERR : Fld := ⟨0x400A0024, 8, 8⟩
def TIME_CFG_PTP_EN : Fld := ⟨0x40110000, 0, 1⟩
def TIME_CFG_PORT : Fld := ⟨0x40110000, 1, 1⟩
def TIME_CFG_ALT : Fld := ⟨0x40110000, 2, 1⟩
def TIME_CFG_UDP : Fld := ⟨0x40110000, 3, 1⟩
def TIME_CFG_DOMAIN : Fld := ⟨0x40110000, 4, 7⟩
def TIME_CFG_HOLDOVER : Fld := ⟨0x40110000, 16, 8⟩
def TIME_CFG_LOCK : Fld := ⟨0x40110000, 31, 1⟩
def TIME_NS_NS : Fld := ⟨0x40110004, 0, 32⟩
def TIME_WRAP_WRAP : Fld := ⟨0x40110008, 0, 32⟩
def TIME_INC_INC : Fld := ⟨0x4011000C, 0, 32⟩
def TIME_SET_LO_SET_LO : Fld := ⟨0x40110010, 0, 32⟩
def TIME_SET_HI_SET_HI : Fld := ⟨0x40110014, 0, 32⟩
def TIME_CTRL_LOAD : Fld := ⟨0x40110018, 0, 1⟩
def TIME_STAT_PTP_LOCKED : Fld := ⟨0x40110020, 0, 1⟩
def TIME_STAT_HOLDOVER : Fld := ⟨0x40110020, 1, 1⟩
def TIME_STAT_SYNC : Fld := ⟨0x40110020, 2, 1⟩
def TIME_STAT_PORT : Fld := ⟨0x40110020, 3, 1⟩
def TIME_STAT_CLAMP : Fld := ⟨0x40110020, 4, 1⟩
def TIME_STAT_LOAD_REFUSED : Fld := ⟨0x40110020, 5, 1⟩
def TIME_OFS_OFFSET : Fld := ⟨0x40110024, 0, 32⟩
def TIME_MPD_MPD : Fld := ⟨0x40110028, 0, 32⟩
def TIME_PSEC_LO_SEC_LO : Fld := ⟨0x40110030, 0, 32⟩
def TIME_PSEC_HI_SEC_HI : Fld := ⟨0x40110034, 0, 16⟩
def TIME_PBASE_NS_BASE : Fld := ⟨0x40110038, 0, 32⟩
def PL_CTRL_EN (i : Nat) : Fld := ⟨0x40120000 + 0x10000 * i, 0, 1⟩
def PL_CTRL_LINE (i : Nat) : Fld := ⟨0x40120000 + 0x10000 * i, 1, 2⟩
def PL_CTRL_LOCK (i : Nat) : Fld := ⟨0x40120000 + 0x10000 * i, 31, 1⟩
def PL_MAC_LO_MAC_LO (i : Nat) : Fld := ⟨0x40120004 + 0x10000 * i, 0, 32⟩
def PL_MAC_HI_MAC_HI (i : Nat) : Fld := ⟨0x40120008 + 0x10000 * i, 0, 16⟩
def PL_IP_IP (i : Nat) : Fld := ⟨0x4012000C + 0x10000 * i, 0, 32⟩
def PL_VLAN_VID (i : Nat) : Fld := ⟨0x40120010 + 0x10000 * i, 0, 12⟩
def PL_VLAN_TAGGED (i : Nat) : Fld := ⟨0x40120010 + 0x10000 * i, 12, 1⟩
def PL_VLAN_PCP (i : Nat) : Fld := ⟨0x40120010 + 0x10000 * i, 13, 3⟩
def PL_LAT_TX_LAT (i : Nat) : Fld := ⟨0x40120014 + 0x10000 * i, 0, 16⟩
def PL_LAT_RX_LAT (i : Nat) : Fld := ⟨0x40120014 + 0x10000 * i, 16, 16⟩
def PL_STAT_UP (i : Nat) : Fld := ⟨0x40120020 + 0x10000 * i, 0, 1⟩
def PL_STAT_TSQ_OVF (i : Nat) : Fld := ⟨0x40120020 + 0x10000 * i, 1, 1⟩
def PL_STAT_TSQ_COUNT (i : Nat) : Fld := ⟨0x40120020 + 0x10000 * i, 4, 5⟩
def PL_TSQ_ID_ID (i : Nat) : Fld := ⟨0x40120024 + 0x10000 * i, 0, 16⟩
def PL_TSQ_ID_SEQ (i : Nat) : Fld := ⟨0x40120024 + 0x10000 * i, 16, 8⟩
def PL_TSQ_ID_VALID (i : Nat) : Fld := ⟨0x40120024 + 0x10000 * i, 31, 1⟩
def PL_TSQ_NS_NS (i : Nat) : Fld := ⟨0x40120028 + 0x10000 * i, 0, 32⟩
def PL_TSQ_OVF_DROPPED (i : Nat) : Fld := ⟨0x4012002C + 0x10000 * i, 0, 16⟩
def PL_ERR_FCS (i : Nat) : Fld := ⟨0x40120030 + 0x10000 * i, 0, 16⟩
def PL_ERR_DISCARD (i : Nat) : Fld := ⟨0x40120030 + 0x10000 * i, 16, 16⟩
def PL_FWD_FORWARDED (i : Nat) : Fld := ⟨0x40120034 + 0x10000 * i, 0, 16⟩
def PL_FWD_DROPPED (i : Nat) : Fld := ⟨0x40120034 + 0x10000 * i, 16, 16⟩
def PL_RES_MAX (i : Nat) : Fld := ⟨0x40120038 + 0x10000 * i, 0, 16⟩
def SVC_CFG_EN : Fld := ⟨0x40140000, 0, 1⟩
def SVC_CFG_PLANT_A : Fld := ⟨0x40140000, 1, 1⟩
def SVC_CFG_PLANT_B : Fld := ⟨0x40140000, 2, 1⟩
def SVC_CFG_PLANT_AUTH : Fld := ⟨0x40140000, 3, 1⟩
def SVC_CFG_IDLE : Fld := ⟨0x40140000, 8, 8⟩
def SVC_CFG_LOCK : Fld := ⟨0x40140000, 31, 1⟩
def SVC_IP_IP : Fld := ⟨0x40140004, 0, 32⟩
def SVC_MAC_LO_MAC_LO : Fld := ⟨0x40140008, 0, 32⟩
def SVC_MAC_HI_MAC_HI : Fld := ⟨0x4014000C, 0, 16⟩
def SVC_STAT_UP : Fld := ⟨0x40140010, 0, 1⟩
def SVC_STAT_SESSION : Fld := ⟨0x40140010, 1, 1⟩
def SVC_STAT_SESS_IF : Fld := ⟨0x40140010, 2, 2⟩
def SVC_STAT_PENDING : Fld := ⟨0x40140010, 8, 5⟩
def SVC_SESS_SRC_IP : Fld := ⟨0x40140014, 0, 32⟩
def SVC_CNT_REQUESTS : Fld := ⟨0x40140018, 0, 16⟩
def SVC_CNT_REFUSED : Fld := ⟨0x40140018, 16, 16⟩
def FIELD_CTRL_EN : Fld := ⟨0x40100000, 0, 1⟩
def FIELD_CTRL_LOCK : Fld := ⟨0x40100000, 31, 1⟩
def FIELD_BASE_BASE : Fld := ⟨0x40100004, 0, 23⟩
def FIELD_CMD_CMD_AT : Fld := ⟨0x40100008, 0, 21⟩
def FIELD_WD_WD : Fld := ⟨0x4010000C, 0, 7⟩
def FIELD_WD_HOLD : Fld := ⟨0x4010000C, 8, 8⟩
def FIELD_DI_CFG_FILTER (n : Nat) : Fld := ⟨0x40100020 + 4 * n, 0, 8⟩
def FIELD_DI_CFG_WIRE_EN (n : Nat) : Fld := ⟨0x40100020 + 4 * n, 8, 1⟩
def FIELD_DO_CFG_SAFE : Fld := ⟨0x40100060, 0, 8⟩
def FIELD_DO_CFG_OPEN_EN : Fld := ⟨0x40100060, 8, 8⟩
def FIELD_DO_CFG_PULSE_EN : Fld := ⟨0x40100060, 16, 8⟩
def FIELD_DO_CFG_PULSE_W : Fld := ⟨0x40100060, 24, 4⟩
def FIELD_AO_CFG_SAFE (n : Nat) : Fld := ⟨0x40100070 + 8 * n, 0, 15⟩
def FIELD_AO_CFG_CAL_EN (n : Nat) : Fld := ⟨0x40100070 + 8 * n, 31, 1⟩
def FIELD_AO_ALM_LOW (n : Nat) : Fld := ⟨0x40100074 + 8 * n, 0, 15⟩
def FIELD_AO_ALM_HIGH (n : Nat) : Fld := ⟨0x40100074 + 8 * n, 16, 15⟩
def FIELD_AI_CFG_NAMUR (n : Nat) : Fld := ⟨0x40100090 + 4 * n, 0, 1⟩
def FIELD_AI_CFG_FILTER (n : Nat) : Fld := ⟨0x40100090 + 4 * n, 1, 3⟩
def FIELD_STAT_LINK : Fld := ⟨0x401000A0, 0, 1⟩
def FIELD_STAT_DRIVE : Fld := ⟨0x401000A0, 1, 1⟩
def FIELD_STAT_FLAGS : Fld := ⟨0x401000A0, 2, 4⟩
def FIELD_DIAG_DO : Fld := ⟨0x401000A4, 0, 32⟩
def FIELD_ERR_CRC : Fld := ⟨0x401000B0, 0, 16⟩
def FIELD_ERR_MISS : Fld := ⟨0x401000B0, 16, 16⟩
def FIELD_WDCNT_EXPIRED : Fld := ⟨0x401000B4, 0, 16⟩
def CAN_CTRL_EN (i : Nat) : Fld := ⟨0x400D0000 + 0x10000 * i, 0, 1⟩
def CAN_CTRL_POLICY (i : Nat) : Fld := ⟨0x400D0000 + 0x10000 * i, 1, 1⟩
def CAN_CTRL_RETRY (i : Nat) : Fld := ⟨0x400D0000 + 0x10000 * i, 4, 4⟩
def CAN_CTRL_UNLIM (i : Nat) : Fld := ⟨0x400D0000 + 0x10000 * i, 8, 1⟩
def CAN_CTRL_ABO (i : Nat) : Fld := ⟨0x400D0000 + 0x10000 * i, 9, 1⟩
def CAN_CTRL_SLEEP (i : Nat) : Fld := ⟨0x400D0000 + 0x10000 * i, 16, 1⟩
def CAN_CTRL_LOCK (i : Nat) : Fld := ⟨0x400D0000 + 0x10000 * i, 31, 1⟩
def CAN_NBT_BRP (i : Nat) : Fld := ⟨0x400D0004 + 0x10000 * i, 0, 8⟩
def CAN_NBT_TSEG1 (i : Nat) : Fld := ⟨0x400D0004 + 0x10000 * i, 8, 8⟩
def CAN_NBT_TSEG2 (i : Nat) : Fld := ⟨0x400D0004 + 0x10000 * i, 16, 7⟩
def CAN_NBT_SJW (i : Nat) : Fld := ⟨0x400D0004 + 0x10000 * i, 24, 7⟩
def CAN_DBT_ALL (i : Nat) : Fld := ⟨0x400D0008 + 0x10000 * i, 0, 31⟩
def CAN_WAKE_MODE (i : Nat) : Fld := ⟨0x400D0010 + 0x10000 * i, 0, 2⟩
def CAN_WAKE_IDE (i : Nat) : Fld := ⟨0x400D0010 + 0x10000 * i, 2, 1⟩
def CAN_WID_ID (i : Nat) : Fld := ⟨0x400D0014 + 0x10000 * i, 0, 29⟩
def CAN_WIDM_MASK (i : Nat) : Fld := ⟨0x400D0018 + 0x10000 * i, 0, 29⟩
def CAN_WD_LO_DATA (i : Nat) : Fld := ⟨0x400D001C + 0x10000 * i, 0, 32⟩
def CAN_WD_HI_DATA (i : Nat) : Fld := ⟨0x400D0020 + 0x10000 * i, 0, 32⟩
def CAN_WDM_LO_DMASK (i : Nat) : Fld := ⟨0x400D0024 + 0x10000 * i, 0, 32⟩
def CAN_WDM_HI_DMASK (i : Nat) : Fld := ⟨0x400D0028 + 0x10000 * i, 0, 32⟩
def CAN_STAT_STATE (i : Nat) : Fld := ⟨0x400D0030 + 0x10000 * i, 0, 2⟩
def CAN_STAT_TEC (i : Nat) : Fld := ⟨0x400D0030 + 0x10000 * i, 8, 8⟩
def CAN_STAT_REC (i : Nat) : Fld := ⟨0x400D0030 + 0x10000 * i, 16, 8⟩
def CAN_STAT_WOKE (i : Nat) : Fld := ⟨0x400D0030 + 0x10000 * i, 24, 1⟩
def CAN_ERR0_TOO_LATE (i : Nat) : Fld := ⟨0x400D0034 + 0x10000 * i, 0, 16⟩
def CAN_ERR0_SKIPPED (i : Nat) : Fld := ⟨0x400D0034 + 0x10000 * i, 16, 16⟩
def CAN_ERR1_LOST (i : Nat) : Fld := ⟨0x400D0038 + 0x10000 * i, 0, 16⟩
def CAN_ERR1_FAILED (i : Nat) : Fld := ⟨0x400D0038 + 0x10000 * i, 16, 16⟩
def CAN_OBJ_A_ID (i n : Nat) : Fld := ⟨0x400D0400 + 0x10000 * i + 16 * n, 0, 29⟩
def CAN_OBJ_A_IDE (i n : Nat) : Fld := ⟨0x400D0400 + 0x10000 * i + 16 * n, 29, 1⟩
def CAN_OBJ_A_DIR (i n : Nat) : Fld := ⟨0x400D0400 + 0x10000 * i + 16 * n, 30, 2⟩
def CAN_OBJ_B_MASK (i n : Nat) : Fld := ⟨0x400D0404 + 0x10000 * i + 16 * n, 0, 29⟩
def CAN_OBJ_C_RUN (i n : Nat) : Fld := ⟨0x400D0408 + 0x10000 * i + 16 * n, 0, 26⟩
def CAN_OBJ_C_DLC (i n : Nat) : Fld := ⟨0x400D0408 + 0x10000 * i + 16 * n, 26, 4⟩
def CAN_OBJ_C_BRS (i n : Nat) : Fld := ⟨0x400D0408 + 0x10000 * i + 16 * n, 30, 1⟩
def CAN_OBJ_C_FDF (i n : Nat) : Fld := ⟨0x400D0408 + 0x10000 * i + 16 * n, 31, 1⟩
def CAN_OBJ_D_PERIOD (i n : Nat) : Fld := ⟨0x400D040C + 0x10000 * i + 16 * n, 0, 8⟩
def CAN_OBJ_D_PEND (i n : Nat) : Fld := ⟨0x400D040C + 0x10000 * i + 16 * n, 16, 1⟩
def CAN_OBJ_D_FAILED (i n : Nat) : Fld := ⟨0x400D040C + 0x10000 * i + 16 * n, 17, 1⟩
def CAN_OBJ_D_TOO_LATE (i n : Nat) : Fld := ⟨0x400D040C + 0x10000 * i + 16 * n, 18, 1⟩
def RACK_CFG_SPARE_WAIT : Fld := ⟨0x400C0000, 0, 8⟩
def RACK_CFG_LOCK : Fld := ⟨0x400C0000, 31, 1⟩
def RACK_STAT_CHAIN : Fld := ⟨0x400C0004, 0, 7⟩
def RACK_STAT_STRAP : Fld := ⟨0x400C0004, 8, 6⟩
def RACK_STAT_HEAD : Fld := ⟨0x400C0004, 14, 1⟩
def RACK_STAT_CHANGED : Fld := ⟨0x400C0004, 15, 1⟩
def RACK_STAT_REASON : Fld := ⟨0x400C0004, 16, 4⟩
def RACK_CMD_WAKE : Fld := ⟨0x400C0008, 0, 1⟩
def RACK_CMD_PARK : Fld := ⟨0x400C0008, 1, 1⟩
def RACK_CMD_TGT : Fld := ⟨0x400C0008, 8, 6⟩
def RACK_ERR_CRC : Fld := ⟨0x400C000C, 0, 16⟩
def RACK_ERR_GAP : Fld := ⟨0x400C000C, 16, 16⟩
def NVM_STAT_CS0_OK : Fld := ⟨0x400B0000, 0, 1⟩
def NVM_STAT_OCTAL : Fld := ⟨0x400B0000, 1, 1⟩
def NVM_STAT_CS1_OK : Fld := ⟨0x400B0000, 2, 1⟩
def NVM_STAT_BUSY : Fld := ⟨0x400B0000, 3, 1⟩
def NVM_STAT_SUSPENDED : Fld := ⟨0x400B0000, 4, 1⟩
def NVM_SIZE_CS0_LOG2 : Fld := ⟨0x400B0004, 0, 8⟩
def NVM_SIZE_CS1_LOG2 : Fld := ⟨0x400B0004, 8, 8⟩
def NVM_SEQA_SEQ : Fld := ⟨0x400B0008, 0, 32⟩
def NVM_SEQB_SEQ : Fld := ⟨0x400B000C, 0, 32⟩
def NVM_ERR_FAIL : Fld := ⟨0x400B0010, 0, 16⟩
def NVM_ERR_SUSP : Fld := ⟨0x400B0010, 16, 16⟩
def HLTH_CFG_BG_EN : Fld := ⟨0x40150000, 0, 1⟩
def HLTH_CFG_LOCK : Fld := ⟨0x40150000, 31, 1⟩
def HLTH_GRADE_GRADE : Fld := ⟨0x40150004, 0, 2⟩
def HLTH_GRADE_REASONS : Fld := ⟨0x40150004, 16, 13⟩
def HLTH_ITEM_STATUS (n : Nat) : Fld := ⟨0x40150010 + 4 * n, 0, 3⟩
def HLTH_ITEM_REQ (n : Nat) : Fld := ⟨0x40150010 + 4 * n, 3, 1⟩
def HLTH_ITEM_AGE (n : Nat) : Fld := ⟨0x40150010 + 4 * n, 8, 24⟩
def HLTH_BOOKS_CODE : Fld := ⟨0x40150040, 0, 4⟩
def HLTH_BOOKS_TICK_LO : Fld := ⟨0x40150040, 16, 16⟩
def HLTH_TEMP_TJ : Fld := ⟨0x40150044, 0, 16⟩
def HLTH_TEMP_MAX : Fld := ⟨0x40150044, 16, 16⟩
def HLTH_MARGIN_MIN : Fld := ⟨0x40150048, 0, 16⟩
def HLTH_MARGIN_RAIL : Fld := ⟨0x40150048, 16, 4⟩
def HLTH_SCRUB_CORR : Fld := ⟨0x4015004C, 0, 32⟩
def PANEL_CTRL_EN : Fld := ⟨0x400F0000, 0, 1⟩
def PANEL_CTRL_LOCK : Fld := ⟨0x400F0000, 31, 1⟩
def PANEL_STAT_BUSY : Fld := ⟨0x400F0004, 0, 1⟩
def PANEL_STAT_AON_BUSY : Fld := ⟨0x400F0004, 1, 1⟩
def PANEL_STAT_PSTATE : Fld := ⟨0x400F0004, 2, 2⟩
def PANEL_STAT_BAND : Fld := ⟨0x400F0004, 4, 3⟩
def PANEL_DISP_LO_D : Fld := ⟨0x400F0008, 0, 32⟩
def PANEL_DISP_HI_D : Fld := ⟨0x400F000C, 0, 32⟩
def PANEL_REQ_LO_R : Fld := ⟨0x400F0010, 0, 32⟩
def PANEL_REQ_HI_R : Fld := ⟨0x400F0014, 0, 32⟩
/-- `PANEL_STEPk`, field of index k. -/
def PANEL_STEP_STEP (n k : Nat) : Fld := ⟨0x400F0020 + 4 * n, 4 * k, 3⟩
def PANEL_CSEL_SEG : Fld := ⟨0x400F0040, 0, 6⟩
def PANEL_CNT_COUNT : Fld := ⟨0x400F0044, 0, 32⟩

end F

end Sys2Proof.Machine
end

