-- ==== Sys2Proof/Machine/Tab.lean ====
section
/-!
DEFINITION. Sparse tables: lists of (key, value) pairs in one canonical form, keys strictly rising and no entry equal
to what an unlisted key reads as. Memory, registers and every numbered record of the state are held so.
-/
namespace Sys2Proof.Machine

/-- A sparse table over natural-number keys. -/
abbrev Tab (α : Type) := List (Nat × α)

/-- The value at key `a`; an unlisted key reads `d`. -/
def tget {α : Type} (d : α) : Tab α → Nat → α
  | [], _ => d
  | (k, v) :: t, a => if a = k then v else if a < k then d else tget d t a

/-- The table with `x` at key `a`; storing the default `d` removes the entry. -/
def tset {α : Type} [DecidableEq α] (d : α) : Tab α → Nat → α → Tab α
  | [], a, x => if x = d then [] else [(a, x)]
  | (k, v) :: t, a, x =>
    if a < k then (if x = d then (k, v) :: t else (a, x) :: (k, v) :: t)
    else if a = k then (if x = d then t else (a, x) :: t)
    else (k, v) :: tset d t a x

/-- The table with the value at `a` changed by `f`. -/
def tupd {α : Type} [DecidableEq α] (d : α) (t : Tab α) (a : Nat) (f : α → α) : Tab α := tset d t a (f (tget d t a))

/-- The table without the entries whose key satisfies `p`: those keys read the default again. -/
def tclear {α : Type} (t : Tab α) (p : Nat → Bool) : Tab α := t.filter fun e => !p e.1

/-- Every value changed by `f`, which keeps the default. -/
def tmap {α : Type} [DecidableEq α] (d : α) (t : Tab α) (f : Nat → α → α) : Tab α :=
  t.foldr (fun e r => let x := f e.1 e.2; if x = d then r else (e.1, x) :: r) []

/-- Canonical form: keys strictly rising from `lo`, no entry equal to the default of its key. -/
def tabWfFrom {α : Type} [DecidableEq α] (d : Nat → α) : Nat → Tab α → Bool
  | _, [] => true
  | lo, (k, v) :: t => decide (lo ≤ k) && decide (v ≠ d k) && tabWfFrom d (k + 1) t

/-- Canonical form of a table whose unlisted keys read `d`. -/
def tabWf {α : Type} [DecidableEq α] (d : Nat → α) (t : Tab α) : Bool := tabWfFrom d 0 t

/-- Canonical form of memory, whose unlisted addresses read 0 (R68; NOTES 2). -/
def memWf (m : List (Nat × Byte)) : Bool := tabWf (fun _ => (0 : Byte)) m

end Sys2Proof.Machine
end

