-- ==== Sys2Proof/Machine/Data.lean ====
section
/-!
DEFINITION. The records that State holds: the parsed configuration image, stations and marionettes, activations of the
engines, and the working state of each block. Every field's default is its value in State.reset.
-/
namespace Sys2Proof.Machine

/-! ### The configuration image (chapter 20) -/

/-- One layout run (R198). `dir`: 1 input, 2 output; `typ`: slot type code of R57. -/
structure RunDef where
  dir : Nat
  qual : Bool
  typ : Nat
  count : Nat
deriving DecidableEq, Repr

/-- A STATIONS entry (R484). `ins`, `outs`: handle runs (first, count) in layout order. -/
structure StaDef where
  str : Nat
  pos : Nat
  typ : Word
  serial : Dword
  fwMin : Word
  fwMax : Word
  caps : Nat
  h : Nat
  ack : Bool
  alpha : Nat
  runs : List RunDef
  ins : List (Nat × Nat)
  outs : List (Nat × Nat)
  safe : List Byte
deriving DecidableEq, Repr

/-- A FUNC entry (R86). -/
structure FuncDef where
  entry : Nat
  nargs : Nat
  nres : Nat
deriving DecidableEq, Repr

/-- A gather-list entry (R74). -/
structure GathRun where
  start : Nat
  echo : Bool
  count : Nat
deriving DecidableEq, Repr

/-- A WSET entry (R86): output slots, or variable bytes. -/
structure WsetEnt where
  isVar : Bool
  start : Nat
  len : Nat
deriving DecidableEq, Repr

/-- The channel-array descriptor (R138). -/
structure Arrd where
  rectab : Nat
  nrec : Nat
  recsz : Nat
  blkrec : Nat
  mask : Option Nat
  swinBase : Nat
  swinStride : Nat
  swinCount : Nat
  pro : Option Nat
  epi : Option Nat
  key : Nat
  objs : List (Nat × Nat)
deriving DecidableEq, Repr

/-- A task image (R85, R86). What the verifier finds stands with it: `rseg` R_seg of R163, `areds` the reductions its code
names with their op and K (R145), `wcet` the WCET without the TWIN terms and `ckpts` K of R162 and R163, `nframes` its
frames, `bad` the code of the first check it fails, 0 for none (R113). -/
structure TaskImg where
  taskId : Nat := 0
  level : Nat := 1
  cls : Nat := 0
  safety : Bool := false
  array : Bool := false
  shed : Bool := false
  shards : Nat := 1
  wcetDecl : Nat := 0
  readCol : Nat := 0
  writeCol : Nat := 0
  code : List Word := []
  funcs : List FuncDef := []
  pool : List Dword := []
  gath : List GathRun := []
  vars : List (Nat × Nat) := []
  objs : List (Nat × Nat) := []
  wset : List WsetEnt := []
  indr : List (Nat × Nat) := []
  areds : List (Nat × RedOp × K) := []
  arrd : Option Arrd := none
  rseg : Nat := 4096
  wcet : Nat := 0
  ckpts : Nat := 0
  nframes : Nat := 1
  bad : Nat := 0
deriving DecidableEq, Repr

/-- A TASKS entry (R486) with its task image; `place`: one placement code per shard (R156). -/
structure TaskDef where
  img : TaskImg := {}
  set : Nat := 0
  place : List Nat := []
deriving DecidableEq, Repr

/-- A VARMAP entry (R487). -/
structure VarRun where
  key : Nat
  off : Nat
  len : Nat
  typ : Nat
  service : Bool
  telegram : Bool
  can : Bool
deriving DecidableEq, Repr

/-- A TELEGRAMS entry (R488). -/
structure TgDef where
  num : Nat
  send : Bool
  connId : Word
  ipA : Word
  ipB : Word
  port : BitVec 16
  len : Nat
  varkey : Nat
  wd : Nat
  skw : Nat
  key : Dword
  safe : List Byte
deriving DecidableEq, Repr

/-- A panel waveform: its level codes, one per frame (R510). -/
abbrev Wave := List Nat

/-- The PANEL section (R510). `lut` and `aon`: index 2 × band + transition. -/
structure PanelSec where
  bands : List Int
  tofs : Int
  thr : List Nat
  base : Nat
  lut : List Wave
  aon : List Wave
  clear : List Wave
  init : Dword
deriving DecidableEq, Repr

/-- A PASSWORD record (R489, R358). -/
structure PwRec where
  seq : Nat := 0
  iter : Nat := 100000
  salt : List Byte := []
  dk : List Byte := []
deriving DecidableEq, Repr

/-- A configuration image (R480 to R490) as the supervisor holds it after verification; `hash`: its component hash
(R383). -/
structure Image where
  hash : List Byte := []
  svc : SvcMode := .none
  mode : Word := 0
  pairId : Dword := 0
  azwin : Nat := 0
  azcLevel : Nat := 1
  mlayout : Nat := 0
  failover : Bool := false
  retainMram : Bool := false
  members : List Nat := []
  spares : List Nat := []
  dbgRead : Nat := 0
  dbgWrite : Nat := 0
  prev : List Byte := []
  regload : List (Nat × Word) := []
  colours : List (Nat × Nat × Nat) := []
  stations : List StaDef := []
  tasks : List TaskDef := []
  varmap : List VarRun := []
  retain : List (Nat × Nat) := []
  journal : List Nat := []
  telegrams : List TgDef := []
  password : PwRec := {}
  panel : Option PanelSec := none
deriving DecidableEq, Repr, Inhabited

/-! ### Engines (chapters 04 to 06) -/

/-- An active LOOP (R104): the word range of its body, the iteration index and count, the counter register. -/
structure LoopRec where
  first : Nat
  last : Nat
  idx : Nat
  cnt : Nat
  ctr : Nat
deriving DecidableEq, Repr

/-- A frame (R88): its value registers, its function, where RET goes, the first result register, its open loops,
innermost first. -/
structure AFrame where
  v : Tab Dword := []
  func : Nat := 0
  ret : Nat := 0
  d : Nat := 0
  loops : List LoopRec := []
deriving DecidableEq, Repr

/-- A staged effect (R109). -/
inductive Effect where
  | jrnl (record : List Byte)
  | tgsend (conn : Nat)
  | streq (item : Nat)
  | panel (mask states : Dword)
  | stack (station : Nat)
deriving DecidableEq, Repr

/-- A staging entry (R160): a line with the bytes written to it (address, value), or an effect. -/
inductive Staged where
  | line (base : Nat) (bytes : List (Nat × Byte))
  | eff (e : Effect)
deriving DecidableEq, Repr

/-- Which part of an activation runs (R142): `plain` for a task without ARRAY. -/
inductive ActPart where | plain | pro | record | epi
deriving DecidableEq, Repr

/-- What a task or shard remembers of its activations (R148). -/
structure TaskRec where
  fault : Bool := false
  faultPc : Nat := 0xFFFFFFFF
  faultCode : Nat := 0
  first : Bool := false
  acts : Dword := 0
deriving DecidableEq, Repr

/-- What the device knows of a station (R150, R63, R206 to R214, R233). `u`: tick of its last accepted reply; `prob`: 0
none, 1 AUTO, 2 ACK; `streak`: consecutive ticks with an accepted reply; `admStep`: 0 none, 1 DISCARD, 2 to 8 WRITE of
objects 1 to 7, 9 COMMIT, 10 a lone DISCARD, 11 a DELAY object; `req`: the request that waits for its response. `delay`, `cable`:
as measured from this device's own end, end A of a loop-paired string; `other`: the delay from the other end, which a DELAYS message
gave, or end B of such a string measured, with `cableB`; `dlA`, `dlB`: the downloaded values; `devOwn`, `devOther`: sweeps or
messages in a row that differ from them, `swOwn`, `swOther`: 1 + the sweep last counted. -/
structure Sta where
  admitted : Bool := false
  status : Word := 0
  u : Option Nat := none
  prob : Nat := 0
  probEnd : Option Nat := none
  streak : Nat := 0
  epochSeen : Word := 0
  misfit : Nat := 0
  typ : Word := 0
  fw : Word := 0
  serial : Dword := 0
  state : Nat := 0
  ack : Bool := false
  ackTick : Nat := 0
  ackPend : Bool := false
  matched : Bool := false
  lose : Bool := false
  dAB : Nat := 1000
  dBA : Nat := 1000
  cable : Int := 0
  cableB : Int := 0
  delay : Option Nat := none
  other : Option Nat := none
  dlA : Option Nat := none
  dlB : Option Nat := none
  devOwn : Nat := 0
  devOther : Nat := 0
  swOwn : Nat := 0
  swOther : Nat := 0
  admStep : Nat := 0
  admReady : Bool := false
  wantDelay : Bool := false
  probDue : Bool := false
  req : List Byte := []
  reqSeq : Nat := 0
  reqTick : Nat := 0
  tries : Nat := 0
deriving DecidableEq, Repr

/-- The samples of the system objects at a freeze (R147, R109); FAULT_NOW as a rehearsal's sample block has it (R291). -/
structure Snap where
  device : List Dword := []
  tg : Tab Byte := []
  items : List Nat := []
  sta : Tab Sta := []
  tasks : Tab TaskRec := []
  faultNow : Option Bool := none
deriving DecidableEq, Repr

/-- An activation on an engine (R88, R91, R142, R160 to R165). `rcd`: the current record, `recEnd` the end of the shard's
range; `lmem`: the local copies by physical address; `rmem`: the current record's block, by physical address (R144); `steps`: the
instructions retired, by which the two engines of a twin are told apart (R159); `seg`, `total`: segments compared and entries staged so far; `redu`:
the reductions used so far; `qw`: 1 + the QUALITY last written to a handle. -/
structure Act where
  task : Nat := 0
  shard : Nat := 0
  f : Dword := 0
  tf : Dword := 0
  part : ActPart := .plain
  frames : List AFrame := [{}]
  pc : Nat := 0
  rcd : Nat := 0
  recEnd : Nat := 0
  recsSince : Nat := 0
  gath : List Dword := []
  win : List Dword := []
  lmem : Tab Byte := []
  rmem : Tab Byte := []
  steps : Nat := 0
  staged : List Staged := []
  digest : Dword := 0
  seg : Nat := 0
  total : Nat := 0
  redu : List (Nat × Dword) := []
  qw : Tab Nat := []
  fault : Option (Nat × Nat) := none
  done : Bool := false
  check : Bool := false
  snap : Snap := {}
  rehearsal : Bool := false
deriving DecidableEq, Repr

/-- An engine: the activation it executes, those it holds suspended or ready, and its SRAM error mark (R166). -/
structure Engine where
  cur : Option Act := none
  ready : List Act := []
  ecc : Bool := false
deriving DecidableEq, Repr

/-- An activation in flight (R33, R45): what was frozen at `f`, whether it was gathered, whether it finished: in which
tick, at which point in 1/1,000 T_b and with which digest. -/
structure Flight where
  task : Nat
  shard : Nat
  f : Nat
  tf : Dword
  deadline : Nat
  gathered : Bool := false
  finished : Option (Nat × Nat × Dword) := none
deriving DecidableEq, Repr

/-- Where a task or shard runs (R156): the twin or engine code. -/
structure Placed where
  task : Nat
  shard : Nat
  code : Nat
deriving DecidableEq, Repr

/-- The scheduler, fence and comparator state beside the registers (R168, R169, R171 to R176): where tasks run, the shed
tasks, a fence decision for the next boundary (bay, placement, shed tasks), a trip due at it, twins whose injection interval
has elapsed, the bit of each twin's next test and the monotonic ns of its last (R168), the tick until which the duplicate bank runs, moved tasks that have not
committed, whether the execute window is open, whether the freeze of the present tick waits for a command of its boundary; of each
task and send connection the activation whose `TGSEND` was taken last (R153). -/
structure Sched where
  placed : List Placed := []
  shed : List Nat := []
  newPlaced : Option (Nat × List Placed × List Nat) := none
  fenceTrip : Bool := false
  injDue : Nat := 0
  injBit : Tab Nat := []
  injAt : Tab (Option Nat) := []
  dupUntil : Nat := 0
  moved : List (Nat × Nat) := []
  execOpen : Bool := false
  freezeWaits : Bool := false
  tgSent : List ((Nat × Nat) × Nat) := []
deriving DecidableEq, Repr

/-! ### Strings and marionettes (chapters 07 and 08) -/

/-- What a device end holds for a string port: the last ROLLCALL request (its tick, departure, FIRST, COUNT, ANSWER_AT,
SPACING) and the sweeps completed, the last SEQ, the tick of the last cue, the stations heard here and at the other end in
the present tick, the ticks for which every heard station was heard here, whether forwarded replies were written, the tick
of the last relayed cue. -/
structure StrS where
  rcTick : Option Nat := none
  rcDep : Nat := 0
  rcFirst : Nat := 0
  rcCount : Nat := 0
  rcAns : Nat := 0
  rcSpc : Nat := 0
  sweeps : Nat := 0
  svcSeq : Nat := 0
  cueTick : Option Nat := none
  heard : BitVec 128 := 0
  peer : Option (BitVec 128) := none
  quiet : Nat := 0
  fwdNow : Bool := false
  relayTick : Option Nat := none
deriving DecidableEq, Repr

/-- Marionette states (R211). -/
inductive MSt where | unbound | bound | running
deriving DecidableEq, Repr

/-- A section held for a tick (R226). -/
structure Held where
  tick : Nat
  epoch : Nat
  inhibit : Bool
  member : Nat
  data : List Byte
deriving DecidableEq, Repr

/-- A marionette, or one path of a triad object controller (R182, R203, R211 to R232, R311 to R313). `portA`: which of its
ports is port a; `upA`, `upB`: by port; `busyA`, `busyB`: when its own frame has left a port, `lineA`, `lineB`: when every frame
has; `fwdA`, `fwdB`: the forwarded frames that wait, as the instant each leaves and its length; `far`: the last request from end A gave 128 hops or more; `lastFromA`:
tick of the last request from end A; `objs`: the parameter objects written; `rc`: the roll-call requests to answer, each with
its port and instant, in the order of the instants; `that`, `tickEst`: the start of a tick as estimated, and its number;
`cueEst`: the tick whose cue last gave it; `applies`: the tick whose section the next apply instant takes; `rcAtA`, `rcAtB`: tick
and arrival of the last request of an end, `rcOffA`, `rcOffB`: its offset from the estimate; `held`: the sections held, one a
tick; `closed`: ticks and epochs of closed cue streams; `cueTick`, `cuePrev`: the last two ticks with an accepted section; `ins`,
`quals`, `own`, `sampled`: what the last sample took; `out`: the outputs; `objSafe`: objects in their safe state. -/
structure Mario where
  powered : Bool := false
  ty : Option MarioType := none
  portA : MPort := .a
  upA : Bool := true
  upB : Bool := true
  busyA : Nat := 0
  busyB : Nat := 0
  lineA : Nat := 0
  lineB : Nat := 0
  fwdA : List (Nat × Nat) := []
  fwdB : List (Nat × Nat) := []
  pos : Option Nat := none
  far : Bool := false
  lastFromA : Option Nat := none
  st : MSt := .unbound
  objs : List (Nat × List Byte) := []
  lastSeq : Option Nat := none
  lastRsp : List Byte := []
  rc : List (Nat × MPort × Frame) := []
  that : Nat := 0
  tickEst : Nat := 0
  cueEst : Option Nat := none
  applies : Option Nat := none
  rcAtA : Option (Nat × Nat) := none
  rcAtB : Option (Nat × Nat) := none
  rcOffA : Option Int := none
  rcOffB : Option Int := none
  emax : Nat := 0
  held : List Held := []
  closed : List (Nat × Nat) := []
  lastApplied : Option Nat := none
  cueTick : Option Nat := none
  cuePrev : Option Nat := none
  k : Nat := 0
  rejoin : Bool := false
  holding : Bool := false
  safe : Bool := false
  inhibit : Bool := false
  inhSeen : Bool := false
  queued : Bool := false
  ins : List Word := []
  quals : List Byte := []
  own : Word := 0
  sampled : List Word := []
  smpTick : Nat := 0
  out : List Word := []
  stopped : Bool := false
  objSafe : List Nat := []
deriving DecidableEq, Repr

/-! ### Pair, mirror and triad (chapters 09 to 11) -/

/-- Roles of the Seesaw (R266). -/
inductive SawRole where | none | leased | unleased | lapsed | relinquished | standby | claim | ready
deriving DecidableEq, Repr

/-- The Seesaw beside its registers (R244 to R263). What the last counted GRANT and HEARTBEAT said; `partner`, `pGrade`:
the partner's state code and grade as last reported; `claimEpoch`: the epoch written for a claim or handover under way; `early`: messages of a tick that has not begun, with their
arrival; `err`: own tick start
minus the partner's, as last measured; `tripSeen`, `claimTrip`: cause of a TRIP message of this tick, and of the one that
leads to a claim; `cueSeen`, `cueSrc`: the partner's cues on the strings; `takeCause`, `takeTick`: of the entry into
ACTIVE; `hovr…`: a handover; `winEnd`: the start window is over, `winTicks` its ticks so far; `stopCues`: a higher epoch was seen; `version`: the
partner's IMAGE, FROM and levels; `unleasedAt`: monotonic ns; `outSince`: the tick at which the pair link was lost; `lost`: an unleased active has no partner
that could follow it (R248); `hbSame`: the tick in which a HEARTBEAT with the own epoch counted (R504). -/
structure Saw where
  role : SawRole := .none
  grantTick : Option Nat := none
  grantElig : Bool := false
  grantLag : Nat := 0
  grantGrade : Nat := 0
  sawFrame : Bool := false
  hbTick : Option Nat := none
  hbLapsed : Bool := false
  hbRelinq : Bool := false
  hbHandover : Nat := 0
  hbReady : Option Nat := none
  hbReadyAt : Nat := 0
  newEpoch : Bool := false
  claimEpoch : Option Nat := none
  partner : Nat := 0
  pGrade : Nat := 0
  pLevels : Option (Nat × Nat) := none
  helloPeer : Bool := false
  anySeen : Bool := false
  msgNow : Bool := false
  echoDep : Nat := 0
  echoArr : Nat := 0
  delay : Nat := 2000
  offset : Int := 0
  err : Option Int := none
  early : List (Nat × Frame) := []
  tripSeen : Option Nat := none
  claimTrip : Option Nat := none
  replyTick : Option Nat := none
  cueSeen : Option Nat := none
  cueSrc : Bool := false
  pathSeen : Bool := false
  takeTick : Option Nat := none
  takeCause : Nat := 0
  hovrReq : Bool := false
  hovrTick : Nat := 0
  hovrLive : Bool := false
  hovrAbort : Bool := false
  winEnd : Bool := false
  winTicks : Nat := 0
  stopCues : Bool := false
  version : Option (List Byte × List Byte × Nat × Nat) := none
  versionAt : Option Nat := none
  unleasedAt : Option Nat := none
  outSince : Option Nat := none
  lost : Bool := true
  hbSame : Option Nat := none
deriving DecidableEq, Repr

/-- A mirror record with its frames (R273 to R277). -/
structure MRec where
  last : Nat := 0
  first : Nat := 0
  frames : List (List (Nat × List Byte)) := []
  digest : Dword := 0
  copy : Bool := false
  naks : Nat := 0
deriving DecidableEq, Repr

/-- The mirror engine beside its registers (R270 to R291). On the active: the first tick of the open record (`lo`), its
frames, the unacknowledged records, the digest of the last record, the last record and the tick in which it left, a merge
of the tick `mergeTick`, the last acknowledged record, a copy: its next line, frames, lines and digest so far, whether its
record has left, the tick in which it left and whether its acknowledgement is still to come; whether a recopy is wanted. On the standby: the frames staged, the digest of the last record, the applied
tick A, the record being applied, a copy under way, NLINE of the last record, a sweep message that waits for the apply. Then the
sweep (next block, start of its period in monotonic ns, mismatches by block), the rehearsal
(candidate index and tick of the last choice, the chosen task, the activation announced, the parts received, both results)
and the tick whose cues were withheld. -/
structure Mirr where
  lo : Nat := 0
  frames : List (List (Nat × List Byte)) := []
  log : List MRec := []
  dig : Dword := 0
  lastSent : Option Nat := none
  recLeft : Option Nat := none
  mergeTick : Option Nat := none
  ackTick : Option Nat := none
  copying : Bool := false
  copyLine : Nat := 0
  cpFrames : Nat := 0
  cpLines : Nat := 0
  cpDig : Dword := 0
  copyDone : Bool := false
  cpTick : Option Nat := none
  cpWait : Bool := false
  wantCopy : Bool := false
  rx : List (Nat × List (Nat × List Byte)) := []
  rxDig : Dword := 0
  applied : Nat := 0
  applying : Option MRec := none
  rxCopying : Bool := false
  rxLines : Option Nat := none
  rxSweep : Option (Nat × List (Nat × Dword)) := none
  sweepBlock : Nat := 0
  sweepAt : Option Nat := none
  mism : Tab Nat := []
  sweepBad : Bool := false
  rehNext : Nat := 0
  rehTick : Nat := 0
  rehSel : Option Nat := none
  rehTask : Option (Nat × Nat) := none
  rehIn : Option (Nat × Nat × Dword × Nat) := none
  rehParts : List (Nat × List Byte) := []
  rehRun : Option (Nat × Nat) := none
  rehOut : Option (Nat × Dword) := none
  rehOwn : Option (Nat × Dword) := none
  withheld : Option Nat := none
deriving DecidableEq, Repr

/-- What a member knows of the triad peer on one of its links (R296 to R308): what its last counted TSYNC said and when,
the delay and offset measured, the digests and blocks counted in the present phase, whether its TRIP has arrived, the
SWITCH it sent (image, plan, Z, tick). -/
structure Peer where
  state : Nat := 0
  grade : Nat := 0
  locked : Bool := false
  joining : Bool := false
  maj : Bool := false
  links : Nat := 0
  image : List Byte := []
  start : Nat := 0
  tick : Option Nat := none
  dep : Nat := 0
  arr : Nat := 0
  delay : Nat := 2000
  offset : Int := 0
  digs : Option (Dword × List Dword) := none
  early : Option (Nat × Nat × Dword × List Dword) := none
  blocks : List (Nat × List Dword) := []
  tripped : Bool := false
deriving DecidableEq, Repr

/-- The triad voter beside its registers (R294 to R317). `idx`: own index; `a`, `b`: the peers on links A and B; `thruA`,
`thruB`: the link was up through the previous tick; `downA`, `downB`: it was lost in this tick; `set`: the contributor set;
`phase`: 1 input, 2 output, with its tick; `own`, `commit`: own digests of the phase; `xset`, `over`: the blocks exchanged
and those beyond the cap; `majs`: members in majority; the ticks of the last votes; a cold start; a join (its source,
tick j, failed copies, a block left out); the link of the joiner that this member sources; forces by EFFECT, those to be
sent; the SWITCH sent. -/
structure Tri where
  idx : Nat := 0
  a : Peer := {}
  b : Peer := {}
  thruA : Bool := false
  thruB : Bool := false
  downA : Bool := false
  downB : Bool := false
  set : List Nat := []
  phase : Nat := 0
  phaseTick : Nat := 0
  own : List Dword := []
  commit : Dword := 0
  formed : Bool := false
  xset : List Nat := []
  excess : List Nat := []
  majority : Bool := false
  majs : List Nat := []
  inVoted : Option Nat := none
  outVoted : Option Nat := none
  start : Nat := 0
  startFrom : Nat := 0
  adopted : Bool := false
  source : Option Nat := none
  joinTick : Option Nat := none
  joinFails : Nat := 0
  joinMiss : Bool := false
  srcFor : Option TriLink := none
  forces : List (Nat × Bool × Nat × Nat) := []
  fwd : List (Nat × Bool × Nat × Nat) := []
deriving DecidableEq, Repr

/-! ### Change, safety, security (chapters 12 to 15) -/

/-- A staged plan (R325, R326, R331), with the components of its slot as `Boot.comps` and REVOKE of its manifest. -/
structure Plan where
  img : Image := {}
  slot : Nat := 0
  hash : List Byte := []
  lines : Nat := 0
  z : Nat := 0
  created : Nat := 0
  freed : Nat := 0
  placed : List Placed := []
  shed : List Nat := []
  comps : List (Nat × Nat × Nat × List Byte) := []
  revoke : Nat := 0
deriving DecidableEq, Repr

/-- The change machinery (R325 to R342): the slot being staged with the actor that asked for it, the staged plan, the switch tick, the boundary that ends
STOPPED, translating or back-translating, the FROM image in the other slot (R336). -/
structure Chg where
  staging : Option (Nat × List Byte) := none
  plan : Option Plan := none
  switch : Option Nat := none
  stopEnd : Option Nat := none
  translating : Bool := false
  back : Bool := false
  fromImg : Option Image := none
deriving DecidableEq, Repr

/-- A receive connection (R356): the last SEQ, an open window (SEQ, network, payload, monotonic ns), what the next freeze
writes, the status, the tick of the last accepted pair, copies ignored. -/
structure TgRx where
  lastSeq : Option Nat := none
  openSeq : Option Nat := none
  openNet : Bool := false
  openData : List Byte := []
  openAt : Nat := 0
  write : Option (List Byte × Byte) := none
  status : Byte := 0
  acceptTick : Nat := 0
  ignored : Nat := 0
deriving DecidableEq, Repr

/-- One violation record (R373). -/
structure Viol where
  w0 : Word
  w1 : Word
  w2 : Word
  w3 : Word
deriving DecidableEq, Repr

/-- A key slot of the OTP (R380). -/
structure KeySlot where
  present : Bool := false
  hash : List Byte := []
  purpose : Nat := 0
  revoked : Bool := false
deriving DecidableEq, Repr

/-- The OTP array (R380): both copies of the OPEN, SEALED and RETIRED words, the device ID, the silicon step, the key slots, the
rollback counters, the wrap root, the wrapped identity key and the private key that unwrapping it gives, the certificate. `old`: the
counters and key slots as they stood before a burn that has not been verified yet (R388). -/
structure Otp where
  opened : Word × Word := (0xFFFFFFFF, 0xFFFFFFFF)
  sealed : Word × Word := (0, 0)
  retired : Word × Word := (0, 0)
  id : Dword := 0
  step : Byte := 0
  keys : Tab KeySlot := []
  ctr : Tab Nat := []
  root : List Byte := List.replicate 32 0
  wrapped : List Byte := List.replicate 56 0
  key : Nat := 1
  cert : List Byte := List.replicate 1024 0
  old : Option (Tab Nat × Tab KeySlot) := none
deriving DecidableEq, Repr

/-- A lifecycle word reads as set: both copies are fully blown (R393). -/
def lcSet (w : Word × Word) : Bool := w.1 == 0xFFFFFFFF#32 && w.2 == 0xFFFFFFFF#32

/-- The lifecycle: the highest word that reads as set; 0 BLANK, 1 OPEN, 2 SEALED, 3 RETIRED (R392, R393). -/
def Otp.life (o : Otp) : Nat := if lcSet o.retired then 3 else if lcSet o.sealed then 2 else if lcSet o.opened then 1 else 0

/-- Whether the identity key unwraps: neither it nor the wrap root has been overwritten with all ones (R390, R393; NOTES 158). -/
def Otp.unwraps (o : Otp) : Bool := !(o.root.all (· == 0xFF#8) || o.wrapped.all (· == 0xFF#8))

/-- One task in the load report (R114): what the verifier found, placement, incoherent runs admitted, refusal code. -/
structure LoadEnt where
  task : Nat
  wcet : Nat
  decl : Nat
  place : List Nat
  incoherent : List (Nat × Nat)
  code : Nat
deriving DecidableEq, Repr

/-- What boot and debug unlock hold (R384, R395 to R397, R455, R457). `por`: the power-on reset is asserted; `rstN`: RESET_N is
low; `held`: the device is held in reset; `waiting`: the boot waits for a debug token; `hold`: DBG_HOLD was shifted in since
reset; the nonce; the masks of an accepted token; whether the token window is open; a boot step over its bound, a fault of the
security engine, a trip cause in this boot; `slot`: the slot the device runs from; `named`: the slot that a RESTART named;
`comps`: the verified components as (kind, key slot, SV, hash); `revoke`: REVOKE of the running manifest; `life`: the lifecycle
that governs since the last BOOTING (R393); `cold`: no boot has reached READY since the power-on reset; `cmp`: which results its
comparator tests give; `left`: the slots that have not failed, while the boot waits; a token shifted in before it is asked for. -/
structure Boot where
  por : Bool := true
  rstN : Bool := false
  held : Bool := true
  waiting : Bool := false
  hold : Bool := false
  nonce : List Byte := []
  granted : Option (Nat × Nat) := none
  window : Bool := true
  overrun : Bool := false
  secFault : Bool := false
  slot : Nat := 0
  named : Option Nat := none
  comps : List (Nat × Nat × Nat × List Byte) := []
  revoke : Nat := 0
  trip : Option Nat := none
  life : Nat := 1
  cold : Bool := true
  cmp : Nat := 0
  left : List Nat := []
  token : Option (List Byte) := none
deriving DecidableEq, Repr

/-- Password state (R357 to R359), held in PD0 and in retain. `lockEnd`: monotonic ns. -/
structure Pwd where
  fails : Nat := 0
  lockEnd : Option Nat := none
  locked : Bool := false
deriving DecidableEq, Repr

/-! ### Plant, service, field, CAN, power, panel (chapters 16 to 22) -/

/-- An entry of a transmit timestamp queue (R405). -/
structure TsqEnt where
  id : BitVec 16
  ns : Word
  seq : Byte
deriving DecidableEq, Repr

/-- One plant port beside its registers (R402, R405). `fifo`: bits waiting in the FIFO of the frames that leave it. -/
structure Plant where
  tsq : List TsqEnt := []
  seq : Byte := 0
  fifo : Nat := 0
deriving DecidableEq, Repr

/-- What a plant frame or a frame of the service port that carries a UDP datagram says of it, checksum included (R400). -/
structure UdpHdr where
  src : Word
  dst : Word
  sport : BitVec 16
  dport : BitVec 16
  sum : BitVec 16
deriving DecidableEq, Repr

/-- A frame of the device's own as it leaves: its VLAN tag as VID and PCP, the UDP datagram that carries `payload`, none for a PTP
message over Ethernet (R400, R411). -/
structure NetOut where
  tag : Option (BitVec 12 × BitVec 3)
  udp : Option UdpHdr
  payload : List Byte
deriving DecidableEq, Repr

/-- A foreign master (R412): the port it is heard on, its last Announce, the monotonic ns of that one and of the one before. -/
structure Foreign where
  port : PlantPort
  ann : Announce
  last : Nat
  prev : Option Nat
deriving DecidableEq, Repr

/-- The PTP follower (R409, R411 to R414). `best`: the Announce of the master it follows; `sync`: a two-step Sync that waits for its
Follow_Up, with its receive stamp; `reqAt`: monotonic ns of the last Delay_Req; `hbRef`: the last rate reference is the partner's
monotonic time. -/
structure Ptp where
  best : Option Announce := none
  foreign : List Foreign := []
  acquired : Bool := false
  sync : Option (SyncMsg × Word) := none
  reqId : Option (BitVec 16) := none
  reqAt : Option Nat := none
  hbRef : Bool := false
  reqNs : Word := 0
  lastOfs : Int := 0
  msDelay : Int := 0
  good : Nat := 0
  bad : Nat := 0
  lostAt : Option Nat := none
  stepTo : Option (Nat × Nat × Word) := none
  logReq : Int := 0
deriving DecidableEq, Repr

/-- A queued service request (R417, R423). -/
structure SvcReq where
  iface : Fin 3
  ip : Word
  port : BitVec 16
  reqId : Word
  op : Nat
  pw : Option (List Byte)
  session : Dword
  body : List Byte
  tick : Nat
deriving DecidableEq, Repr

/-- A service response (R417, R418). -/
structure SvcRsp where
  iface : Fin 3
  ip : Word
  port : BitVec 16
  reqId : Word
  op : Nat
  session : Dword
  status : Nat
  detail : Nat
  body : List Byte
deriving DecidableEq, Repr

/-- The open maintenance session (R419). `last`: monotonic ns of its last request. -/
structure Session where
  num : Dword
  iface : Fin 3
  ip : Word
  port : BitVec 16
  last : Nat
deriving DecidableEq, Repr

/-- The service channel (R416 to R423). `writes`: accepted WRITEs (offset, bytes, tick of acceptance); `forces`: accepted
force and unforce requests; `written`: what SLOT_WRITEs have programmed since the slot's commit word last changed (slot,
offset, length), `erased` the sectors erased for them (slot, sector). -/
structure Svc where
  queue : List SvcReq := []
  kept : List SvcRsp := []
  session : Option Session := none
  writes : List (Nat × List Byte × Nat) := []
  forces : List (Bool × Nat × Nat) := []
  written : List (Nat × Nat × Nat) := []
  erased : List (Nat × Nat) := []
deriving DecidableEq, Repr

/-- The settings that the supervisor sends across the link at the end of BOOTING (R444): the watchdog in ms and H_L, of the DIs the
filters and the mask of wire-break detection, of the DOs the safe values, the test masks and the pulse width, of the AOs the safe and
alarm currents in µA, of the AIs the mask of NAMUR evaluation and the filter codes. -/
structure FieldCfg where
  wd : Nat := 10
  hold : Nat := 8
  diFilter : List Nat := List.replicate 16 10
  diWire : Nat := 0
  doSafe : Nat := 0
  openEn : Nat := 0
  pulseEn : Nat := 0
  pulseW : Nat := 5
  aoSafe : List Nat := [0, 0, 0, 0]
  aoLow : List Nat := List.replicate 4 3200
  aoHigh : List Nat := List.replicate 4 22500
  namur : Nat := 0
  aiFilter : List Nat := [0, 0, 0, 0]
deriving DecidableEq, Repr

/-- A debounce filter (R434): the level that has passed it, the level at its input and for how many µs that has held. -/
structure Debounce where
  out : Bool := false
  cur : Bool := false
  held : Nat := 0
deriving DecidableEq, Repr

/-- The field die (R428 to R442): the command frame of this tick, the outputs applied (its 32 slots), the switches
commanded, the AO currents (F32 codes), the diagnostic words 24 and 25, the flags of word 28, the ticks without a DRIVE
frame, an expiry of its watchdog not reported yet, channels in a test off-pulse, the regulators at their headroom limit
and the currents they report, the slots of the last sample, a self-test result to report. `heardAt`: when the last valid
command frame came, in monotonic ns; `faults`: the DO faults that stand, in the places of word 24; `di`, `wire`, `ai`: the input
filters; `rbCnt`, `rbSet`: samples in a row whose readback is off, and a reported readback fault, per AO; `cal`: the AO in
calibration and since when; `gain`, `offs`: the corrections of the AOs. -/
structure FieldDie where
  cfg : FieldCfg := {}
  heardAt : Int := 0
  faults : Nat := 0
  di : Tab Debounce := []
  wire : Tab Debounce := []
  ai : Tab Word := []
  rbCnt : Tab Nat := []
  rbSet : Tab Bool := []
  cal : Option (Nat × Nat) := none
  gain : Tab Nat := []
  offs : Tab Nat := []
  cmd : Option FieldCmd := none
  outs : List Word := []
  doCmd : Nat := 0
  aoCur : List Word := []
  w24 : Nat := 0
  w25 : Nat := 0
  lLow : Bool := false
  group0 : Bool := false
  group1 : Bool := false
  wdSafe : Bool := false
  heldSt : Bool := false
  safeSt : Bool := false
  k : Nat := 0
  expired : Bool := false
  pulse : Tab Bool := []
  compl : Tab Bool := []
  reach : Tab Word := []
  sample : List FieldSlot := []
  result : Option (Nat × Nat × Bool) := none
deriving DecidableEq, Repr

/-- The control die's side of the field link (R345, R350, R429, R498): the tick of the last status frame, the ticks missed
in a row, the start of the present span of answers in monotonic ns and whether it has lasted 100 ms since the trip, SAFE,
and the self-test commands (item, channel) that wait for their result. `held`: the values of station L's output slots as dispatch
holds them (R44). -/
structure FieldCtl where
  held : List Word := List.replicate 32 0
  gotTick : Option Nat := none
  misses : Nat := 0
  since : Option Nat := none
  ok : Bool := false
  safe : Bool := false
  cmdTest : List (Nat × Nat) := []
deriving DecidableEq, Repr

/-- A receive buffer of a CAN message object (R447): the latest frame, the tick of its receipt, the frames that arrived
since the previous freeze. -/
structure CanBuf where
  frame : Option CanFrame := none
  tick : Nat := 0
  news : Nat := 0
deriving DecidableEq, Repr

/-- A pending CAN frame (R448, R449). -/
structure CanPend where
  obj : Nat
  frame : CanFrame
  tries : Nat := 0
  started : Bool := false
deriving DecidableEq, Repr

/-- One CAN port beside its registers (R445 to R451). `off`: bus-off, also under a sleep; `wakeDue`: a wake came before the
frame in progress had completed; `drive`: the device has not lost DRIVE since its last due instant (R450). -/
structure CanS where
  drive : Bool := false
  buf : Tab CanBuf := []
  pend : List CanPend := []
  stb : Bool := false
  off : Bool := false
  wakeDue : Bool := false
deriving DecidableEq, Repr

/-- The rack-chain unit (R463 to R467). `addr`: the chain address A; `seen`, `same`: the last received ADDR and how many
frames in a row carried it; the command of the last valid frame and how many in a row carried it for this device; injected
commands with the frames left of the first; the address latched at the entry into READY; the SLOT_ID straps; whether the WAKE
of R467 has been injected since the device became unleased; whether a peer reports the same address. -/
structure RackS where
  addr : Option Nat := none
  seen : Option Nat := none
  same : Nat := 0
  wake : Bool := false
  park : Bool := false
  tgt : Nat := 0
  cmdCnt : Nat := 0
  inject : List (Bool × Bool × Nat) := []
  left : Nat := 16
  latched : Option Nat := none
  strap : Nat := 0
  spareWoken : Bool := false
  dup : Bool := false
deriving DecidableEq, Repr

/-- An operation on the NOR flash that has been begun or waits (R494): an erase of `len` bytes, or bytes to program; the
response that leaves when it is done. -/
structure NvmOp where
  addr : Nat
  erase : Nat := 0
  bytes : List Byte := []
  rsp : Option SvcRsp := none
deriving DecidableEq, Repr

/-- Retain and NVM controller state (R458 to R461, R474, R491 to R494). `gen`, `area`: the last committed generation and its
area or record; `dirtyA`, `dirtyB`: retain lines dirtied since the last generation of area 0 and of area 1, `allA`, `allB`:
every line counts as dirty; whether a generation or a flush is being written; the trip record; what chip selects 0 and 1 carry;
NOR operations, whether a flush has suspended them; whether the record not written last is erased; domain requests that wait
for the end of a flush (R472), and those carried out at the end of the tick (R19); `layout`: the hash of the image whose layout the
lines taken for the generation that is being written have (R329). -/
structure Ret where
  gen : Nat := 0
  area : Nat := 0
  dirtyA : Tab Bool := []
  dirtyB : Tab Bool := []
  allA : Bool := true
  allB : Bool := true
  writing : Bool := false
  flushing : Bool := false
  tripTick : Dword := 0
  cause : Nat := 0
  norOk : Bool := true
  octal : Bool := true
  norLog2 : Nat := 27
  mramLog2 : Nat := 0
  ops : List NvmOp := []
  suspended : Bool := false
  fallErased : Bool := true
  offLater : List Nat := []
  offDue : List Nat := []
  layout : List Byte := []
deriving DecidableEq, Repr

/-- A self-test item (R498 to R502), beside its register: a pass pending or running, the slices it has left once begun (of items
0x06 to 0x0A the channels left), whether a slice of the pass failed, the monotonic ns of its last completed pass and of its
request, whether the pass is requested and has had a slice, whether the last pass failed, whether its bound was passed. -/
structure Item where
  pending : Bool := false
  left : Nat := 0
  failed : Bool := false
  last : Option Nat := none
  reqAt : Nat := 0
  req : Bool := false
  started : Bool := false
  chans : List Nat := []
  bad : Bool := false
  aged : Bool := false
deriving DecidableEq, Repr

/-- Self-test, grade and health record (R497 to R505). `lastItem`: the item that had the last slice; `cond`: the conditions
of R503; `scrub` to `resent`: counters of R505; `calNext`: the AO channel that item 0x0A takes next; `monAt`: monotonic ns of
the last supply or clock event (R350); `badLane`: lanes whose loopback failed. -/
structure Hlth where
  items : Tab Item := []
  lastItem : Nat := 0
  readyAt : Nat := 0
  cond : Nat := 0
  cmpPass : Nat := 0
  injPass : Nat := 0
  scrub : Nat := 0
  linkErr : Nat := 0
  rehPass : Nat := 0
  rehFail : Nat := 0
  sweeps : Nat := 0
  resent : Nat := 0
  record : List Byte := []
  scrubLine : Nat := 0
  calNext : Nat := 0
  monAt : Option Int := none
  badLane : List Nat := []
  hot : Bool := false
  lowRail : Bool := false
deriving DecidableEq, Repr

/-- The conserved quantities' counters (R504). `cred`: the image-memory credits of each requester in the order of R80, free and in
flight (NOTES 126); `voteIn`, `voteOut`: the due slots of the last exchange set of a phase, results from copies, safe values. -/
structure Books where
  cred : List (Nat × Nat) := [(48, 0), (32, 0), (16, 0), (8, 0), (8, 0), (8, 0), (4, 0), (4, 0)]
  descFreeA : Nat := 4096
  descUsedA : Nat := 0
  descFreeB : Nat := 4096
  descUsedB : Nat := 0
  voteIn : Nat × Nat × Nat := (0, 0, 0)
  voteOut : Nat × Nat × Nat := (0, 0, 0)
deriving DecidableEq, Repr

/-- A pending panel record (R515). -/
structure PanRec where
  new : Dword := 0
  old : Dword := 0
  pstate : Nat := 0
  band : Nat := 0
deriving DecidableEq, Repr

/-- The panel driver (R508 to R517). `d`, `r`: displayed and requested image; the pending record, whether the update waits for
the generation that carries it and whether one has committed; a main waveform with its target, the segments it drives and its
band, whether it clears; the same of the always-on area, `aonFull`: all of its segments are to be driven; stress counts and
the STEP latched last. -/
structure Pan where
  d : Dword := 0
  r : Dword := 0
  record : Option PanRec := none
  waitRec : Bool := false
  recIn : Bool := false
  busy : Bool := false
  clearing : Bool := false
  target : Dword := 0
  segs : Dword := 0
  band : Nat := 0
  aonShown : BitVec 16 := 0
  aonBusy : Bool := false
  aonTarget : BitVec 16 := 0
  aonSegs : BitVec 16 := 0
  aonBand : Nat := 0
  aonFull : Bool := true
  stress : Tab Nat := []
  stepOf : Tab Nat := []
deriving DecidableEq, Repr

end Sys2Proof.Machine
end

