-- ==== Sys2Proof/Machine/State.lean ====
section
/-!
DEFINITION. The state of the TS5240: every register, memory, queue, buffer, counter, mode and pin the spec gives the
block, the marionettes of its strings, the commands that wait, and what it has sent. Plain data.
-/
namespace Sys2Proof.Machine

/-- Why a command stops the machine. -/
inductive Fault where
  /-- An Azwin encoding that the load-time verifier refuses (R113, the check's code): no such instruction reaches an
  engine, and the spec gives it no effect. Raised by the Azwin meanings. Safe. -/
  | verifierRefuses (check : Nat)
deriving DecidableEq, Repr

/-- Why a command has no meaning. -/
inductive Refusal where
  /-- A row whose meaning is not written yet. Raised by Dispatch only. Safe. -/
  | notModelled (mnemonic : String)
deriving DecidableEq, Repr

/-- What the device, its field die and its marionettes have put on a wire, in order. -/
inductive Tx where
  | str (port : Nat) (f : Frame)
  | pair (f : Frame)
  | triad (l : TriLink) (f : Frame)
  | heard (maps : List (BitVec 128))
  | mario (m : Nat) (p : MPort) (f : Frame)
  | udp (p : PlantPort) (d : NetOut)
  | arp (p : PlantPort) (fr : PlantFrame)
  | icmp (p : PlantPort) (fr : PlantFrame)
  | forward (p : PlantPort) (fr : PlantFrame)
  | delayReq (p : PlantPort) (id : BitVec 16) (d : NetOut)
  | svc (r : SvcRsp) (d : NetOut)
  | field (c : FieldCmd)
  | fieldStatus (st : FieldStatus)
  | can (p : Nat) (f : CanFrame)
  | rack (w : BitVec 24)
  | tap (bytes : List Byte)
deriving DecidableEq, Repr

/-- The state. `pending`: the commands that wait, first in first out. `rdata`, `rbytes`: what the last read answered.
`free`: how many free values have been drawn (the model's own field). `ns`, `wrap`, `acc`: the time counter (R406);
`phase`: time-clock periods since the tick start; `tlen`: periods of the current tick (R29, R49). `regs`: registers by
address, unlisted ones at their reset value. `mem`: the image memory and the SRAMs by physical address, unlisted bytes
0. `dirty`: the dirty-line bitmap (R81); `eccBad`: bank L lines with an uncorrectable error (R69), `eccSeen` those whose
last read by a freeze returned it; `tagRuns`: colours last given to runs of lines (first, count, colour), newest first;
`tagBad`: lines that a tag error made colour 0. `since`: ticks since the present state was entered (R22). `phyRst`:
SVC_PHY_RST_N is held low (R524); `refErr`: the phase error that the messages of the last tick gave (R50). `firstFrz`: classes whose next freeze reads every line (R67); `unforced`: input handles
unforced since their last freeze (R72). `nor`, `mram`: the NVM on chip selects 0 and 1; an unlisted byte of the first reads 0xFF, erased,
of the second 0 (NOTES 100). -/
structure State where
  pending : List Instr
  tx : List Tx
  rdata : Word
  rbytes : List Byte
  free : Nat
  ns : Word
  wrap : Word
  acc : BitVec 28
  phase : Nat
  tlen : Nat
  tick : Dword
  tstart : Dword
  regs : Tab Word
  mem : List Host.Cell
  dirty : Tab Bool
  eccBad : Tab Bool
  eccSeen : Tab Bool
  tagRuns : List (Nat × Nat × Nat)
  tagBad : Tab Bool
  viol : List Viol
  nor : Tab Byte
  mram : Tab Byte
  dev : DevState
  last : Option DevState
  due : Option DevState
  transTick : BitVec 16
  since : Nat
  addrOk : Bool
  svcMode : SvcMode
  img : Image
  firstFrz : Tab Bool
  unforced : Tab Bool
  tripN : Bool
  tripTime : Dword
  squelch : Bool
  phyRst : Bool
  refErr : Option Int
  boot : Boot
  otp : Otp
  pwd : Pwd
  logSeq : Nat
  chain : List Byte
  loadReport : List LoadEnt
  forceDropped : Nat
  eng : Tab Engine
  flights : List Flight
  tasks : Tab TaskRec
  snap : Snap
  sched : Sched
  deferred : List (Nat × Act)
  sta : Tab Sta
  str : Tab StrS
  mario : Tab Mario
  saw : Saw
  mirr : Mirr
  tri : Tri
  chg : Chg
  tgRx : Tab TgRx
  tgSend : List (Nat × List Byte)
  plantA : Plant
  plantB : Plant
  ptp : Ptp
  svc : Svc
  field : FieldDie
  fctl : FieldCtl
  can0 : CanS
  can1 : CanS
  rack : RackS
  ret : Ret
  hlth : Hlth
  books : Books
  pan : Pan
  jrnlNext : Nat
deriving DecidableEq, Repr

/-- The machine while the power-on reset holds it (R455): BOOTING (R21, R22), every register at its Reset column (R8),
memory with nothing listed, no command waiting. What the spec gives no reset value for is named in NOTES 4. -/
def State.reset : State where
  pending := []
  tx := []
  rdata := 0
  rbytes := []
  free := 0
  ns := 0
  wrap := 0
  acc := 0
  phase := 0
  tlen := 250000
  tick := 0
  tstart := 0
  regs := []
  mem := []
  dirty := []
  eccBad := []
  eccSeen := []
  tagRuns := []
  tagBad := []
  viol := []
  nor := []
  mram := []
  dev := .booting
  last := none
  due := none
  transTick := 0
  since := 0
  addrOk := false
  svcMode := .none
  img := {}
  firstFrz := []
  unforced := []
  tripN := false
  tripTime := 0
  squelch := true
  phyRst := true
  refErr := none
  boot := {}
  otp := {}
  pwd := {}
  logSeq := 0
  chain := []
  loadReport := []
  forceDropped := 0
  eng := []
  flights := []
  tasks := []
  snap := {}
  sched := {}
  deferred := []
  sta := []
  str := []
  mario := []
  saw := {}
  mirr := {}
  tri := {}
  chg := {}
  tgRx := []
  tgSend := []
  plantA := {}
  plantB := {}
  ptp := {}
  svc := {}
  field := {}
  fctl := {}
  can0 := {}
  can1 := {}
  rack := {}
  ret := {}
  hlth := {}
  books := {}
  pan := {}
  jrnlNext := 0

end Sys2Proof.Machine
end

