-- ==== Sys2Proof/Machine/Ops.lean ====
section
/-!
DEFINITION. The named operations over registers, memory, slots and time that every meaning uses.
-/
namespace Sys2Proof.Machine

/-! ### Registers (R4 to R8, R15) -/

/-- The block and instance that hold a register address. -/
def findBlock (a : Nat) : Option (BlockDef × Nat) :=
  regBlocks.findSome? fun b =>
    if b.base ≤ a ∧ a < b.base + b.stride * b.count then some (b, (a - b.base) / b.stride) else none

/-- Whether register `r` of a block has an address at offset `o`. -/
def RegDef.holds (r : RegDef) (o : Nat) : Bool :=
  if r.count ≤ 1 then o == r.off
  else decide (r.off ≤ o) && (o - r.off) % r.stride == 0 && decide ((o - r.off) / r.stride < r.count)

/-- The block, its instance and the register at an address. -/
def findReg (a : Nat) : Option (BlockDef × Nat × RegDef) :=
  match findBlock a with
  | none => none
  | some (b, i) => (b.regs.find? fun r => r.holds (a - b.base - b.stride * i)).map fun r => (b, i, r)

/-- The Reset column of a register word from its fields. -/
def fieldsReset (fs : List FieldDef) : Nat := fs.foldl (fun w f => w + f.rst * 2 ^ f.lo) 0

/-- The reset value of the register at an address (R8; R379 for the entries of the gate). -/
def resetWord (a : Nat) : Word :=
  if a = 0x400305B8 then 0xFFFEFFFE#32
  else if a = 0x400305BC then 0x00008000#32
  else if 0x400305C4 ≤ a ∧ a ≤ 0x400305F4 ∧ a % 8 = 4 then 0x80000000#32
  else if a = 0x4003004C then 0x0000AAAA#32
  else match findReg a with
    | some (_, _, r) => BitVec.ofNat 32 (fieldsReset r.fields)
    | none => 0

/-- The word a register holds. -/
def State.reg (s : State) (a : Nat) : Word := tget (resetWord a) s.regs a

/-- A register set to a word. -/
def State.setReg (s : State) (a : Nat) (v : Word) : State := { s with regs := tset (resetWord a) s.regs a v }

/-- `w` with the field at `lo`, `wid` bits wide, replaced by the low bits of `v`. -/
def putBits (w : Word) (lo wid v : Nat) : Word :=
  let m : Word := BitVec.ofNat 32 ((2 ^ wid - 1) * 2 ^ lo)
  (w &&& ~~~m) ||| (BitVec.ofNat 32 ((v % 2 ^ wid) * 2 ^ lo))

/-- The value of a register field. -/
def State.rf (s : State) (f : Fld) : Nat := bitsOf (s.reg f.addr).toNat f.lo f.wid

/-- A one-bit field as a Bool. -/
def State.rfb (s : State) (f : Fld) : Bool := s.rf f != 0

/-- A register field set by the hardware. -/
def State.wf (s : State) (f : Fld) (v : Nat) : State := s.setReg f.addr (putBits (s.reg f.addr) f.lo f.wid v)

/-- A one-bit field set by the hardware. -/
def State.wfb (s : State) (f : Fld) (b : Bool) : State := s.wf f (b2n b)

/-- A counter field increased by `n`, saturating (R5, the counters of each chapter). -/
def State.inc (s : State) (f : Fld) (n : Nat := 1) : State := s.wf f (satAdd f.wid (s.rf f) n)

/-- A field that tracks a largest value. -/
def State.trackMax (s : State) (f : Fld) (v : Nat) : State := if s.rf f < v then s.wf f (min v (2 ^ f.wid - 1)) else s

/-- A field that tracks a smallest value. -/
def State.trackMin (s : State) (f : Fld) (v : Nat) : State := if v < s.rf f then s.wf f v else s

/-- Whether the RWL fields of the register at `a` are locked (R7, R378). -/
def State.locked (s : State) (a : Nat) : Bool :=
  match findBlock a with
  | none => false
  | some (b, i) =>
    if 0x40030400 ≤ a ∧ a < 0x40030600 then nbit (s.reg (a - a % 8 + 4)).toNat 31
    else b.lock && nbit (s.reg (b.base + b.stride * i)).toNat 31

/-- Device state codes of R21. -/
def devCode : DevState → Nat
  | .parked => 1 | .booting => 2 | .refused => 3 | .ready => 4 | .syncing => 5 | .standby => 6 | .active => 7
  | .member => 8 | .benched => 9 | .tripped => 10 | .stopped => 11

/-- Service mode codes of `SYS_STATE.SVC` (R21). -/
def svcCode : SvcMode → Nat
  | .none => 0 | .solo => 1 | .pair => 2 | .triad => 3

/-- The word `PLx_TSQ_ID` reads: ID, SEQ and VALID of the head entry, 0 with the queue empty (R405). -/
def tsqHead (p : Plant) : Word :=
  match p.tsq with
  | [] => 0
  | e :: _ => BitVec.ofNat 32 (e.id.toNat + 65536 * e.seq.toNat + 2 ^ 31)

/-- Whether the duplicate comparator bank runs (R169). -/
def State.dupRuns (s : State) : Bool :=
  s.dev == .syncing || decide (s.tick.toNat < s.sched.dupUntil) || !s.sched.moved.isEmpty || s.rfb F.TWIN_DUP_ALWAYS

/-- Field words that the hardware computes from its state: what a read of them returns. -/
def State.computedReg (s : State) (a : Nat) : Option Word :=
  if a = 0x40000000 then
    some (BitVec.ofNat 32 (devCode s.dev + 16 * (s.last.elim 0 devCode) + 256 * svcCode s.svcMode + 1024 * b2n s.addrOk
      + 65536 * s.transTick.toNat))
  else if a = 0x40010020 then some (s.tick.setWidth 32)
  else if a = 0x40010028 then some (s.tstart.setWidth 32)
  else if a = 0x40110004 then some s.ns
  else if a = 0x40090004 then some (s.tripTime.setWidth 32)
  else if a = 0x40090000 then some (putBits (s.reg a) 2 1 (b2n s.tripN))
  else if a = 0x40030020 then some ((s.viol.head?.map (·.w0)).getD 0)
  else if a = 0x40030030 then some (putBits (s.reg a) 0 6 s.viol.length)
  else if a = 0x40140010 then
    some (putBits (putBits (s.reg a) 8 5 s.svc.queue.length) 1 3
      (match s.svc.session with | none => 0 | some x => 1 + 2 * x.iface.val))
  else if a = 0x40140014 then some ((s.svc.session.map (·.ip)).getD 0)
  else if a = 0x40120020 then some (putBits (s.reg a) 4 5 s.plantA.tsq.length)
  else if a = 0x40130020 then some (putBits (s.reg a) 4 5 s.plantB.tsq.length)
  else if a = 0x400A0000 then some (BitVec.ofNat 32 (s.otp.life + 256 * s.otp.step.toNat))
  else if a = 0x400A0004 then some (s.otp.id.setWidth 32)
  else if a = 0x400A0008 then some ((s.otp.id >>> 32).setWidth 32)
  else if a = 0x400A0014 then
    some (BitVec.ofNat 32 ((List.range 4).foldl (fun w k =>
      let x := tget {} s.otp.keys k
      w + b2n x.present * 2 ^ k + b2n x.revoked * 2 ^ (4 + k) + (x.purpose % 8) * 2 ^ (8 + 3 * k)) 0)
      ||| (s.reg a &&& 0x00F00000#32))
  else if a = 0x400A0018 then
    some (BitVec.ofNat 32 ((List.range 4).foldl (fun w k => w + tget 0 s.otp.ctr k * 256 ^ k) 0))
  else if a = 0x400F0008 then some (s.pan.d.setWidth 32)
  else if a = 0x400F000C then some ((s.pan.d >>> 32).setWidth 32)
  else if a = 0x400F0010 then some (s.pan.r.setWidth 32)
  else if a = 0x400F0014 then some ((s.pan.r >>> 32).setWidth 32)
  else if a = 0x40060018 then
    some (BitVec.ofNat 32 (if s.dev = .syncing ∨ s.dev = .standby then s.mirr.applied else s.mirr.lastSent.getD 0))
  else if a = 0x40040110 then some (putBits (s.reg a) 0 6 (if s.dupRuns then 0x3F else 0))
  else if 0x40040040 ≤ a ∧ a < 0x40040058 ∧ a % 4 = 0 then some (putBits (s.reg a) 0 1 (b2n s.dupRuns))
  else if a = 0x40120024 then some (tsqHead s.plantA)
  else if a = 0x40130024 then some (tsqHead s.plantB)
  else if a = 0x400F0044 then some (BitVec.ofNat 32 (tget 0 s.pan.stress (bitsOf (s.reg 0x400F0040).toNat 0 6)))
  else if 0x400F0020 ≤ a ∧ a < 0x400F0040 ∧ a % 4 = 0 then
    some (BitVec.ofNat 32 ((List.range 8).foldl (fun w i =>
      w + tget 0 s.pan.stepOf (8 * ((a - 0x400F0020) / 4) + i) * 2 ^ (4 * i)) 0))
  else none

/-- The word that a 4-byte read of the address returns, without its side effects (R4 to R6). -/
def State.readReg (s : State) (a : Nat) : Word := (s.computedReg a).getD (s.reg a)

/-- Whether a field of the register at `a` with lowest bit `lo` does more on a write than take its bits: `SYS_PD.ON`,
`TICK_CFG.RUN`, `TIME_INC` (RegWrite), `SEQ_FENCE.MARK`, whose write needs the maintenance password (R176). -/
def ownCommand (a lo : Nat) : Bool :=
  (a == 0x40000010 && lo == 0) || (a == 0x40010000 && lo == 3) || (a == 0x4011000C) || (a == 0x40050024 && lo == 16)

/-- Bits that read a fixed value and ignore writes: bit 0 of every gate mask (R367), the policies of R375. -/
def fixedBits (a : Nat) : Nat :=
  if 0x40030400 ≤ a ∧ a < 0x40030600 then (if a % 8 = 0 then 0x00010001 else 0x00000001)
  else if a = 0x4003004C then 0xC000FFFF
  else 0

/-- One field of a register word after a write of `v` (R5, R7). -/
def writeField (a : Nat) (locked : Bool) (old v : Word) (w : Word) (f : FieldDef) : Word :=
  let n := f.hi - f.lo + 1
  let nv := bitsOf v.toNat f.lo n
  let ov := bitsOf old.toNat f.lo n
  if ownCommand a f.lo then w
  else match f.acc with
    | .rw => putBits w f.lo n nv
    | .rwl => if locked then w else putBits w f.lo n nv
    | .w1c => putBits w f.lo n (ov &&& (2 ^ n - 1 - nv))
    | _ => w

/-- The register word after a write of `v` (R5 to R7). -/
def State.writtenWord (s : State) (a : Nat) (fs : List FieldDef) (v : Word) : Word :=
  let old := s.reg a
  let w := fs.foldl (writeField a (s.locked a) old v) old
  let fx : Word := BitVec.ofNat 32 (fixedBits a)
  (w &&& ~~~fx) ||| (old &&& fx)

/-- A 32-bit write to a register address (R5 to R7, R15). -/
def State.writeReg (s : State) (a : Nat) (v : Word) : State :=
  match findReg a with
  | none => s
  | some (_, _, r) => s.setReg a (s.writtenWord a r.fields v)

/-- The word after a read has set every RC field back to its Reset column (R5). -/
def rcClear (fs : List FieldDef) (w : Word) : Word :=
  fs.foldl (fun x f => if f.acc = .rc then putBits x f.lo (f.hi - f.lo + 1) f.rst else x) w

/-! ### Memory and slots (R13, R15, R55 to R57) -/

/-- A byte of memory; unlisted bytes read 0. -/
def State.rdB (s : State) (a : Nat) : Byte := tget 0 s.mem a

/-- A byte written. -/
def State.wrB (s : State) (a : Nat) (b : Byte) : State := { s with mem := tset 0 s.mem a b }

/-- `n` bytes of memory from `a`. -/
def State.rdBytes (s : State) (a n : Nat) : List Byte := (List.range n).map fun i => s.rdB (a + i)

/-- Bytes put into a memory from `a` on. -/
def putBytes : List Host.Cell → Nat → List Byte → List Host.Cell
  | m, _, [] => m
  | m, a, b :: t => putBytes (tset 0 m a b) (a + 1) t

/-- Bytes written from `a` on. -/
def State.wrBytes (s : State) (a : Nat) (l : List Byte) : State := { s with mem := putBytes s.mem a l }

/-- The little-endian number in `n` bytes at `a` (R3). -/
def State.rdLe (s : State) (a n : Nat) : Nat := ofLe (s.rdBytes a n)

/-- A little-endian number of `n` bytes written at `a` (R3). -/
def State.wrLe (s : State) (a n v : Nat) : State := s.wrBytes a (leBytes n v)

/-- Region bases of R13. -/
def bankL : Nat := 0x80000000
def bankF : Nat := 0x82800000
def varBase : Nat := 0x85000000
def sotBase : Nat := 0x89000000
def objBase : Nat := 0x89200000
def jrnlBase : Nat := 0x8A000000
def trendBase : Nat := 0x8C000000
def keyArea : Nat := 0x8EFF0000
def mirrArea : Nat := 0x8F000000
def retBase : Nat := 0x8F800000
def reservedBase : Nat := 0x8F900000
def forceBase : Nat := 0x88FFC000
def slotCount : Nat := 5242880

/-- The line index of an image-memory address (R81). -/
def lineOf (a : Nat) : Nat := (a - bankL) / 64

/-- A slot's content (R55). -/
structure Slot where
  val : Word
  qual : Byte
  age : BitVec 24
deriving DecidableEq, Repr

/-- The slot at an address. -/
def State.slotAt (s : State) (a : Nat) : Slot :=
  ⟨BitVec.ofNat 32 (s.rdLe a 4), s.rdB (a + 4), BitVec.ofNat 24 (s.rdLe (a + 5) 3)⟩

/-- The eight bytes of a slot (R55). -/
def Slot.bytes (x : Slot) : List Byte := leBytes 4 x.val.toNat ++ [x.qual] ++ leBytes 3 x.age.toNat

/-- The slot as one 64-bit word. -/
def Slot.word (x : Slot) : Dword := BitVec.ofNat 64 (x.val.toNat + x.qual.toNat * 2 ^ 32 + x.age.toNat * 2 ^ 40)

/-- A slot from its 64-bit word. -/
def Slot.ofWord (w : Dword) : Slot :=
  ⟨w.setWidth 32, (w >>> 32).setWidth 8, (w >>> 40).setWidth 24⟩

/-- Slot h of bank L, of bank F (R56). -/
def State.slotL (s : State) (h : Nat) : Slot := s.slotAt (bankL + 8 * h)
def State.slotF (s : State) (h : Nat) : Slot := s.slotAt (bankF + 8 * h)

/-- Quality bits of R59. -/
def qb (q : Byte) (i : Nat) : Bool := q.getLsbD i

/-- A quality byte from its bits 0 to 2, the bits 3 to 6 of `mid`, and bit 7. -/
def mkQual (valid stale forced : Bool) (mid : Byte) (split : Bool) : Byte :=
  BitVec.ofNat 8 (b2n valid + 2 * b2n stale + 4 * b2n forced + 128 * b2n split) ||| (mid &&& 0x78#8)

/-- The bits of the dirty-line bitmap of the lines that bytes [a, a + n) touch, set (R81). -/
def State.markDirty (s : State) (a n : Nat) : State :=
  if n = 0 then s
  else (span (lineOf a) ((a + n - 1) / 64 - a / 64 + 1)).foldl (fun t l => { t with dirty := tset false t.dirty l true }) s

/-- A write to the retain region: its bytes, its dirty bit and the retain unit's own dirty maps (R81, R491). -/
def State.retWrite (s : State) (a : Nat) (l : List Byte) : State :=
  let s := (s.wrBytes a l).markDirty a l.length
  (span ((a - retBase) / 64) ((a + l.length + 63) / 64 - a / 64)).foldl (fun t k => { t with
    ret := { t.ret with dirtyA := tset false t.ret.dirtyA k true, dirtyB := tset false t.ret.dirtyB k true } }) s

/-- A slot written in bank F with the dirty bit of its line set (R81). -/
def State.wrSlotF (s : State) (h : Nat) (x : Slot) : State :=
  (s.wrBytes (bankF + 8 * h) x.bytes).markDirty (bankF + 8 * h) 8

/-- Slot type codes of R57. -/
def slotTyCode : SlotType → Nat
  | .bit => 0 | .u16 => 1 | .s16 => 2 | .u32 => 3 | .s32 => 4 | .f32 => 5

/-- A VALUE in the representation of its slot type (R57, R58). -/
def canonValue (ty : Nat) (v : Word) : Word :=
  match ty with
  | 0 => v &&& 1
  | 1 => v &&& 0xFFFF#32
  | 2 => (v.setWidth 16).signExtend 32
  | _ => v

/-! ### Range descriptors (R60) -/

/-- A used range descriptor. -/
structure RangeD where
  n : Nat
  start : Nat
  len : Nat
  typ : Nat
  cls : Nat
  dir : Nat
  subst : Option Word
deriving DecidableEq, Repr

/-- Range descriptor n as the IMG registers hold it. -/
def State.rangeD (s : State) (n : Nat) : RangeD where
  n := n
  start := s.rf (F.IMG_RD_A_START n)
  len := s.rf (F.IMG_RD_B_LENGTH n)
  typ := s.rf (F.IMG_RD_A_TYPE n)
  cls := s.rf (F.IMG_RD_B_CLASS n)
  dir := s.rf (F.IMG_RD_B_DIR n)
  subst := if s.rfb (F.IMG_RD_A_SUBST_EN n) then some (BitVec.ofNat 32 (s.rf (F.IMG_RD_SV_SUBST n))) else none

/-- The used descriptors, in number order. -/
def State.ranges (s : State) : List RangeD := ((List.range 64).map s.rangeD).filter fun r => r.dir = 1 ∨ r.dir = 2

/-- The range that holds a handle. -/
def findRange (rs : List RangeD) (h : Nat) : Option RangeD := rs.find? fun r => r.start ≤ h ∧ h < r.start + r.len

/-- The range that holds a handle. -/
def State.rangeOf (s : State) (h : Nat) : Option RangeD := findRange s.ranges h

/-- The address ranges of R15: whether an address is held by some region. -/
def mapped (a : Nat) : Bool :=
  a < 0x40000 || (0x10000000 ≤ a && a < 0x10100000) || (0x20000000 ≤ a && a < 0x20800000) ||
  (0x21000000 ≤ a && a < 0x21400000) || (0x30000000 ≤ a && a < 0x3C000000 && a % 0x1000000 < 0x80000) ||
  (findBlock a).isSome || (0x80000000 ≤ a && a < 0x90000000)

/-! ### Time (R29, R34, R406) -/

/-- Monotonic time in ns (R406). -/
def State.mono (s : State) : Nat := s.ns.toNat + 2 ^ 32 * s.wrap.toNat

/-- T_b in ns (R53). -/
def State.tb (s : State) : Nat := 250000 * 2 ^ s.rf F.TICK_CFG_TB

/-- ns since the tick start, on the time clock of R29. -/
def State.inTick (s : State) : Nat := 4 * s.phase

/-- Whether the point `p`/1,000 of T_b has been reached in this tick. -/
def State.reached (s : State) (p : Nat) : Bool := decide (p * s.tb ≤ 1000 * s.inTick)

/-- The present point of the tick in 1/1,000 T_b, at most 1,023. -/
def State.permil (s : State) : Nat := min 1023 (1000 * s.inTick / s.tb)

/-- The tick number. -/
def State.n (s : State) : Nat := s.tick.toNat

/-- One period of the 250 MHz time clock (R29, R406): the accumulator, the counter and its wraps, the place in the tick,
and the frames that leave the FIFOs of R402 at 1 Gb/s. -/
def State.clockPeriod (s : State) : State :=
  let x := s.ns.toNat * 2 ^ 28 + s.acc.toNat + (s.reg F.TIME_INC_INC.addr).toNat
  { s with
    ns := BitVec.ofNat 32 (x / 2 ^ 28)
    acc := BitVec.ofNat 28 x
    wrap := if x / 2 ^ 28 < 2 ^ 32 then s.wrap else s.wrap + 1
    phase := if s.rfb F.TICK_STAT_RUNNING then s.phase + 1 else s.phase
    plantA := { s.plantA with fifo := s.plantA.fifo - 4 }
    plantB := { s.plantB with fifo := s.plantB.fifo - 4 } }

/-! ### Small state access -/

/-- A thing sent. -/
def State.send (s : State) (x : Tx) : State := { s with tx := s.tx ++ [x] }

/-- A free value drawn (NOTES 3). -/
def State.draw (s : State) : Nat × State := (Config.free s.free, { s with free := s.free + 1 })

/-- A random number drawn from the security engine (R390). -/
def State.drawRandom (s : State) : BitVec 256 × State := (Config.random s.free, { s with free := s.free + 1 })

/-- A station's record. -/
def State.getSta (s : State) (k : Nat) : Sta := tget {} s.sta k

/-- A station's record changed. -/
def State.updSta (s : State) (k : Nat) (f : Sta → Sta) : State := { s with sta := tupd {} s.sta k f }

/-- A string's record. -/
def State.getStr (s : State) (k : Nat) : StrS := tget {} s.str k

/-- A string's record changed. -/
def State.updStr (s : State) (k : Nat) (f : StrS → StrS) : State := { s with str := tupd {} s.str k f }

/-- A marionette's record. -/
def State.getMario (s : State) (k : Nat) : Mario := tget {} s.mario k

/-- A marionette's record changed. -/
def State.updMario (s : State) (k : Nat) (f : Mario → Mario) : State := { s with mario := tupd {} s.mario k f }

/-- An engine. -/
def State.getEng (s : State) (e : Nat) : Engine := tget {} s.eng e

/-- An engine changed. -/
def State.updEng (s : State) (e : Nat) (f : Engine → Engine) : State := { s with eng := tupd {} s.eng e f }

/-- The station list of the image for one string. -/
def State.stasOf (s : State) (str : Nat) : List StaDef := s.img.stations.filter fun d => d.str == str

/-- The station list entry of a station number (R150). -/
def State.staDef (s : State) (k : Nat) : Option StaDef := s.img.stations.find? fun d => 128 * d.str + d.pos == k

/-- Stations that the list names, as station numbers. -/
def State.listed (s : State) : List Nat := s.img.stations.map fun d => 128 * d.str + d.pos

/-- Whether the device serves the plant (drives or shadows it): ACTIVE, MEMBER or BENCHED. -/
def State.serving (s : State) : Bool := decide (s.dev = .active ∨ s.dev = .member ∨ s.dev = .benched)

/-- A plant port's record. -/
def State.plant (s : State) : PlantPort → Plant
  | .a => s.plantA
  | .b => s.plantB

/-- A plant port's record changed. -/
def State.updPlant (s : State) (p : PlantPort) (f : Plant → Plant) : State :=
  match p with
  | .a => { s with plantA := f s.plantA }
  | .b => { s with plantB := f s.plantB }

/-- Index of a plant port's register block. -/
def ppIdx : PlantPort → Nat
  | .a => 0
  | .b => 1

/-- Index of a triad link's register block. -/
def tlIdx : TriLink → Nat
  | .a => 0
  | .b => 1

/-- A CAN port's record. -/
def State.can (s : State) (p : Nat) : CanS := if p = 0 then s.can0 else s.can1

/-- A CAN port's record changed. -/
def State.updCan (s : State) (p : Nat) (f : CanS → CanS) : State :=
  if p = 0 then { s with can0 := f s.can0 } else { s with can1 := f s.can1 }

/-- The active from its handover tick on: no freeze, no execution, no cue (R260). -/
def State.handsOver (s : State) : Bool := s.dev == .active && s.saw.hovrLive && decide (s.saw.hovrTick ≤ s.n)

/-- A state transition that takes effect now (R21, R24). Entry into ACTIVE or MEMBER makes the next freeze of every class
read every line (R67), and a class not frozen since is not owed it once the state is left; entry into STANDBY, ACTIVE or MEMBER runs the duplicate bank for 128 ticks (R169); at an entry into READY
no station has replied yet and the ages of the self-test items start again (R65, R498). A member that leaves service shows no
contributor set (R319); no merged stream is open outside ACTIVE (R293). -/
def State.enter (s : State) (d : DevState) : State :=
  let s := if d = .active then s else s.wfb F.MIRR_STAT_MERGING false
  let s := if d = .member ∨ d = .benched then s else (s.wf F.TRI_STAT_SET 0).wf F.TRI_STAT_MODE 0
  { s with
    dev := d, last := some s.dev, due := none, transTick := s.tick.setWidth 16, since := 0
    hlth := if d = .ready then { s.hlth with readyAt := s.mono } else s.hlth
    ptp := { s.ptp with
      hbRef := decide (d = .syncing ∨ d = .standby) || (s.ptp.hbRef && !decide (d = .active ∨ d = .member ∨ d = .benched)) }
    sta := if d = .ready then tmap {} s.sta (fun _ x => { x with u := none }) else s.sta
    firstFrz := if d = .active ∨ d = .member then (List.range 8).map fun c => (c, true) else []
    sched := if d = .standby ∨ d = .active ∨ d = .member then { s.sched with dupUntil := s.tick.toNat + 128 } else s.sched }

/-- A transition made due at the next tick boundary (R24); in TRIPPED none is taken. -/
def State.schedule (s : State) (d : DevState) : State := if s.dev = .tripped then s else { s with due := some d }

/-! ### What a boundary waits for (R31) -/

/-- Whether the switch tick has begun in a state that stops for it: STANDBY, ACTIVE or MEMBER (R22, R332). -/
def State.stopsNow (s : State) : Bool :=
  s.chg.switch == some s.n && s.chg.plan.isSome && decide (s.dev = .standby ∨ s.dev = .active ∨ s.dev = .member)

/-- Whether boundary s + Z + 1 of a function restart has begun and nothing holds the device in READY (R23, R332, R397). -/
def State.resumesNow (s : State) : Bool :=
  s.dev == .ready && s.addrOk && !s.rfb F.SEC_DBG_UNLOCKED && s.chg.stopEnd.any fun b => b + 1 == s.n

/-- Whether the boundary that has begun brings a transition with a command of its own that has not come yet: the last boundary of a
handover at the standby, the cold start, the stop, its end and the resume of a function restart. -/
def State.awaitsMove (s : State) : Bool :=
  (s.svcMode == .pair && s.dev == .standby && s.saw.hbHandover != 0 && s.saw.hbHandover + 1 == s.n) ||
  (s.svcMode == .triad && s.dev == .ready && s.addrOk && s.tri.start != 0 && s.tri.start == s.n && !s.rfb F.SEC_DBG_UNLOCKED &&
    !s.rfb F.TRI_STAT_JOIN_FAIL) ||
  s.stopsNow || (s.dev == .stopped && s.chg.stopEnd == some s.n) || s.resumesNow

/-- Whether it brings forces: those accepted since the last boundary, in TRIAD those of EFFECT (R72, R317). -/
def State.awaitsForce (s : State) : Bool := !s.svc.forces.isEmpty || s.tri.forces.any fun x => x.1 == s.n

/-- The freeze of a tick follows every command of its boundary (R31, R72; NOTES 9). -/
def State.awaits (s : State) : Bool := s.awaitsMove || s.awaitsForce

end Sys2Proof.Machine
end

