-- ==== Sys2Proof/Machine/Trip.lean ====
section
/-!
DEFINITION. Frames of the strings, the pair link and the triad links (R186 to R191, R243, R296), what the Tumbler does
(R343 to R348), and the check of the colour gate (R371 to R376).
-/
namespace Sys2Proof.Machine

/-! ### Frames -/

/-- The 40-byte device header of R187, with HOPS as given. -/
def frameHeader (f : Frame) (hops : Byte) : List Byte :=
  [f.proto, f.ver, f.kind, f.flags] ++ beBytes 8 f.pairId.toNat ++ beBytes 4 f.epoch.toNat ++ beBytes 8 f.tick.toNat
    ++ beBytes 8 f.tstart.toNat ++ [f.memberNo, f.src, f.strNo, hops] ++ beBytes 2 f.plen.toNat ++ beBytes 2 f.rsv.toNat

/-- The CRC-64 of a frame (R189), from its seed. -/
def frameCrc (f : Frame) (seed : Dword) : Dword := crc64 seed (frameHeader f 0 ++ f.payload)

/-- A frame's flag bit (R187). -/
def frameFlag (f : Frame) (i : Nat) : Bool := f.flags.getLsbD i

/-- A frame made by a sender (R186 to R189): its CRC-64 seeded with the pair ID. -/
def mkFrame (pairId : Dword) (kind flags : Nat) (epoch tick tstart : Nat) (member src str hops : Nat)
    (payload : List Byte) : Frame :=
  let f : Frame := {
    fcsOk := true
    etherType := 0x88B5#16
    dstOk := true
    dstKind := BitVec.ofNat 8 kind
    len := 66 + payload.length
    proto := 0xA7#8
    ver := 1
    kind := BitVec.ofNat 8 kind
    flags := BitVec.ofNat 8 flags
    pairId := pairId
    epoch := BitVec.ofNat 32 epoch
    tick := BitVec.ofNat 64 tick
    tstart := BitVec.ofNat 64 tstart
    memberNo := BitVec.ofNat 8 member
    src := BitVec.ofNat 8 src
    strNo := BitVec.ofNat 8 str
    hops := BitVec.ofNat 8 hops
    plen := BitVec.ofNat 16 payload.length
    rsv := 0
    payload := payload
    crc := 0 }
  { f with crc := frameCrc f pairId }

/-- The source address of a frame (R186): 02-54-53, then three bytes. -/
def srcAddr (b3 b4 b5 : Nat) : BitVec 48 := BitVec.ofNat 48 (0x025453 * 2 ^ 24 + b3 * 2 ^ 16 + b4 * 2 ^ 8 + b5)

/-- The checks of R190, in their order; `ether` is the uncounted discard of R180. -/
inductive FrErr where | ether | fcs | hdr | kind | len | crc | pair | string
deriving DecidableEq, Repr

/-- The first check of R190 that a frame fails. `str`: the receiver's string, none where that check is not made;
`pair`: the configured pair ID, none where that check is not made (the CRC-64 is then seeded with the frame's own). -/
def frameErr (f : Frame) (kinds : List Nat) (pair : Option Dword) (str : Option Nat) : Option FrErr :=
  if f.etherType ≠ 0x88B5#16 then some .ether
  else if !f.fcsOk then some .fcs
  else if f.proto ≠ 0xA7#8 ∨ f.ver ≠ 1 then some .hdr
  else if !f.dstOk ∨ f.dstKind ≠ f.kind ∨ f.kind.toNat ∉ kinds then some .kind
  else if f.len ≠ 66 + f.plen.toNat ∨ 9216 < f.len ∨ f.payload.length ≠ f.plen.toNat then some .len
  else if frameCrc f (pair.getD f.pairId) ≠ f.crc then some .crc
  else if pair.elim false (fun p => f.pairId != p) then some .pair
  else if str.elim false (fun k => f.strNo.toNat != k) then some .string
  else none

/-- Frame kinds of R191. -/
def stringKinds : List Nat := [1, 2, 3, 4, 5, 6, 7]

/-- Kinds of the pair link (R243, R273, R334, R538, R539; the frames of R236 and R237 and the roll-call answers of R210 that it
carries). -/
def pairKinds : List Nat := [1, 2, 3, 0x10, 0x11, 0x12, 0x13, 0x14, 0x15, 0x16, 0x17, 0x20, 0x21, 0x22, 0x23, 0x24, 0x25]

/-- Kinds of the triad links (R296, R333). -/
def triadKinds : List Nat := [0x30, 0x31, 0x32, 0x33, 0x34, 0x35, 0x36, 0x37, 0x38, 0x39]

/-- The service mode is PAIR, TRIAD, SOLO. -/
def State.isPair (s : State) : Bool := decide (s.svcMode = .pair)
def State.isTriad (s : State) : Bool := decide (s.svcMode = .triad)
def State.isSolo (s : State) : Bool := decide (s.svcMode = .solo)

/-- The epoch a device sends (R187): its lease epoch, 0 in SOLO and TRIAD. -/
def State.epoch (s : State) : Nat := if s.isPair then s.rf F.SAW_EPOCH_EPOCH else 0

/-- The SRC code of this device end (R187). -/
def State.srcCode (s : State) : Nat := if s.isPair ∧ s.rfb F.SAW_STAT_END_B then 0xFF else 0xFE

/-- The partner's SRC code. -/
def State.peerSrc (s : State) : Nat := if s.srcCode = 0xFE then 0xFF else 0xFE

/-- The address of this device on the chain, as long as it keeps it (R464, R466), 64 for none: a device in READY without a place
under R465 is unaddressed (R463). -/
def State.ownAddr (s : State) : Nat :=
  if s.dev = .ready ∧ !s.addrOk then 64 else (s.rack.latched.orElse fun _ => s.rack.addr).getD 64

/-- A frame of this device in the present tick, on the pair link or a triad link. -/
def State.frame (s : State) (kind flags member str hops : Nat) (payload : List Byte) : Frame :=
  { mkFrame s.img.pairId kind flags s.epoch s.n s.tstart.toNat member s.srcCode str hops payload with
    srcMac := srcAddr s.ownAddr str 0xFE }

/-- Whether ports 2k and 2k + 1 are loop-paired, for port 2k (R238). -/
def State.loop (s : State) (port : Nat) : Bool := s.isSolo && port % 2 == 0 && s.rfb (F.STR_CTRL_LOOP port)

/-- The string a port serves (R181, R238). -/
def State.strOf (s : State) (port : Nat) : Nat :=
  if port % 2 = 1 ∧ s.loop (port - 1) then port - 1 else port

/-- Whether a port holds end B of its string (R181). -/
def State.endB (s : State) (port : Nat) : Bool := (s.isPair && s.rfb F.SAW_STAT_END_B) || s.strOf port != port

/-- A frame that leaves a string port in the present tick (R186, R187). -/
def State.strFrame (s : State) (port kind flags member : Nat) (payload : List Byte) : Frame :=
  { mkFrame s.img.pairId kind (flags + b2n (s.endB port)) s.epoch s.n s.tstart.toNat member
      (if s.endB port then 0xFF else 0xFE) (s.strOf port) 0 payload with
    srcMac := srcAddr s.ownAddr (s.strOf port) 0xFE }

/-- A frame of which a device end does not check STRING: a ROLLCALL answer or SERVICE_RSP with STRING 0xFF (R190). -/
def anyStr (f : Frame) : Bool :=
  decide (f.strNo = 0xFF#8) && ((decide (f.kind = 3) && frameFlag f 2) || decide (f.kind = 5))

/-- The check of R190 at a device end, counted in the STR block of its port (R190, R240). -/
def State.checkStr (s : State) (port : Nat) (f : Frame) : Option FrErr :=
  frameErr f stringKinds (some s.img.pairId) (if anyStr f then none else some (s.strOf port))

/-- A discarded frame counted by its first failed check (R190). -/
def State.countErr (s : State) (port : Nat) (e : FrErr) : State :=
  let s := if e = .fcs ∨ e = .crc then { s with hlth := { s.hlth with linkErr := satAdd 32 s.hlth.linkErr 1 } } else s
  match e with
  | .ether => s
  | .fcs => s.inc (F.STR_ERR0_FCS port)
  | .hdr => s.inc (F.STR_ERR0_HDR port)
  | .kind => s.inc (F.STR_ERR0_KIND port)
  | .len => s.inc (F.STR_ERR0_LEN port)
  | .crc => s.inc (F.STR_ERR1_CRC port)
  | .pair => s.inc (F.STR_ERR1_PAIR port)
  | .string => s.inc (F.STR_ERR1_STRING port)

/-- Whether the device runs its pair link (R17, R267); one that it does not run stays idle, and nothing on it is read. -/
def State.pairUse (s : State) : Bool := s.isPair && s.rfb F.PAIR_CTRL_EN

/-- The check of R243 on the pair link; a frame that fails FCS or CRC-64 counts in `PAIR_ERR.CRC`. -/
def State.pairErr (s : State) (f : Frame) : Option FrErr :=
  if s.pairUse then frameErr f pairKinds (some s.img.pairId) none else some .ether

/-- A discarded pair-link frame counted (R267). -/
def State.countPairErr (s : State) (e : FrErr) : State :=
  if e = .fcs ∨ e = .crc then
    { s.inc F.PAIR_ERR_CRC with hlth := { s.hlth with linkErr := satAdd 32 s.hlth.linkErr 1 } }
  else s

/-- Whether the device runs a triad link (R17, R320); one that it does not run stays idle, and nothing on it is read. -/
def State.triLane (s : State) (l : TriLink) : Bool := s.isTriad && s.rfb (F.TL_CTRL_EN (tlIdx l))

/-- The check of R296 on a triad link. -/
def State.triadErr (s : State) (l : TriLink) (f : Frame) : Option FrErr :=
  if s.triLane l then frameErr f triadKinds (some s.img.pairId) none else some .ether

/-- A discarded triad frame counted (R320). -/
def State.countTriErr (s : State) (l : TriLink) (e : FrErr) : State :=
  if e = .fcs ∨ e = .crc then
    { s.inc (F.TL_ERR_CRC (tlIdx l)) with hlth := { s.hlth with linkErr := satAdd 32 s.hlth.linkErr 1 } }
  else s

/-- A message on the pair link, which carries it while a lane is up (R242). -/
def State.sendPair (s : State) (f : Frame) : State := if s.rfb F.PAIR_STAT_UP then s.send (.pair f) else s

/-- Whether a member uses a triad link: it is up and wired as R294 says (R295). -/
def State.triUse (s : State) (l : TriLink) : Bool := s.rfb (F.TL_STAT_UP (tlIdx l)) && !s.rfb (F.TL_STAT_WIRING (tlIdx l))

/-- A message on one triad link. -/
def State.sendTri (s : State) (l : TriLink) (f : Frame) : State := if s.triUse l then s.send (.triad l f) else s

/-- Both triad links carry a message (R296). -/
def State.sendTriad (s : State) (f : Frame) : State := (s.sendTri .a f).sendTri .b f

/-! ### The Tumbler -/

/-- The states from which the Tumbler trips the device (R22). -/
def trippable (d : DevState) : Bool :=
  decide (d = .ready ∨ d = .syncing ∨ d = .standby ∨ d = .active ∨ d = .member ∨ d = .benched ∨ d = .stopped)

/-- The SAFE flag of the RELEASE of a trip (R347, R259). -/
def State.tripSafe (s : State) (cause : Nat) : Bool :=
  match s.svcMode with
  | .solo => true
  | .pair => s.rfb F.SYS_MODE_HANDOFF || (s.rfb F.SAW_STAT_PINGPONG && (cause == 1 || cause == 2))
  | _ => false

/-- Whether string `k` gets the RELEASE of R346: 2500BASE-X, and a cue was sent in this tick or the previous one. -/
def State.releaseStr (s : State) (k : Nat) : Bool :=
  !nbit (s.rf F.SYS_MODE_RATE1000) k &&
  (match (s.getStr k).cueTick with | none => false | some t => t == s.n || t + 1 == s.n)

/-- A RELEASE on a string (R197). -/
def State.release (s : State) (k reason : Nat) (safe : Bool) : State :=
  s.send (.str k (s.strFrame k 7 (if safe then 8 else 0) 0 (beBytes 1 reason ++ beBytes 3 0)))

/-- RELEASE on every string that `p` picks, in ascending number. -/
def State.releaseAll (s : State) (reason : Nat) (safe : Bool) (p : Nat → Bool) : State :=
  ((List.range 16).filter p).foldl (fun t k => t.release k reason safe) s

/-- The TRIP message of the service mode (R243, R296). -/
def State.sendTrip (s : State) (cause : Nat) : State :=
  match s.svcMode with
  | .pair => s.sendPair ((s.frame 0x13 0 0 0xFF 0
      (beBytes 1 cause ++ beBytes 1 (s.rf F.SYS_MODE_HANDOFF) ++ beBytes 2 0 ++ beBytes 8 s.n)))
  | .triad => s.sendTriad (s.frame 0x35 0 s.tri.idx 0xFF 0 (beBytes 1 cause ++ beBytes 7 0 ++ beBytes 8 s.n))
  | _ => s

/-- The pending CAN frames that `keep` does not keep cancelled, with the pending marks of their objects (R448, R452). -/
def State.canFilter (s : State) (p : Nat) (keep : CanPend → Bool) : State :=
  let old := (s.can p).pend
  let new := old.filter keep
  (old.filter fun x => !keep x).foldl (fun t x => if new.any fun y => y.obj == x.obj then t else t.wfb (F.CAN_OBJ_D_PEND p x.obj) false)
    (s.updCan p fun c => { c with pend := new })

/-- Every pending CAN frame that has not started cancelled (R346, R450, R451). -/
def State.canCancel (s : State) (p : Nat) : State := s.canFilter p (·.started)

/-- What `SYS_CHG` and its fellows show of the change machinery (R342): a refusal stands until something else does. -/
def State.chgPhase (s : State) : State :=
  let c := s.chg
  let ph := if c.switch.isSome ∨ c.stopEnd.isSome then 6 else if c.staging.isSome then 1 else if c.plan.isSome then 2
    else if c.translating then 4 else if c.back then 5 else if s.rf F.SYS_CHG_PHASE = 3 then 3 else 0
  let s := if c.switch.isSome then s else s.wf F.SYS_CHG_ALLOW_SAFE 0
  let p := c.plan.getD {}
  ((((s.wf F.SYS_CHG_PHASE ph).wf F.SYS_CHG_Z (min 255 p.z)).wf F.SYS_CHG_MOV_LINES p.lines).wf F.SYS_CHG_KEYS_CREATED
    (min 65535 p.created)).wf F.SYS_CHG_KEYS_FREED (min 65535 p.freed)

/-- Every engine stopped and every staged write, queued force and pending CAN frame that has not started dropped, a drain
ended, an accepted switch void (R175, R346, R348, R450). -/
def State.stopWork (s : State) : State :=
  let s := (List.range 12).foldl (fun t e => t.wf (F.SEQ_ENG_RUNNING e) 0) (s.wf F.SEQ_FENCE_DRAINING 0)
  let s := (s.canCancel 0).canCancel 1
  { s with
    sched := { s.sched with newPlaced := none, fenceTrip := false, moved := [], execOpen := false }
    eng := tmap {} s.eng (fun _ e => { e with cur := none, ready := [] })
    flights := []
    deferred := []
    tgSend := []
    svc := { s.svc with session := none, forces := [], writes := [] }
    tri := { s.tri with forces := [], fwd := [] }
    chg := { s.chg with switch := none, stopEnd := none } }.chgPhase

/-- The command frame that puts the field die in its safe values; `FIELD_STAT.DRIVE` shows it (R346, R429, R444). -/
def State.fieldSafe (s : State) : State :=
  let runs := s.rfb F.FIELD_CTRL_EN && nbit (s.reg 0x40000010).toNat 27
  { (if runs then (s.send (.field { crcOk := true, drive := false, safe := true, outs := List.replicate 32 0 })).wf F.FIELD_STAT_DRIVE 0
      else s) with
    fctl := { s.fctl with safe := true, since := none, ok := false } }

/-- The Tumbler acts (R346): the messages and RELEASE leave with the state the device had, then everything stops; a planned
handover is aborted (R261). -/
def State.tripAct (s : State) (cause : Nat) : State :=
  let safe := s.tripSafe cause
  let s := s.sendTrip cause
  let s := s.releaseAll 1 safe s.releaseStr
  let s := (s.stopWork.fieldSafe).enter .tripped
  let s := ((s.wfb F.TUMB_STAT_TRIPPED true).wf F.TUMB_STAT_CAUSE cause).wf F.TUMB_STAT_TICK_LO s.n
  let s := (s.inc F.TUMB_COUNT_TRIPS).wf F.SAW_STAT_ROLE 0
  let s := if s.saw.hovrLive ∧ s.saw.role ≠ .relinquished ∧ s.n ≤ s.saw.hovrTick then s.wf F.SAW_HOVR_RESULT 4 else s
  { s with
    tripN := false
    tripTime := BitVec.ofNat 64 s.mono
    ret := { s.ret with cause := cause, tripTick := s.tick }
    saw := { s.saw with role := .none, hovrLive := false } }

/-- A trip cause detected (R25, R343, R344). -/
def State.trip (s : State) (cause : Nat) : State :=
  if trippable s.dev then s.tripAct cause
  else if s.dev = .tripped then
    s.wf F.TUMB_MORE_MORE (s.rf F.TUMB_MORE_MORE ||| 2 ^ (cause - 1))
  else if s.dev = .booting then
    { s with boot := { s.boot with trip := some (s.boot.trip.getD cause) }
             ret := { s.ret with cause := s.boot.trip.getD cause } }
  else s

/-- `TICK_OVR` keeps the first tick fault (R46, R53). -/
def State.tickFault (s : State) (kind cls : Nat) : State :=
  if s.rf F.TICK_OVR_KIND ≠ 0 then s
  else ((s.wf F.TICK_OVR_KIND kind).wf F.TICK_OVR_CLASS cls).wf F.TICK_OVR_TICK_LO s.n

/-! ### The rack chain -/

/-- A rack-chain command injected for 16 frames (R467, R473). -/
def State.rackInject (s : State) (wake park : Bool) (tgt : Nat) : State :=
  { s with rack := { s.rack with inject := s.rack.inject ++ [(wake, park, tgt)] } }

/-! ### The colour gate -/

/-- The colour of the line that holds byte address `a` (R14, R365, R377). Code-store lines carry the tag of index
4,194,304 + i. -/
def State.colourOf (s : State) (a : Nat) : Nat :=
  let tag (i : Nat) : Nat :=
    if tget false s.tagBad i then 0
    else (s.tagRuns.findSome? fun r => if r.1 ≤ i ∧ i < r.1 + r.2.1 then some r.2.2 else none).getD 0
  if bankL ≤ a ∧ a < bankL + 0x10000000 then (if reservedBase ≤ a then 0 else tag (lineOf a))
  else if 0x20000000 ≤ a ∧ a < 0x20800000 then tag (4194304 + (a - 0x20000000) / 64)
  else 15

/-- The lines of [a, a + n), each with its part. -/
def lineParts (a n : Nat) : List (Nat × Nat) :=
  if n = 0 then []
  else (span (a / 64) ((a + n - 1) / 64 - a / 64 + 1)).map fun l => (max a (64 * l), min (a + n) (64 * l + 64) - max a (64 * l))

/-- Whether [a, a + n) lies in [b, b + m). -/
def within (a n b m : Nat) : Bool := decide (b ≤ a ∧ a + n ≤ b + m)

/-- The regions of a context's address window as (base, bytes), none for the whole map (R369). -/
def windowOf (ctx : Nat) : Option (List (Nat × Nat)) :=
  let l := (bankL, 0x2800000)
  let f := (bankF, 0x2800000)
  let v := (varBase, 0x4000000)
  let o := (sotBase, 0x1000000)
  let p := (0x21000000, 0x400000)
  match ctx with
  | 48 => some [l, f, p]
  | 49 => some [v, p]
  | 50 => some [l, f]
  | 51 => some [o, (jrnlBase, 0x2000000)]
  | 52 => some [f, v, o, (retBase, 0x100000), (mirrArea, 0x800000)]
  | 53 => some [f]
  | 54 => some [(keyArea, 0x10000), (0x10000000, 0x100000)]
  | _ => none

/-- The whole span lies in the context's window, whose regions are whole lines (R369, R371). -/
def inWindow (ctx a n : Nat) : Bool :=
  match windowOf ctx with
  | none => true
  | some rs => (span (a / 64) ((a + n - 1) / 64 - a / 64 + 1)).all fun l =>
      rs.any fun r => decide (r.1 ≤ 64 * l ∧ 64 * l < r.1 + r.2)

/-- Codes of the access kinds (R373). -/
def kindCode : AccKind → Nat
  | .read => 0 | .write => 1 | .fetch => 2 | .rmw => 3

/-- The mask an access kind needs (R371). -/
def State.gateMask (s : State) (ctx : Nat) (kind : AccKind) : Nat :=
  let r := s.rf (F.GATE_CTX_RW_READ_MASK ctx)
  let w := s.rf (F.GATE_CTX_RW_WRITE_MASK ctx)
  match kind with
  | .read => r
  | .write => w
  | .fetch => s.rf (F.GATE_CTX_X_EXEC_MASK ctx)
  | .rmw => r &&& w

/-- The colours of the lines an access touches, as a mask (R371). -/
def State.coloursOf (s : State) (a n : Nat) : Nat :=
  (span (a / 64) ((a + n - 1) / 64 - a / 64 + 1)).foldl (fun m l => m ||| 2 ^ s.colourOf (64 * l)) 0

/-- Whether the gate passes an access (R371). -/
def State.gateOk (s : State) (ctx a n : Nat) (kind : AccKind) : Bool :=
  let c := s.coloursOf a n
  c &&& s.gateMask ctx kind == c && inWindow ctx a n

/-- The policy of a context (R374, R375). -/
def State.policy (s : State) (ctx : Nat) : Nat := s.rf (F.GATE_POL_POL (ctx / 16) (ctx % 16))

/-- The record of a refusal (R373). -/
def State.violRec (s : State) (ctx a n : Nat) (kind : AccKind) : Viol :=
  let c := s.coloursOf a n
  let den := c &&& (0xFFFF - s.gateMask ctx kind % 65536)
  { w0 := BitVec.ofNat 32 a
    w1 := BitVec.ofNat 32 (ctx % 64 + 64 * kindCode kind + 256 * (n - 1) + 131072 * b2n (!inWindow ctx a n))
    w2 := BitVec.ofNat 32 (c + 65536 * den)
    w3 := s.tick.setWidth 32 }

/-- An activation's FAULT set, the first one recorded (R112). -/
def Act.setFault (a : Act) (code pc : Nat) : Act := if a.fault.isSome then a else { a with fault := some (code, pc) }

/-- Whether a refusal under a context faults the task it serves (R374). -/
def State.faultsTask (s : State) (ctx : Nat) : Bool := decide (ctx < 48) && s.policy ctx == 1

/-- A refusal under context `ctx`: its record, and the trip of policy TRIP (R373, R374). -/
def State.violate (s : State) (ctx a n : Nat) (kind : AccKind) : State :=
  let s := if s.viol.length < 32 then { s with viol := s.viol ++ [s.violRec ctx a n kind] }
           else s.inc F.GATE_VSTAT_OVERFLOW
  if s.policy ctx = 2 then s.trip 7 else s

/-- An access through the gate: whether it passes, and the state after its record and a trip (R371 to R374). The caller
sets a task's FAULT where `faultsTask` holds. -/
def State.gate (s : State) (ctx a n : Nat) (kind : AccKind) : Bool × State :=
  if s.gateOk ctx a n kind then (true, s) else (false, s.violate ctx a n kind)

end Sys2Proof.Machine
end

