-- ==== Sys2Proof/Machine/Regs.lean ====
section
/-!
DEFINITION. Register accesses with their side effects (R4 to R7, R379, R405, R406), the power domains (R18 to R20), the
start of the tick generator (R54), the monotonic time (R407, R408), and the fields whose write is a command of its own.
-/
namespace Sys2Proof.Machine

/-- A command that always completes. -/
abbrev Out := Host.Outcome State Fault Refusal

/-! ### Reads and writes -/

/-- What a read of a word latches or removes beside its RC fields. -/
def State.readLatch (s : State) (a : Nat) : State :=
  if a = 0x40010020 then s.wf F.TICK_NUM_HI_NUM_HI (s.tick >>> 32).toNat
  else if a = 0x40010028 then s.wf F.TICK_START_HI_START_HI (s.tstart >>> 32).toNat
  else if a = 0x40110004 then s.wf F.TIME_WRAP_WRAP s.wrap.toNat
  else if a = 0x40090004 then s.wf F.TUMB_TIME_HI_TIME_HI (s.tripTime >>> 32).toNat
  else if a = 0x40060018 then
    s.wf F.MIRR_LAST_HI_LAST_HI ((if s.dev = .syncing ∨ s.dev = .standby then s.mirr.applied
      else s.mirr.lastSent.getD 0) / 2 ^ 32)
  else if a = 0x40120024 ∨ a = 0x40130024 then
    let p : PlantPort := if a = 0x40120024 then .a else .b
    match (s.plant p).tsq with
    | [] => s
    | e :: t => (s.wf (F.PL_TSQ_NS_NS (ppIdx p)) e.ns.toNat).updPlant p fun x => { x with tsq := t }
  else if a = 0x40030020 then
    match s.viol with
    | [] => s
    | v :: t => { (((s.wf F.GATE_VQ1_W1 v.w1.toNat).wf F.GATE_VQ2_W2 v.w2.toNat).wf F.GATE_VQ3_W3 v.w3.toNat) with viol := t }
  else s

/-- RC fields of the register at `a` set back to their Reset column (R5). -/
def State.readClear (s : State) (a : Nat) : State :=
  match findReg a with
  | none => s
  | some (_, _, r) => s.setReg a (rcClear r.fields (s.reg a))

/-- A 4-byte aligned read: its word, and the state after its side effects. An address no register holds reads 0 (R15). -/
def State.busRead (s : State) (a : Nat) : Word × State :=
  match findReg a with
  | none => (0, s)
  | some _ => (s.readReg a, (s.readLatch a).readClear a)

/-- A read command: `rdata` holds what it returned; a refused read returns zeros (R372), one of another width or
alignment 0 (R4). -/
def State.doRead (s : State) (ctx a n : Nat) : State :=
  if n = 0 ∨ 256 < n then { s with rdata := 0 }
  else match s.gate ctx a n .read with
    | (false, t) => { t with rdata := 0 }
    | (true, t) =>
      if n ≠ 4 ∨ a % 4 ≠ 0 then { t with rdata := 0 }
      else { (t.busRead a).2 with rdata := (t.busRead a).1 }

/-- `READ_CLEAR` (R5). -/
def execReadClear (ctx : Fin 64) (addr : Word) (size : Nat) (s : State) : Out := .next (s.doRead ctx addr.toNat size)

/-- `TICK_NUM_LO_READ` (R53). -/
def execTickNumLoRead (s : State) : Out := .next (s.doRead 55 0x40010020 4)

/-- `TICK_START_LO_READ` (R53). -/
def execTickStartLoRead (s : State) : Out := .next (s.doRead 55 0x40010028 4)

/-- `TIME_NS_READ` (R406). -/
def execTimeNsRead (s : State) : Out := .next (s.doRead 55 0x40110004 4)

/-- `TUMB_TIME_LO_READ` (R364). -/
def execTumbTimeLoRead (s : State) : Out := .next (s.doRead 55 0x40090004 4)

/-- `MIRR_LAST_LO_READ` (R293). -/
def execMirrLastLoRead (s : State) : Out := .next (s.doRead 55 0x40060018 4)

/-- `PLX_TSQ_ID_READ` (R405). -/
def execPlxTsqIdRead (p : PlantPort) (s : State) : Out := .next (s.doRead 55 (F.PL_TSQ_ID_ID (ppIdx p)).addr 4)

/-- `GATE_VQ0_READ` (R379). -/
def execGateVq0Read (s : State) : Out := .next (s.doRead 55 0x40030020 4)

/-! ### Power domains -/

/-- The `SYS_PD` fields. -/
def pdAddr : Nat := 0x40000010

/-- The bay of a placement code (R10, R156). -/
def bayOf (code : Nat) : Nat := if code < 0x10 then code / 2 else (code - 0x10) / 4

/-- Whether a domain can be switched in service (R18). -/
def switchable (d : Nat) : Bool := d == 4 || d == 5 || d == 6 || d == 8 || d == 9 || d == 11

/-- The condition of R18 for switching a domain off. -/
def State.pdOffOk (s : State) (d : Nat) : Bool :=
  if d = 8 then (List.range 8).all fun k => !s.rfb (F.STR_CTRL_EN k)
  else if d = 9 then (List.range 8).all fun k => !s.rfb (F.STR_CTRL_EN (8 + k))
  else if d = 11 then !s.rfb F.FIELD_CTRL_EN
  else
    let b := d - 4
    nbit (s.rf F.SEQ_FENCE_FENCED) b && !nbit (s.rf F.SEQ_FENCE_DRAINING) b &&
    s.sched.placed.all (fun p => bayOf p.code != b)

/-- Whether a domain is powered and out of its reset: its ACK bit. -/
def State.pdAck (s : State) (d : Nat) : Bool := nbit (s.reg pdAddr).toNat (16 + d)

/-- A domain switched off: ON and ACK clear; without PD11 the local outputs are off (R20). -/
def State.pdOff (s : State) (d : Nat) : State :=
  let s := s.setReg pdAddr (putBits (putBits (s.reg pdAddr) d 1 0) (16 + d) 1 0)
  if d = 11 then { s with field := {} } else s

/-- An off request whose condition is not met (R19). -/
def State.pdDeny (s : State) (d : Nat) : State := s.setReg pdAddr (putBits (putBits (s.reg pdAddr) d 1 1) 31 1 1)

/-- An off request (R18, R19): refused at once, or carried out at the end of the tick, after any trip of it (NOTES 123); at
once where no tick runs. During a flush it waits for its end (R472, coincidences). -/
def State.pdOffReq (s : State) (d : Nat) : State :=
  if !switchable d then s
  else if s.ret.flushing then { s with ret := { s.ret with offLater := s.ret.offLater ++ [d] } }
  else if !s.pdOffOk d then s.pdDeny d
  else if s.rfb F.TICK_STAT_RUNNING then
    { s.setReg pdAddr (putBits (s.reg pdAddr) d 1 0) with
      ret := { s.ret with offDue := s.ret.offDue.filter (· != d) ++ [d] } }
  else s.pdOff d

/-- The accepted off requests of the tick that ends, each only if its condition still holds (R19). -/
def State.pdEnd (s : State) : State :=
  s.ret.offDue.foldl (fun t d => if t.pdOffOk d then t.pdOff d else t.pdDeny d) { s with ret := { s.ret with offDue := [] } }

/-- An on request (R20): a switch-off that has not been carried out lapses. -/
def State.pdOnReq (s : State) (d : Nat) : State :=
  if switchable d then
    { s.setReg pdAddr (putBits (s.reg pdAddr) d 1 1) with ret := { s.ret with offDue := s.ret.offDue.filter (· != d) } }
  else s

/-- The requests that waited for the end of a flush. -/
def State.pdLater (s : State) : State :=
  s.ret.offLater.foldl State.pdOffReq { s with ret := { s.ret with offLater := [] } }

/-- Whether a register is one of the comparators of bay `b`: stagger, status and counts of its two twins (R10, R177). -/
def twinRegOf (b a : Nat) : Bool :=
  [0x40040010, 0x40040040, 0x40040080, 0x400400C0].any fun o => a == o + 4 * (2 * b) || a == o + 4 * (2 * b + 1)

/-- The strings of PD8 and PD9 in their domain reset (R20): registers, port records, and what the sequencers hold of the
stations; the tick of a station's last reply belongs to its AGE (R65) and stays. -/
def State.stringReset (s : State) (d : Nat) : State :=
  { s with
    regs := tclear s.regs fun a => decide (0x40200000 + 0x80000 * (d - 8) ≤ a ∧ a < 0x40280000 + 0x80000 * (d - 8))
    str := tclear s.str fun k => decide (k / 8 = d - 8)
    sta := tmap {} s.sta fun k x => if k < 2048 ∧ k / 1024 = d - 8 then { u := x.u } else x }

/-- Bay `b` in its domain reset (R12, R20): engines, engine-local SRAM, comparators. -/
def State.bayReset (s : State) (b : Nat) : State :=
  { s with
    regs := tclear s.regs fun a => decide (0x40050100 + 16 * b ≤ a ∧ a < 0x40050110 + 16 * b) || twinRegOf b a
    mem := tclear s.mem fun a => decide (0x30000000 + 0x4000000 * b ≤ a ∧ a < 0x34000000 + 0x4000000 * b)
    eng := tclear s.eng fun e => decide (e / 4 = b)
    sched := { s.sched with injBit := tclear s.sched.injBit fun t => decide (t / 2 = b) } }

/-- The domain reset of a domain that comes up (R20). -/
def State.domainReset (s : State) (d : Nat) : State :=
  if d = 8 ∨ d = 9 then s.stringReset d
  else if d = 11 then { s with regs := tclear s.regs (fun a => decide (0x40100000 ≤ a ∧ a < 0x40110000)), field := {}, fctl := {} }
  else if 4 ≤ d ∧ d ≤ 6 then s.bayReset (d - 4)
  else s

/-- `PD_OFF_REQUEST` (R19). -/
def execPdOffRequest (d : Fin 12) (s : State) : Out := .next (s.pdOffReq d)

/-- `PD_ON_REQUEST` (R20). -/
def execPdOnRequest (d : Fin 12) (s : State) : Out :=
  .next (s.pdOnReq d)

/-- `PD_POWER_UP_DONE` (R20). -/
def execPdPowerUpDone (d : Fin 12) (s : State) : Out :=
  .next (if nbit (s.reg pdAddr).toNat d && !s.pdAck d then
      (s.domainReset d).setReg pdAddr (putBits (s.reg pdAddr) (16 + d) 1 1) else s)

/-! ### Tick generator and time -/

/-- The limits of R34; the offsets of R32 hold by the widths of their fields. -/
def State.phaseOk (s : State) : Bool :=
  let fd := s.rf F.TICK_PH0_FREEZE_DONE
  let d := s.rf F.TICK_PH0_DISPATCH
  let m := s.rf F.TICK_PH1_COMMIT_END
  let w := s.rf F.TICK_PH1_REPLY_END
  let sg := s.rf F.TICK_PH2_SAMPLE
  let iv := s.rf F.TICK_PH3_IVOTE_END
  let ex := s.rf F.TICK_PH3_EXEC_END
  decide (40 ≤ fd ∧ fd ≤ 350 ∧ fd ≤ sg) && decide (300 ≤ d ∧ d ≤ 850 ∧ fd + 200 ≤ d) &&
  decide (d + 100 ≤ m ∧ m ≤ 950) && decide (100 ≤ sg ∧ sg ≤ 600) && decide (sg + 200 ≤ w ∧ w ≤ 980) &&
  (!s.isTriad || (decide (fd + 80 ≤ iv) && decide (iv + 200 ≤ ex ∧ ex + 100 ≤ d)))

/-- The nominal length of a tick in time-clock periods (R29). -/
def State.nominal (s : State) : Nat := 62500 * 2 ^ s.rf F.TICK_CFG_TB

/-- `TICK_STAT.SRC` (R48); a PAIR member in READY follows its partner from the first message on (R262; NOTES 115, 173). -/
def State.tickSrc (s : State) : Nat :=
  if s.isTriad then 3
  else if s.isPair ∧ s.dev ≠ .active then (if s.dev = .ready ∧ !s.saw.anySeen then 0 else 2)
  else if s.rfb F.TICK_CFG_PTP_ALIGN then 1 else 0

/-- The tick generator starts with tick 0 (R29, R30, R48). -/
def State.startTicks (s : State) : State :=
  { ((s.wfb F.TICK_CFG_RUN true).wfb F.TICK_STAT_RUNNING true).wf F.TICK_STAT_SRC s.tickSrc with
    tick := 0, tstart := BitVec.ofNat 64 s.mono, phase := 0, tlen := s.nominal }

/-- The monotonic time set. -/
def State.setMono (s : State) (t : Nat) : State :=
  { s with ns := BitVec.ofNat 32 t, wrap := BitVec.ofNat 32 (t / 2 ^ 32), acc := 0 }

/-- The states in which a load of the monotonic time is accepted (R408). -/
def loadAllowed (d : DevState) : Bool := decide (d = .booting ∨ d = .ready ∨ d = .syncing)

/-- A load of the monotonic time (R408). -/
def State.timeLoad (s : State) : State :=
  if loadAllowed s.dev then s.setMono (s.rf F.TIME_SET_LO_SET_LO + 2 ^ 32 * s.rf F.TIME_SET_HI_SET_HI)
  else s.wfb F.TIME_STAT_LOAD_REFUSED true

/-- `TIME_LOAD` (R408). -/
def execTimeLoad (s : State) : Out := .next s.timeLoad

/-- The increment limits of R407. -/
def incMin : Nat := 0x3FF7CED9
def incMax : Nat := 0x40083127

/-- `TIME_INC` written, held to its range (R407). -/
def State.setInc (s : State) (v : Nat) : State :=
  let x := max incMin (min incMax v)
  let s := s.wf F.TIME_INC_INC x
  if x = v then s else s.wfb F.TIME_STAT_CLAMP true

/-- A CAN port out of its sleep (R451, R452; NOTES 45): its error state is the one of its counts again, or bus-off. -/
def State.canRise (s : State) (p : Nat) : State :=
  (s.wf (F.CAN_STAT_STATE p) (if (s.can p).off then 2
      else b2n (decide (127 < s.rf (F.CAN_STAT_TEC p) ∨ 127 < s.rf (F.CAN_STAT_REC p))))).updCan p
    fun c => { c with stb := false, wakeDue := false }

/-- A CAN port woken (R451). -/
def State.canAwake (s : State) (p : Nat) : State :=
  ((s.canRise p).wfb (F.CAN_CTRL_SLEEP p) false).wfb (F.CAN_STAT_WOKE p) true

/-- A CAN port whose sleep is requested, once it has no frame on its bus (R451): it raises CANn_STB, or wakes at once where
a wake came meanwhile. -/
def State.canSettle (s : State) (p : Nat) : State :=
  if !s.rfb (F.CAN_CTRL_SLEEP p) || (s.can p).pend.any (·.started) then s
  else if (s.can p).wakeDue then s.canAwake p
  else (s.wf (F.CAN_STAT_STATE p) 3).updCan p fun c => { c with stb := true }

/-- A CAN port put to sleep (R451): the frame in progress completes, the rest is cancelled. -/
def State.canDoze (s : State) (p : Nat) : State := ((s.canCancel p).wfb (F.CAN_CTRL_SLEEP p) true).canSettle p

/-- A register written with what its plain fields do at once: `TIME_INC` is held to its range (R407), `CANx_CTRL.SLEEP`
puts its port to sleep or ends its sleep (R451). -/
def State.storeReg (s : State) (a : Nat) (v : Word) : State :=
  if a = 0x4011000C then s.setInc v.toNat
  else
    let t := s.writeReg a v
    if a = 0x400D0000 ∨ a = 0x400E0000 then
      let p := (a - 0x400D0000) / 0x10000
      if nbit v.toNat 16 then t.canDoze p else if s.rfb (F.CAN_CTRL_SLEEP p) then t.canRise p else t
    else t

/-- `TIME_INC_WRITE` (R407). -/
def execTimeIncWrite (v : Word) (s : State) : Out := .next (s.setInc v.toNat)

/-! ### Tumbler, rack chain, retag, CAN sleep -/

/-- `TUMB_CMD_TRIP` (R364). -/
def execTumbCmdTrip (key : BitVec 16) (s : State) : Out := .next (if key = 0xA5C3#16 then s.trip 0x0B else s)

/-- `RACK_CMD_WAKE` (R473). -/
def execRackCmdWake (tgt : BitVec 6) (s : State) : Out := .next (s.rackInject true false tgt.toNat)

/-- `RACK_CMD_PARK` (R473). -/
def execRackCmdPark (tgt : BitVec 6) (s : State) : Out := .next (s.rackInject false true tgt.toNat)

/-- A retag of lines (R366, R379): refused where it touches the reserved region or colour 0, no line then changing. -/
def State.retag (s : State) (first count colour : Nat) (code : Bool) : State :=
  let touches := !code && decide (0x3E4000 < first + count)
  if touches || colour = 0 then s.wfb F.GATE_RETAG_S_REFUSED true
  else { s.wfb F.GATE_RETAG_S_BUSY true with
    tagRuns := (if code then 4194304 + first else first, count, colour) :: s.tagRuns }

/-- The retag that `GATE_RETAG_A` and `GATE_RETAG_B` describe (R379). -/
def State.retagGo (s : State) : State :=
  let n := s.rf F.GATE_RETAG_B_COUNT
  s.retag (s.rf F.GATE_RETAG_A_LINE) (if n = 0 then 4194304 else n) (s.rf F.GATE_RETAG_B_COLOUR) (s.rfb F.GATE_RETAG_A_REGION)

/-- `RETAG_GO` (R366, R379): a write of `GATE_RETAG_B` with GO; the block lock ends retagging. -/
def execRetagGo (count : BitVec 22) (colour : BitVec 4) (s : State) : Out :=
  .next (if s.locked 0x40030014 then s
    else ((s.wf F.GATE_RETAG_B_COUNT count.toNat).wf F.GATE_RETAG_B_COLOUR colour.toNat).retagGo)

/-- `RETAG_DONE` (R366). -/
def execRetagDone (s : State) : Out := .next (s.wfb F.GATE_RETAG_S_BUSY false)

/-- `CAN_SLEEP` (R451). -/
def execCanSleep (p : Fin 2) (s : State) : Out := .next (s.canDoze p)

end Sys2Proof.Machine
end

