-- ==== Sys2Proof/Machine/Image.lean ====
section
/-!
DEFINITION. The process image: classes and deadlines (R32, R33), the force table (R71 to R73), the freeze (R65 to R69),
what a sequencer writes into bank L (R63), ECC errors (R69).
-/
namespace Sys2Proof.Machine

/-! ### Classes -/

/-- Offset o_c (R32, R53). -/
def State.classOff (s : State) (c : Nat) : Nat :=
  match c with
  | 1 => s.rf F.TICK_OFFS_O1
  | 2 => s.rf F.TICK_OFFS_O2
  | 3 => s.rf F.TICK_OFFS_O3
  | 4 => s.rf F.TICK_OFFS_O4
  | 5 => s.rf F.TICK_OFFS_O5
  | 6 => s.rf F.TICK_OFFS_O6
  | 7 => s.rf F.TICK_OFFS_O7
  | _ => 0

/-- Class c is due at tick n (R32). -/
def State.dueAt (s : State) (n c : Nat) : Bool := (n + 2 ^ c - s.classOff c) % 2 ^ c == 0

/-- Tick n is a deadline tick of class c: the class is due at the next one (R33), also before its first activation
(NOTES 48). -/
def State.deadlineAt (s : State) (n c : Nat) : Bool := s.dueAt (n + 1) c

/-- One bit for each class that `p` holds of. -/
def classMask (p : Nat → Bool) : Nat := (List.range 8).foldl (fun m c => m + b2n (p c) * 2 ^ c) 0

/-! ### The force table -/

/-- Entry i of the force table: in use, handle, value (R73). -/
def State.forceEntry (s : State) (i : Nat) : Option (Nat × Word) :=
  let a := forceBase + 16 * i
  if nbit (s.rdLe (a + 8) 4) 0 then some (s.rdLe a 4 % 2 ^ 23, BitVec.ofNat 32 (s.rdLe (a + 4) 4)) else none

/-- The index of the entry that forces a handle. -/
def State.forceIdx (s : State) (h : Nat) : Option Nat :=
  (List.range 1024).find? fun i => match s.forceEntry i with | some (k, _) => k == h | none => false

/-- The forced value of a handle (R71). -/
def State.forced (s : State) (h : Nat) : Option Word :=
  (List.range 1024).findSome? fun i => match s.forceEntry i with | some (k, v) => if k = h then some v else none | none => none

/-- Entries in use. -/
def State.forceCount (s : State) : Nat := ((List.range 1024).filter fun i => (s.forceEntry i).isSome).length

/-- A free entry of the force table. -/
def State.forceFree (s : State) : Option Nat := (List.range 1024).find? fun i => (s.forceEntry i).isNone

/-- An entry written at a boundary, with its dirty bit (R72, R73). -/
def State.putForce (s : State) (i : Nat) (h : Nat) (v : Word) (use : Bool) : State :=
  let l := if use then leBytes 4 h ++ leBytes 4 v.toNat ++ leBytes 4 1 ++ leBytes 4 0 else List.replicate 16 0
  (s.wrBytes (forceBase + 16 * i) l).markDirty (forceBase + 16 * i) 16

/-- The FORCED bit of an output slot in bank F (R72). -/
def State.putForcedBit (s : State) (h : Nat) (on : Bool) : State :=
  let x := s.slotF h
  s.wrSlotF h { x with qual := BitVec.ofNat 8 (x.qual.toNat - x.qual.toNat % 8 + x.qual.toNat % 4 + 4 * b2n on) }

/-- Direction of the range that holds a handle: 1 input, 2 output, 0 unassigned. -/
def State.dirOf (s : State) (h : Nat) : Nat := (s.rangeOf h).elim 0 (·.dir)

/-- A force applied (R72). -/
def State.applyForce (s : State) (h : Nat) (v : Word) : State :=
  match (s.forceIdx h).orElse (fun _ => s.forceFree) with
  | none => s
  | some i =>
    let s := s.putForce i h v true
    let s := if s.dirOf h = 2 then s.putForcedBit h true else s
    s.wf F.IMG_FORCE_COUNT s.forceCount

/-- An unforce applied (R72). -/
def State.applyUnforce (s : State) (h : Nat) : State :=
  match s.forceIdx h with
  | none => s
  | some i =>
    let s := s.putForce i 0 0 false
    let s := if s.dirOf h = 2 then s.putForcedBit h false else { s with unforced := tset false s.unforced h true }
    s.wf F.IMG_FORCE_COUNT s.forceCount

/-! ### Stations of slots -/

/-- The handle runs that stations carry: first handle, count, station, hold time (R198, R431, R484). -/
def State.carriers (s : State) : List (Nat × Nat × Nat × Nat) :=
  (s.img.stations.flatMap fun d => (d.ins ++ d.outs).map fun r => (r.1, r.2, 128 * d.str + d.pos, d.h)) ++
  (if s.rfb F.FIELD_CTRL_EN then [(s.rf F.FIELD_BASE_BASE, 64, 2048, s.rf F.FIELD_WD_HOLD)] else [])

/-- The station that carries a handle, with its hold time. -/
def carrierOf (cs : List (Nat × Nat × Nat × Nat)) (h : Nat) : Option (Nat × Nat) :=
  cs.findSome? fun r => if r.1 ≤ h ∧ h < r.1 + r.2.1 then some r.2.2 else none

/-- AGE at freeze tick f of a station last heard at u (R65). -/
def ageAt (u : Option Nat) (f : Nat) : Nat :=
  match u with
  | none => 0xFFFFFF
  | some u => min (f - 1 - u) 0xFFFFFF

/-- Age of a slot's station and whether it is admitted and not beyond its hold time. -/
def State.slotAge (s : State) (cs : List (Nat × Nat × Nat × Nat)) (f h : Nat) : Nat × Bool :=
  match carrierOf cs h with
  | none => (0xFFFFFF, false)
  | some (k, hold) =>
    let x := s.getSta k
    let age := ageAt x.u f
    (age, x.admitted && decide (age ≤ hold))

/-! ### Freeze -/

/-- One input slot frozen at tick f (R65, R66, R69, R71, R72). `read`: its line was read; `bad`: the last read of the line
returned an error (NOTES 127); `all`: a freeze of R67, which takes VALUE from bank L (NOTES 11). A slot unforced since its last
freeze, whose FORCED bit still stands in bank F, takes its bank L value, also where VALID is 0 (R72; NOTES 128); a forced value
is brought to the range's TYPE (NOTES 129). -/
def State.freezeSlot (s : State) (cs : List (Nat × Nat × Nat × Nat)) (r : RangeD) (f h : Nat) (read bad all : Bool) :
    State :=
  let l := s.slotL h
  let b := s.slotF h
  let x := s.slotAge cs f h
  let landed := match carrierOf cs h with | some (k, _) => (s.getSta k).u == some (f - 1) && decide (0 < f) | none => false
  let age := if bad then max x.1 1 else x.1
  let unforced := (s.forced h).isNone && (tget false s.unforced h || qb b.qual 2)
  let take := !bad && (unforced || (read && (all || landed)))
  let valid := !bad && x.2 && qb l.qual 0
  let mid := if bad then b.qual else l.qual
  let v0 := if take then canonValue r.typ l.val else b.val
  let v1 := if valid then v0 else r.subst.getD (if unforced then v0 else b.val)
  let mid := if !valid && r.subst.isSome then mid ||| 8#8 else mid
  let (v2, forced) := match s.forced h with | some v => (canonValue r.typ v, true) | none => (v1, false)
  { s.wrBytes (bankF + 8 * h) (Slot.bytes ⟨v2, mkQual valid (decide (1 ≤ age)) forced mid false, BitVec.ofNat 24 age⟩) with
    unforced := tset false s.unforced h false }

/-- One line of an input range frozen: lines read and the state (R65, R67, R69, R377). -/
def State.freezeLine (cs : List (Nat × Nat × Nat × Nat)) (r : RangeD) (f line : Nat) (all : Bool) (x : Nat × State) :
    Nat × State :=
  let s := x.2
  let read := all || tget false s.dirty line
  let err := read && (tget false s.eccBad line || tget false s.tagBad line)
  let s := if read then { s with dirty := tset false s.dirty line false, eccSeen := tset false s.eccSeen line err } else s
  let bad := tget false s.eccSeen line
  let s := if err then s.inc F.IMG_ECC_UNCORR_L else s
  (x.1 + b2n read, (span (8 * line) 8).foldl (fun t h => t.freezeSlot cs r f h read bad all) s)

/-- The freeze of the classes due at tick f (R65 to R69), with `IMG_FRZ` and the freeze margin (R53; the time it took is
a free value within F_d); counts saturate (NOTES 175). -/
def State.freeze (s : State) (f : Nat) : State :=
  let cs := s.carriers
  let rs := ((List.range 8).filter (s.dueAt f)).flatMap fun c => s.ranges.filter fun r => r.dir = 1 ∧ r.cls = c
  let x := rs.foldl (fun x r => (span (r.start / 8) (r.len / 8)).foldl
    (fun x line => State.freezeLine cs r f line (tget false x.2.firstFrz r.cls) x) x) (0, s)
  let lines := (rs.map fun r => r.len / 8).foldl (· + ·) 0
  let t := (x.2.wf F.IMG_FRZ_LINES (min lines 65535)).wf F.IMG_FRZ_READ (min x.1 65535)
  let t := { t with firstFrz := if s.serving then tclear t.firstFrz (s.dueAt f) else t.firstFrz }
  let (v, t) := t.draw
  t.trackMin F.TICK_SLACK_MIN_FREEZE (v % (t.rf F.TICK_PH0_FREEZE_DONE + 1))

/-! ### Bank L -/

/-- A slot written into bank L by a port sequencer (R63, R69, R81): a write into a line with an uncorrectable error sets
every other byte of the line to 0. -/
def State.wrSlotL (s : State) (h : Nat) (x : Slot) : State :=
  let line := lineOf (bankL + 8 * h)
  let s := if tget false s.eccBad line then
      { s.wrBytes (bankL + 64 * line) (List.replicate 64 0) with eccBad := tset false s.eccBad line false } else s
  { s.wrBytes (bankL + 8 * h) x.bytes with dirty := tset false s.dirty line true }

/-- One received slot: VALUE as received, bits 1, 2 and 7 as 0, AGE the tick of receipt (R63). -/
def State.putL (s : State) (h : Nat) (v : Word) (q : Byte) : State :=
  s.wrSlotL h ⟨v, q &&& 0x79#8, s.tick.setWidth 24⟩

/-- `IMAGE_ECC_TRIP` (R69): an uncorrectable error of bank L belongs to its line; in any other region the supervisor
commands a trip. -/
def execImageEccTrip (addr : Word) (s : State) : Out :=
  .next (
    let a := addr.toNat
    if bankL ≤ a ∧ a < bankL + 0x2800000 then { s with eccBad := tset false s.eccBad (lineOf a) true }
    else if bankL ≤ a ∧ a < bankL + 0x10000000 then s.trip 0x0B
    else s)

/-! ### Output slots in bank F -/

/-- A slot delivered by a gather from bank F, or as an echo (R74, R75, R69). -/
def State.gatherSlot (s : State) (cs : List (Nat × Nat × Nat × Nat)) (f h : Nat) (echo : Bool) : Dword :=
  if !echo then (s.slotF h).word
  else
    let l := s.slotL h
    let x := s.slotAge cs f h
    let stale := decide (1 ≤ x.1)
    if tget false s.eccBad (lineOf (bankL + 8 * h)) then
      (Slot.mk 0 (mkQual false stale false 0 false) (BitVec.ofNat 24 x.1)).word
    else (Slot.mk l.val (mkQual (x.2 && qb l.qual 0) stale false l.qual false) (BitVec.ofNat 24 x.1)).word

/-- What dispatch sends for an output slot: the forced value in place of the program's (R71). -/
def State.dispatchValue (s : State) (h : Nat) : Word :=
  match s.forced h with
  | some v => canonValue ((s.rangeOf h).elim 3 (·.typ)) v
  | none => (s.slotF h).val

end Sys2Proof.Machine
end

