-- ==== Sys2Proof/WellFormed.lean ====
section
/-!
DEFINITION. What makes a command well-formed: the encoding checks of the load-time verifier that one Azwin instruction
can fail by itself (R95 to R97, R101 to R106, R113, R121), and the sizes of what arrives from outside.
-/
namespace Sys2Proof

/-- A check with its code: none where it holds. -/
def checkIf (code : Nat) (ok : Bool) : Option Nat := if ok then none else some code

/-- Whether an immediate of the type takes one word (R97). -/
def K.narrow : K → Bool
  | .i32 => true | .i64 => false | .u32 => true | .u64 => false | .f32 => true | .f64 => false
def IntK.narrow : IntK → Bool
  | .i32 => true | .i64 => false | .u32 => true | .u64 => false
def RealK.narrow : RealK → Bool
  | .f32 => true | .f64 => false

/-- A key that names an object: of the SOT, or of a record (R121). -/
def keyOk (k : Word) : Bool :=
  decide (1 ≤ k.toNat ∧ k.toNat < 0x80000000) || decide (0x80000000 ≤ k.toNat ∧ k.toNat ≤ 0x80000FE0 ∧ k.toNat % 32 = 0)

/-- A key that form 4 reads: an object or a system object (R121). -/
def readKeyOk (k : Word) : Bool := keyOk k || decide (0xFFFFFF00 ≤ k.toNat ∧ k.toNat ≤ 0xFFFFFF03)

/-- An immediate of the width its operand has (R97). -/
def Src.immOk (narrow : Bool) : Src → Bool
  | .imm32 _ => narrow
  | .imm64 _ => !narrow
  | _ => true

/-- A form-7 source, a form-7 destination (R97). -/
def Src.isInd : Src → Bool
  | .ind _ _ _ => true
  | _ => false
def Dst.isInd : Dst → Bool
  | .ind _ _ _ => true
  | _ => false

/-- The key of a form-4 source is one that exists (check 0x0C). -/
def Src.keyed : Src → Bool
  | .sot k _ => readKeyOk k
  | _ => true

/-- The handle of a form-2 destination lies in the image (check 0x08). -/
def Dst.inImage : Dst → Bool
  | .out h _ _ => decide (h.toNat < 5242880)
  | _ => true

/-- The checks of the operands of one instruction: immediate widths (R97: check 0x03), at most one form-7 operand (R110; the
code 0x04 is the model's choice, NOTES 133), handles (0x08), keys (0x0C). -/
def opsCheck (narrow : Bool) (ss : List Src) (d : Option Dst) : Option Nat :=
  checkIf 0x03 (ss.all (·.immOk narrow))
    <|> checkIf 0x04 (decide ((ss.filter (·.isInd)).length + (d.filter (·.isInd)).toList.length ≤ 1))
    <|> checkIf 0x08 (d.all (·.inImage)) <|> checkIf 0x0C (ss.all (·.keyed))

/-- A frame no longer than the wire allows (R186). -/
def Frame.sized (f : Frame) : Bool := decide (f.payload.length ≤ 9150)

/-- The code of the first check a command fails: the verifier's for an Azwin instruction, 0 for the size of what arrives;
none for a well-formed command. -/
def Instr.check (i : Instr) : Option Nat :=
  match i with
  | .registerWrite _ _ size _ => checkIf 0 (decide (1 ≤ size ∧ size ≤ 256))
  | .readClear _ _ size => checkIf 0 (decide (1 ≤ size ∧ size ≤ 256))
  | .tickNumLoRead => none
  | .tickStartLoRead => none
  | .timeNsRead => none
  | .tumbTimeLoRead => none
  | .mirrLastLoRead => none
  | .plxTsqIdRead _ => none
  | .gateVq0Read => none
  | .pdOffRequest _ => none
  | .pdOnRequest _ => none
  | .pdPowerUpDone _ => none
  | .tickRun => none
  | .timeLoad => none
  | .timeIncWrite _ => none
  | .tumbCmdTrip _ => none
  | .rackCmdWake _ => none
  | .rackCmdPark _ => none
  | .retagGo _ _ => none
  | .retagDone => none
  | .canSleep _ => none
  | .tickBoundary => none
  | .freezeDonePoint => none
  | .gather => none
  | .executeWindowStart => none
  | .executeWindowEnd => none
  | .dispatch => none
  | .tailStart _ => none
  | .tickWatchdogExpiry _ => none
  | .tickReferenceLost => none
  | .replyReceive _ f => checkIf 0 f.sized
  | .forceApply => none
  | .imageEccTrip _ => none
  | .deferredCommit => none
  | .twinCompare _ _ => none
  | .injectionIntervalExpiry _ => none
  | .injectionTestTail _ _ => none
  | .engineSramEccError _ => none
  | .bayFaultEvent _ _ => none
  | .bayWindowClear => none
  | .fenceDecision => none
  | .fenceEffect => none
  | .bayDrained _ => none
  | .stringPortUp _ => none
  | .stringPortDown _ => none
  | .cueSend _ => none
  | .relayCueSend _ _ => none
  | .rollcallSend _ => none
  | .rollcallAnswerReceive _ f => checkIf 0 f.sized
  | .delaysReceive f => checkIf 0 f.sized
  | .admissionRequestSend _ _ => none
  | .serviceRspReceive _ f => checkIf 0 f.sized
  | .serviceReqTimeout _ => none
  | .stationAdmit _ _ => none
  | .stationAdmissionLoss _ _ => none
  | .admitSend => none
  | .admitReceive f => checkIf 0 f.sized
  | .probationStart _ _ => none
  | .probationEnd _ _ => none
  | .rejoinAckSet _ => none
  | .heardMapsSend => none
  | .heardMapsReceive maps => checkIf 0 (maps.length == 16)
  | .relayEnd _ => none
  | .forwardedReplyReceive _ f => checkIf 0 f.sized
  | .marionetteForward _ _ f => checkIf 0 f.sized
  | .marionettePortDown _ _ => none
  | .marionetteRollcallReceive _ _ _ f => checkIf 0 f.sized
  | .rollcallAnswerSend _ _ => none
  | .serviceReqRead _ _ f => checkIf 0 f.sized
  | .serviceReqWrite _ _ f => checkIf 0 f.sized
  | .serviceReqCommit _ _ f => checkIf 0 f.sized
  | .serviceReqDiscard _ _ f => checkIf 0 f.sized
  | .marionetteCueReceive _ _ _ f => checkIf 0 f.sized
  | .marionetteReleaseReceive _ _ f => checkIf 0 f.sized
  | .stationSample _ _ _ => none
  | .stationReplySend _ => none
  | .stationApply _ => none
  | .stationHoldExpiry _ => none
  | .objectControllerApply _ => none
  | .pairLaneUp _ => none
  | .pairLaneDown _ => none
  | .heartbeatSend => none
  | .heartbeatReceive f => checkIf 0 f.sized
  | .grantSend => none
  | .grantReceive f => checkIf 0 f.sized
  | .helloSend => none
  | .helloReceive f => checkIf 0 f.sized
  | .pairTripReceive f => checkIf 0 f.sized
  | .leasePoint => none
  | .claimTickStart => none
  | .claimTickEnd => none
  | .handover => none
  | .handoverCheck => none
  | .handoverTick => none
  | .handoverBoundary => none
  | .handoverUnconfirmed => none
  | .startWindowExpiry => none
  | .spareWaitExpiry => none
  | .mirrorStreamStart => none
  | .mirrCommitSend => none
  | .mirrorRecordLimit => none
  | .mirrDataReceive f => checkIf 0 f.sized
  | .mirrCommitReceive f => checkIf 0 f.sized
  | .mirrorApplyDone => none
  | .mirrAckReceive f => checkIf 0 f.sized
  | .recopyStart => none
  | .copyDataSend _ => none
  | .sweepSend => none
  | .sweepReceive f => checkIf 0 f.sized
  | .sweepAnswerReceive f => checkIf 0 f.sized
  | .rehearsalSelect => none
  | .rehearseInReceive f => checkIf 0 f.sized
  | .rehearseOutReceive f => checkIf 0 f.sized
  | .rehearsalCompare => none
  | .triadLinkUp _ => none
  | .triadLinkDown _ => none
  | .tsyncSend => none
  | .tsyncReceive _ f => checkIf 0 f.sized
  | .inputPhaseStart => none
  | .idigReceive _ f => checkIf 0 f.sized
  | .blockExchangeStart => none
  | .iblkReceive _ f => checkIf 0 f.sized
  | .inputVote => none
  | .voteDeadline => none
  | .outputPhaseStart => none
  | .odigReceive _ f => checkIf 0 f.sized
  | .oblkReceive _ f => checkIf 0 f.sized
  | .outputVote => none
  | .triadSelfTrip => none
  | .triadTripReceive _ f => checkIf 0 f.sized
  | .triadForceReceive _ f => checkIf 0 f.sized
  | .forceEffect => none
  | .rsDataReceive _ f => checkIf 0 f.sized
  | .rsCommitReceive _ f => checkIf 0 f.sized
  | .joinCompare => none
  | .coldStartPropose => none
  | .coldStartEnter => none
  | .switchMessageReceive _ f => checkIf 0 f.sized
  | .changeStage => none
  | .stageComplete => none
  | .changeSwitch => none
  | .switchTick => none
  | .switchStopEnd => none
  | .switchResume => none
  | .changeRollback => none
  | .changeComplete => none
  | .versionSend => none
  | .versionReceive f => checkIf 0 f.sized
  | .fieldDieSilence => none
  | .telegramReceive _ _ _ => none
  | .telegramSkewExpiry _ => none
  | .telegramWatchdogExpiry _ => none
  | .passwordLockExpiry => none
  | .tagEccError _ _ => none
  | .powerOnReset => none
  | .resetNAssert => none
  | .tapSysreset => none
  | .bootStepOverrun => none
  | .dbgNonce => none
  | .dbgHold => none
  | .dbgToken _ => none
  | .debugHoldTimeout => none
  | .attest => none
  | .lifecycleSeal => none
  | .lifecycleRetire => none
  | .keyslot => none
  | .securityEngineFault _ => none
  | .plantPortUp _ => none
  | .plantFrameReceive _ _ => none
  | .arpRequest _ _ => none
  | .icmpEchoRequest _ _ => none
  | .lineForward _ _ _ => none
  | .announceReceive _ _ => none
  | .syncReceive _ _ => none
  | .followUpReceive _ _ => none
  | .delayReqSend _ _ => none
  | .delayRespReceive _ _ => none
  | .announceReceiptTimeout _ => none
  | .serviceRequestReceive _ => none
  | .login => none
  | .logout => none
  | .password => none
  | .read => none
  | .write => none
  | .variableWriteApply => none
  | .force => none
  | .unforce => none
  | .slotWrite => none
  | .restart => none
  | .bayClear => none
  | .logRead => none
  | .health => none
  | .sessionIdleTimeout => none
  | .fieldCommandSend => none
  | .fieldCommandReceive c => checkIf 0 (c.outs.length == 32)
  | .fieldApply => none
  | .fieldSample _ => none
  | .fieldStatusReceive st => checkIf 0 (st.slots.length == 64)
  | .fieldHoldExpiry => none
  | .fieldWatchdogExpiry => none
  | .doOverload _ => none
  | .doOvertemp _ => none
  | .doGroupOverload _ => none
  | .doOpenWire _ _ => none
  | .doTestPulse _ => none
  | .doPulseEnd _ _ => none
  | .aoCompliance _ _ => none
  | .aoReadbackFault _ _ => none
  | .lPlusLow _ => none
  | .canFrameReceive _ f => checkIf 0 (decide (f.data.length ≤ 64))
  | .canSendDue _ => none
  | .canTxComplete _ => none
  | .canTxError _ => none
  | .canBusOff _ => none
  | .canBusOffRecovery _ => none
  | .canWake _ _ => none
  | .supplyMonitor _ _ => none
  | .clockMonitor _ => none
  | .pwrFailAssert => none
  | .retainFlushDone => none
  | .retainGenerationCommit => none
  | .rackFrameReceive _ => none
  | .rackFrameSend => none
  | .chainHeadDetect => none
  | .selftestPassDue _ => none
  | .itemAged _ => none
  | .panelUpdateStart => none
  | .panelRecordCommitted => none
  | .panelUpdateDone => none
  | .panelAonRedraw => none
  | .nop _ => none
  | .mov _ d a => opsCheck false [a] (some d)
  | .sel _ _ a b => opsCheck false [a, b] none
  | .cvt _ d a frm _ _ => opsCheck frm.narrow [a] (some d)
  | .satw _ d a _ => opsCheck false [a] (some d)
  | .ldx _ d a _ _ _ => opsCheck false [a] (some d)
  | .stx _ a b _ _ _ => opsCheck false [a, b] none
  | .ldxg _ d a _ _ _ _ => opsCheck false [a] (some d)
  | .ldxk _ d a _ _ _ => opsCheck false [a] (some d)
  | .stxo _ a b h _ _ _ => opsCheck false [a, b] none <|> checkIf 0x08 (decide (h.toNat < 5242880))
  | .add _ k d a b => opsCheck k.narrow [a, b] (some d)
  | .sub _ k d a b => opsCheck k.narrow [a, b] (some d)
  | .mul _ k d a b => opsCheck k.narrow [a, b] (some d)
  | .div _ k d a b => opsCheck k.narrow [a, b] (some d)
  | .rem _ k d a b => opsCheck k.narrow [a, b] (some d)
  | .adds _ k d a b => opsCheck k.narrow [a, b] (some d)
  | .subs _ k d a b => opsCheck k.narrow [a, b] (some d)
  | .muls _ k d a b => opsCheck k.narrow [a, b] (some d)
  | .neg _ k d a => opsCheck k.narrow [a] (some d)
  | .abs _ k d a => opsCheck k.narrow [a] (some d)
  | .min _ k d a b => opsCheck k.narrow [a, b] (some d)
  | .max _ k d a b => opsCheck k.narrow [a, b] (some d)
  | .ceq _ k d a b => opsCheck k.narrow [a, b] (some d)
  | .cne _ k d a b => opsCheck k.narrow [a, b] (some d)
  | .clt _ k d a b => opsCheck k.narrow [a, b] (some d)
  | .cle _ k d a b => opsCheck k.narrow [a, b] (some d)
  | .sqrt _ k d a => opsCheck k.narrow [a] (some d)
  | .lim _ k _ a b => opsCheck k.narrow [a, b] none
  | .and _ d a b => opsCheck false [a, b] (some d)
  | .or _ d a b => opsCheck false [a, b] (some d)
  | .xor _ d a b => opsCheck false [a, b] (some d)
  | .not _ d a => opsCheck false [a] (some d)
  | .shl _ d a b => opsCheck false [a, b] (some d)
  | .shr _ d a b => opsCheck false [a, b] (some d)
  | .sar _ d a b => opsCheck false [a, b] (some d)
  | .rol _ d a b => opsCheck false [a, b] (some d)
  | .btst _ d a b => opsCheck false [a, b] (some d)
  | .bset _ d a b => opsCheck false [a, b] (some d)
  | .bclr _ d a b => opsCheck false [a, b] (some d)
  | .lnot _ d a => opsCheck false [a] (some d)
  | .bfx _ d a pos lenM1 => opsCheck false [a] (some d) <|> checkIf 0x03 (decide (pos.toNat + lenM1.toNat + 1 ≤ 64))
  | .bins _ _ a pos lenM1 => opsCheck false [a] none <|> checkIf 0x03 (decide (pos.toNat + lenM1.toNat + 1 ≤ 64))
  | .popc _ d a => opsCheck false [a] (some d)
  | .qtest _ d a b => opsCheck false [a, b] (some d)
  | .qany _ d a b => opsCheck false [a, b] (some d)
  | .qmrg _ d a b => opsCheck false [a, b] (some d)
  | .br _ off => checkIf 0x05 (off != 0)
  | .brt _ c off => opsCheck false [c] none <|> checkIf 0x05 (off != 0)
  | .brf _ c off => opsCheck false [c] none <|> checkIf 0x05 (off != 0)
  | .loop _ _ count bound n => opsCheck true [count] none <|> checkIf 0x06 (bound != 0 && n != 0)
  | .call _ _ _ _ => none
  | .ret _ _ => none
  | .endTask _ => none
  | .ton _ d a b key => opsCheck false [a, b] (some d) <|> checkIf 0x0C (keyOk key)
  | .tof _ d a b key => opsCheck false [a, b] (some d) <|> checkIf 0x0C (keyOk key)
  | .tp _ d a b key => opsCheck false [a, b] (some d) <|> checkIf 0x0C (keyOk key)
  | .rtrig _ d a key => opsCheck false [a] (some d) <|> checkIf 0x0C (keyOk key)
  | .ftrig _ d a key => opsCheck false [a] (some d) <|> checkIf 0x0C (keyOk key)
  | .ctu _ d va b key => opsCheck false [b] (some d) <|> checkIf 0x04 (decide (va.val + 1 ≤ 63)) <|> checkIf 0x0C (keyOk key)
  | .ctd _ d va b key => opsCheck false [b] (some d) <|> checkIf 0x04 (decide (va.val + 1 ≤ 63)) <|> checkIf 0x0C (keyOk key)
  | .ctud _ d va b key => opsCheck false [b] (some d) <|> checkIf 0x04 (decide (va.val + 3 ≤ 63)) <|> checkIf 0x0C (keyOk key)
  | .hyst _ d a vb key => opsCheck false [a] (some d) <|> checkIf 0x04 (decide (vb.val + 1 ≤ 63)) <|> checkIf 0x0C (keyOk key)
  | .intg _ d a vb key => opsCheck false [a] (some d) <|> checkIf 0x04 (decide (vb.val + 1 ≤ 63)) <|> checkIf 0x0C (keyOk key)
  | .stepgo _ d a b key => opsCheck false [a, b] (some d) <|> checkIf 0x0C (keyOk key)
  | .stepis _ d a key => opsCheck false [a] (some d) <|> checkIf 0x0C (keyOk key)
  | .oreset _ a key => opsCheck false [a] none <|> checkIf 0x0C (keyOk key)
  | .ridx _ d => opsCheck false [] (some d)
  | .rnxt _ => none
  | .ared _ _ a _ k => opsCheck k.narrow [a] none
  | .clock _ d => opsCheck false [] (some d)
  | .tickn _ d => opsCheck false [] (some d)
  | .jrnl _ a vb => opsCheck false [a] none <|> checkIf 0x04 (decide (vb.val + 5 ≤ 63))
  | .tgsend _ a => opsCheck false [a] none
  | .streq _ a => opsCheck false [a] none
  | .panel _ a b => opsCheck false [a, b] none
  | .stobj _ d a b => opsCheck false [a, b] (some d)
  | .stack _ a => opsCheck false [a] none
  | .resetNRelease => none
  | .pwrFailRelease => none
  | .plantPortDown _ => none
  | .serviceLinkUp => none
  | .serviceLinkDown => none
  | .ptpHoldoverExpiry => none
  | .canRxError _ => none
  | .rackFrameGap => none
  | .selftestRequestAged _ => none
  | .aonWaveformDone => none
  | .nvmOperationComplete => none
  | .debugAccess _ size kind data => checkIf 0 (decide (1 ≤ size ∧ size ≤ 256) && (kind == .read || kind == .fetch || data.length == size))
  | .partnerFrameReceive _ f => checkIf 0 f.sized
  | .marionettePowerUp _ _ => none
  | .marionettePowerLoss _ => none
  | .marionettePortUp _ _ => none

/-- A well-formed command. -/
def Instr.wf (i : Instr) : Bool := i.check.isNone

end Sys2Proof
end

