-- ==== Sys2Proof/Machine/Operands.lean ====
section
/-!
DEFINITION. Azwin values (R92 to R94, R57) and the operand forms of R96 and R97: the words they take, what a source reads
from an activation.
-/
namespace Sys2Proof.Machine

/-! ### Computation types (R92) -/

/-- The computation type of an integer operation, of a real one. -/
def intK : IntK → K
  | .i32 => .i32 | .i64 => .i64 | .u32 => .u32 | .u64 => .u64
def realK : RealK → K
  | .f32 => .f32 | .f64 => .f64

end Sys2Proof.Machine

namespace Sys2Proof
open Sys2Proof.Machine

/-- Whether the type is real. -/
def K.real : K → Bool
  | .f32 => true | .f64 => true | _ => false

/-- The format of a real type; binary64 for the others. -/
def K.fmt : K → Fmt
  | .f32 => Sys2Proof.Machine.f32 | _ => Sys2Proof.Machine.f64

/-- Register bits as an integer of the type. -/
def K.toInt (k : K) (v : Dword) : Int :=
  match k with
  | .i32 => (v.setWidth 32).toInt
  | .i64 => v.toInt
  | .u32 => (v.setWidth 32).toNat
  | _ => v.toNat

/-- Smallest and largest integer of the type. -/
def K.lo : K → Int
  | .i32 => -2 ^ 31 | .i64 => -2 ^ 63 | _ => 0
def K.hi : K → Int
  | .i32 => 2 ^ 31 - 1 | .i64 => 2 ^ 63 - 1 | .u32 => 2 ^ 32 - 1 | _ => 2 ^ 64 - 1

/-- An integer result in a register: it wraps, and is extended as R92 says. -/
def K.ofInt (k : K) (x : Int) : Dword :=
  match k with
  | .i32 => (BitVec.ofInt 32 x).signExtend 64
  | .u32 => (BitVec.ofInt 32 x).setWidth 64
  | _ => BitVec.ofInt 64 x

/-- An integer result clamped to the range of the type. -/
def K.ofIntSat (k : K) (x : Int) : Dword := k.ofInt (max k.lo (min k.hi x))

/-- The bits of a real operand. -/
def K.bits (k : K) (v : Dword) : Nat := if k = .f32 then v.toNat % 2 ^ 32 else v.toNat

/-- A real operand. -/
def K.toReal (k : K) (v : Dword) : Flt := k.fmt.read (k.bits v)

/-! ### Memory types (R93, R94) -/

/-- Bytes of a memory type. -/
def MemType.size : MemType → Nat
  | .bool => 1 | .int8 => 1 | .int16 => 2 | .int32 => 4 | .int64 => 8 | .uint8 => 1 | .uint16 => 2 | .uint32 => 4
  | .uint64 => 8 | .real32 => 4 | .real64 => 8 | .time => 8 | .quality => 1

/-- A memory value widened to 64 bits. -/
def MemType.widen (t : MemType) (v : Nat) : Dword :=
  match t with
  | .bool => BitVec.ofNat 64 (b2n (v % 256 != 0))
  | .int8 => (BitVec.ofNat 8 v).signExtend 64
  | .int16 => (BitVec.ofNat 16 v).signExtend 64
  | .int32 => (BitVec.ofNat 32 v).signExtend 64
  | t => BitVec.ofNat 64 (v % 2 ^ (8 * t.size))

/-- A register value narrowed to a memory type. -/
def MemType.narrow (t : MemType) (v : Dword) : Nat :=
  match t with
  | .bool => b2n (v != 0)
  | t => v.toNat % 2 ^ (8 * t.size)

end Sys2Proof

namespace Sys2Proof.Machine

/-- A slot VALUE widened by its slot type. -/
def slotWiden (t : SlotType) (v : Word) : Dword :=
  match t with
  | .bit => BitVec.ofNat 64 (b2n (v != 0))
  | .u16 => (v.setWidth 16).setWidth 64
  | .s16 => (v.setWidth 16).signExtend 64
  | .u32 => v.setWidth 64
  | .s32 => v.signExtend 64
  | .f32 => v.setWidth 64

/-- A register value stored in a slot of a type (R58, R94). -/
def slotNarrow (t : SlotType) (v : Dword) : Word := canonValue (slotTyCode t) (v.setWidth 32)

/-- A part of a slot (R97). -/
def slotPart (w : Dword) (t : SlotType) (p : SlotPart) : Dword :=
  let x := Slot.ofWord w
  match p with
  | .value => slotWiden t x.val
  | .quality => x.qual.setWidth 64
  | .age => x.age.setWidth 64
  | .raw => w

end Sys2Proof.Machine

namespace Sys2Proof

/-! ### Words of an instruction (R95, R97) -/

/-- Extension words of a source and of a destination. -/
def Src.words : Src → Nat
  | .reg _ => 0 | .short _ => 0 | .imm32 _ => 1 | .imm64 _ => 2 | .gath _ _ _ => 1 | .var _ _ => 1 | .sot _ _ => 2
  | .record _ _ => 1 | .const _ _ => 1 | .ind _ _ _ => 1
def Dst.words : Dst → Nat
  | .reg _ => 0 | .out _ _ _ => 1 | .var _ _ => 1 | .record _ _ => 1 | .ind _ _ _ => 1

end Sys2Proof

namespace Sys2Proof.Machine

/-! ### Activations and their operands -/

/-- An instruction under way on an engine: the device, the engine, its activation, the task, and where it goes next. -/
structure X where
  s : State
  e : Nat
  a : Act
  t : TaskImg
  d : TaskDef
  nxt : Nat

/-- The frame that executes. -/
def Act.frame (a : Act) : AFrame := a.frames.headD {}

/-- The executing frame changed. -/
def Act.updFrame (a : Act) (f : AFrame → AFrame) : Act :=
  match a.frames with
  | [] => a
  | x :: t => { a with frames := f x :: t }

/-- A value register (R88). -/
def X.v (x : X) (r : Nat) : Dword := tget 0 x.a.frame.v r

/-- A value register set. -/
def X.setV (x : X) (r : Nat) (v : Dword) : X :=
  { x with a := x.a.updFrame fun f => { f with v := tset 0 f.v r v } }

/-- A FAULT condition (R111, R112, R148). -/
def X.fault (x : X) (code : Nat) : X := { x with a := x.a.setFault code x.a.pc }

/-- `n` bytes of the local copies, of the current record's block. -/
def X.local (x : X) (a n : Nat) : Nat := ofLe ((List.range n).map fun i => tget 0 x.a.lmem (a + i))
def X.inBlock (x : X) (a n : Nat) : Nat := ofLe ((List.range n).map fun i => tget 0 x.a.rmem (a + i))

/-- Bytes put into the local copies. -/
def putLocal : Tab Byte → Nat → List Byte → Tab Byte
  | m, _, [] => m
  | m, a, b :: t => putLocal (tset 0 m a b) (a + 1) t

/-- The byte address of the current record (R140). -/
def X.recordAt (x : X) : Nat := match x.t.arrd with | some d => varBase + d.rectab + x.a.rcd * d.recsz | none => varBase

/-- A gathered position (R91, R140): 16,128 and above are window slots of an ARRAY task. -/
def X.gathered (x : X) (pos : Nat) : Dword :=
  if x.t.array ∧ 16128 ≤ pos then (x.a.win[pos - 16128]?).getD 0 else (x.a.gath[pos]?).getD 0

/-- A constant of the pool, read as a memory type; an index at or beyond the entry count reads 0 (NOTES 134). -/
def X.pool (x : X) (i : Nat) (ty : MemType) : Dword := ty.widen ((x.t.pool[i]?).getD 0).toNat

/-- The context of a task set on an engine (R367). -/
def X.ctx (x : X) : Nat := 4 * x.e + x.d.set

/-- Whether a handle lies in a list of (first, count) runs. -/
def inRuns (rs : List (Nat × Nat)) (h : Nat) : Bool := rs.any fun r => decide (r.1 ≤ h ∧ h < r.1 + r.2)

/-- A form-7 read (R97, R110, R111): bank F itself, through the gate; a refusal reads zeros and acts by its policy. -/
def X.readInd (x : X) (r : Nat) (ty : SlotType) (p : SlotPart) : Dword × X :=
  let h := (x.v r).toNat
  if !inRuns x.t.indr h then (0, x.fault 5)
  else
    let g := x.s.gate x.ctx (bankF + 8 * h) 8 .read
    if g.1 then (slotPart (x.s.slotF h).word ty p, x)
    else
      let y := { x with s := g.2 }
      (0, if x.s.faultsTask x.ctx then y.fault 10 else y)

/-! ### State blocks and system objects as form 4 reads them (R122, R133, R147 to R154) -/

/-- A state block (R122). -/
structure Blk where
  t0 : Dword
  t1 : Dword
  n : Word
  flags : Byte
  kind : Byte
  key : Word
  owner : Word
deriving DecidableEq, Repr

/-- A block from its 32 bytes. -/
def Blk.ofBytes (l : List Byte) : Blk where
  t0 := BitVec.ofNat 64 (leAt l 0 8)
  t1 := BitVec.ofNat 64 (leAt l 8 8)
  n := BitVec.ofNat 32 (leAt l 16 4)
  flags := BitVec.ofNat 8 (leAt l 20 1)
  kind := BitVec.ofNat 8 (leAt l 21 1)
  key := BitVec.ofNat 32 (leAt l 24 4)
  owner := BitVec.ofNat 32 (leAt l 28 4)

/-- The 32 bytes of a block. -/
def Blk.bytes (b : Blk) : List Byte :=
  leBytes 8 b.t0.toNat ++ leBytes 8 b.t1.toNat ++ leBytes 4 b.n.toNat ++ [b.flags, b.kind, 0, 0] ++
    leBytes 4 b.key.toNat ++ leBytes 4 b.owner.toNat

/-- Flags of R122: INIT, Q, M, MD, RUN, GAP, RESTORED. -/
def Blk.flag (b : Blk) (i : Nat) : Bool := b.flags.getLsbD i

/-- A flag set or cleared. -/
def Blk.setFlag (b : Blk) (i : Nat) (on : Bool) : Blk :=
  { b with flags := BitVec.ofNat 8 (b.flags.toNat - b2n (b.flag i) * 2 ^ i + b2n on * 2 ^ i) }

/-- The SOT keys of the admitted program, each with its kind and the task that owns it. -/
def Image.sotKeys (g : Image) : List (Nat × Nat × Nat) :=
  g.tasks.flatMap fun t => t.img.objs.map fun o => (o.1, o.2, t.img.taskId)

/-- The index of a key among the admitted keys (R121). -/
def Image.sotIndex (g : Image) (key : Nat) : Nat :=
  ((g.sotKeys.map (·.1)).eraseDups.filter fun k => decide (k < key)).length

/-- Where the state block of a key lies: its object line, or its place in the current record (R121, R122). -/
def X.blkAt (x : X) (key : Nat) : Nat :=
  if 0x80000000 ≤ key then x.recordAt + (key - 0x80000000) else objBase + 64 * x.s.img.sotIndex key

/-- The local copy of a state block (R91); of a record object, in the record's block. -/
def X.blk (x : X) (key : Nat) : Blk :=
  Blk.ofBytes ((List.range 32).map fun i => tget 0 (if 0x80000000 ≤ key then x.a.rmem else x.a.lmem) (x.blkAt key + i))

/-- What field `f` of a block of a kind reads (R133). -/
def Blk.field (b : Blk) (kind : Nat) (now : Dword) (f : Nat) : Dword :=
  let timer := decide (1 ≤ kind ∧ kind ≤ 3)
  match f with
  | 0 => BitVec.ofNat 64 (b2n (b.flag 1))
  | 1 => BitVec.ofNat 64 (b2n (decide (b.n.toInt ≤ 0)))
  | 2 =>
    if timer then (if b.flag 4 then (if (now - b.t0).toInt ≤ b.t1.toInt then now - b.t0 else b.t1) else 0)
    else if b.flag 0 then now - b.t0 else 0
  | 3 => if kind = 11 then b.n.setWidth 64 else b.n.signExtend 64
  | 4 => b.t0
  | 5 => b.t0
  | 6 => BitVec.ofNat 64 (b2n (b.flag 0))
  | 7 => BitVec.ofNat 64 (b2n (b.flag 5))
  | _ => 0

/-- The key under which a task or shard is remembered. -/
def taskKey (task shard : Nat) : Nat := 8 * task + shard

/-- Fields of the task object (R148); a rehearsal reads FAULT_NOW too as its sample block has it (R291). -/
def X.taskField (x : X) (f : Nat) : Dword :=
  let r := tget {} x.a.snap.tasks (taskKey x.a.task x.a.shard)
  match f with
  | 0 => BitVec.ofNat 64 (b2n r.fault)
  | 1 => BitVec.ofNat 64 r.faultPc
  | 2 => BitVec.ofNat 64 r.faultCode
  | 3 => BitVec.ofNat 64 (b2n (x.a.snap.faultNow.getD x.a.fault.isSome))
  | 4 => BitVec.ofNat 64 (b2n r.first)
  | 5 => BitVec.ofNat 64 x.a.shard
  | 6 => r.acts
  | _ => 0

/-- The kind under which the task declares a key: in OBJS, or in the list of the ARRD (R121, R123). -/
def X.kindOf (x : X) (key : Nat) : Nat :=
  if 0x80000000 ≤ key then (x.t.arrd.bind fun d => aget? (key - 0x80000000) d.objs).getD 0
  else (aget? key x.t.objs).getD 0

/-- What form 4 reads: a system object as sampled at the freeze (R147 to R149, R153, R154), or a state block. -/
def X.readSot (x : X) (key : Word) (f : Byte) : Dword :=
  let f := f.toNat
  if key = 0xFFFFFF00#32 then x.taskField f
  else if key = 0xFFFFFF01#32 then (x.a.snap.device[f]?).getD 0
  else if key = 0xFFFFFF02#32 then (tget 0 x.a.snap.tg f).setWidth 64
  else if key = 0xFFFFFF03#32 then BitVec.ofNat 64 ((x.a.snap.items[f]?).getD 0)
  else (x.blk key.toNat).field (x.kindOf key.toNat) x.a.tf f

/-- A source operand read (R97): its value, and what the read did. -/
def X.rd (x : X) (o : Src) : Dword × X :=
  match o with
  | .reg r => (x.v r, x)
  | .short v => (v.setWidth 64, x)
  | .imm32 v => (v.setWidth 64, x)
  | .imm64 v => (v, x)
  | .gath pos ty p => (slotPart (x.gathered pos.toNat) ty p, x)
  | .var off ty => (ty.widen (x.local (varBase + off.toNat) ty.size), x)
  | .sot key f => (x.readSot key f, x)
  | .record off ty => (ty.widen (x.inBlock (x.recordAt + off.toNat) ty.size), x)
  | .const i ty => (x.pool i.toNat ty, x)
  | .ind r ty p => x.readInd r ty p

end Sys2Proof.Machine
end

