-- ==== Sys2Proof/Machine/Flags.lean ====
section
/-!
DEFINITION. What a write of an activation does: the digest of R161, the staging of R160, the local copies of R91, the
FAULT conditions of R111 and R141, and the destination forms of R97.
-/
namespace Sys2Proof.Machine

/-! ### Digest and staging -/

/-- Size codes of R161. -/
def sizeCode : Nat → Nat
  | 1 => 0 | 2 => 1 | 4 => 2 | _ => 3

/-- Words folded into the running digest (R161). -/
def X.fold (x : X) (ws : List Dword) : X := { x with a := { x.a with digest := crc64Words x.a.digest ws } }

/-- Word 0 of a folded write (R161). -/
def writeWord (a n : Nat) : Dword := BitVec.ofNat 64 (a % 2 ^ 32 + sizeCode n * 2 ^ 32)

/-- One byte staged in the entry of its line, a new entry going to the end (R160). -/
def stageByte : List Staged → Nat → Byte → List Staged
  | [], a, b => [.line (a / 64 * 64) [(a, b)]]
  | .line l bs :: t, a, b => if l = a / 64 * 64 then .line l (aput a b bs) :: t else .line l bs :: stageByte t a b
  | .eff e :: t, a, b => .eff e :: stageByte t a b

/-- Bytes staged from address `a` on. -/
def stageBytes : List Staged → Nat → List Byte → List Staged
  | st, _, [] => st
  | st, a, b :: t => stageBytes (stageByte st a b) (a + 1) t

/-- Bytes staged, the new entries counted. -/
def X.stage (x : X) (a : Nat) (l : List Byte) : X :=
  let st := stageBytes x.a.staged a l
  { x with a := { x.a with staged := st, total := x.a.total + (st.length - x.a.staged.length) } }

/-- A write of `n` bytes staged and folded. -/
def X.store (x : X) (a n v : Nat) : X := (x.fold [writeWord a n, BitVec.ofNat 64 v]).stage a (leBytes n v)

/-- Bytes put into the local copies (R91). -/
def X.keep (x : X) (a : Nat) (l : List Byte) : X := { x with a := { x.a with lmem := putLocal x.a.lmem a l } }

/-- Bytes put into the current record's block (R91). -/
def X.keepRec (x : X) (a : Nat) (l : List Byte) : X := { x with a := { x.a with rmem := putLocal x.a.rmem a l } }

/-- A staged effect (R109, R160, R161): its code and its arguments folded. -/
def X.effect (x : X) (code : Nat) (args : List Dword) (f : Effect) : X :=
  let y := x.fold (BitVec.ofNat 64 (code * 2 ^ 36) :: args)
  { y with a := { y.a with staged := y.a.staged ++ [.eff f], total := y.a.total + 1 } }

/-! ### Destinations -/

/-- Whether a shard may write [p, p + n): inside its part of every WSET entry that the write meets, those of the record table
apart (R141). `p`: a handle, or a byte offset in the variable space. -/
def X.inPart (x : X) (isVar : Bool) (p n : Nat) : Bool :=
  x.t.shards ≤ 1 || x.t.wset.all fun w =>
    w.isVar != isVar || !decide (w.start < p + n ∧ p < w.start + w.len) ||
    (isVar && x.t.arrd.elim false fun d =>
      decide (w.start < d.rectab + d.nrec * d.recsz ∧ d.rectab < w.start + w.len)) ||
    (let q := w.len / x.t.shards
     decide (w.start + x.a.shard * q ≤ max p w.start ∧ min (p + n) (w.start + w.len) ≤ w.start + (x.a.shard + 1) * q))

/-- A write to an output slot (R58, R91, R97, R161). -/
def X.wrSlot (x : X) (h : Nat) (ty : SlotType) (qual : Bool) (v : Dword) : X :=
  if !x.inPart false h 1 then x.fault 4
  else if qual then
    let q := v.toNat % 256 &&& 0x78
    let y := x.store (bankF + 8 * h + 4) 1 q
    { y with a := { y.a with qw := tset 0 y.a.qw h (1 + q) } }
  else x.store (bankF + 8 * h) 4 (slotNarrow ty v).toNat

/-- A write to a variable, with the local copy where VARS holds it (R91, R94). -/
def X.wrVar (x : X) (off : Nat) (ty : MemType) (v : Dword) : X :=
  if !x.inPart true off ty.size then x.fault 4
  else
    let w := ty.narrow v
    let y := x.store (varBase + off) ty.size w
    if inRuns x.t.vars off then y.keep (varBase + off) (leBytes ty.size w) else y

/-- A write to a field of the current record (R91, R140). -/
def X.wrRec (x : X) (off : Nat) (ty : MemType) (v : Dword) : X :=
  let w := ty.narrow v
  (x.store (x.recordAt + off) ty.size w).keepRec (x.recordAt + off) (leBytes ty.size w)

/-- Whether a handle lies in the output slots of WSET. -/
def X.inWset (x : X) (h : Nat) : Bool := x.t.wset.any fun w => !w.isVar && decide (w.start ≤ h ∧ h < w.start + w.len)

/-- A form-7 write: dropped with FAULT outside WSET (R111). -/
def X.wrInd (x : X) (r : Nat) (ty : SlotType) (qual : Bool) (v : Dword) : X :=
  let h := (x.v r).toNat
  if x.inWset h then x.wrSlot h ty qual v else x.fault 6

/-- A destination operand written (R97). -/
def X.wr (x : X) (o : Dst) (v : Dword) : X :=
  match o with
  | .reg r => x.setV r v
  | .out h ty q => x.wrSlot h.toNat ty q v
  | .var off ty => x.wrVar off.toNat ty v
  | .record off ty => x.wrRec off.toNat ty v
  | .ind r ty q => x.wrInd r ty q v

/-- A state block written: its local copy, its bytes staged, the four words folded with their addresses (R91, R161). -/
def X.wrBlk (x : X) (key : Nat) (b : Blk) : X :=
  let a := x.blkAt key
  let l := b.bytes
  let y := (x.fold ((List.range 4).flatMap fun i => [writeWord (a + 8 * i) 8, BitVec.ofNat 64 (leAt l (8 * i) 8)])).stage a l
  if 0x80000000 ≤ key then y.keepRec a l else y.keep a l

/-! ### Two-operand shapes -/

/-- d ← f(A). -/
def X.op1 (x : X) (d : Dst) (a : Src) (f : Dword → Dword) : X :=
  let p := x.rd a
  p.2.wr d (f p.1)

/-- d ← f(A, B). -/
def X.op2 (x : X) (d : Dst) (a b : Src) (f : Dword → Dword → Dword) : X :=
  let p := x.rd a
  let q := p.2.rd b
  q.2.wr d (f p.1 q.1)

/-- d ← f(A, B) with FAULT where `f` says so (R111). -/
def X.op2f (x : X) (d : Dst) (a b : Src) (code : Nat) (f : Dword → Dword → Dword × Bool) : X :=
  let p := x.rd a
  let q := p.2.rd b
  let r := f p.1 q.1
  (if r.2 then q.2.fault code else q.2).wr d r.1

end Sys2Proof.Machine
end

