-- ==== Sys2Proof/Machine/Commit.lean ====
section
/-!
DEFINITION. Commits (R70, R91, R109, R165, R269), the retain copies they touch (R490, R491), the event journal (R152), the
queues of the engines (R40, R41, R157), and how one instruction runs on an engine (R104, R142, R162, R163).
-/
namespace Sys2Proof.Machine

/-! ### Retained items -/

/-- Retain copies in list order: home address, length, copy address (R490). -/
def retainWalk (g : Image) : Nat → List (Nat × Nat) → List (Nat × Nat × Nat)
  | _, [] => []
  | c, (kind, key) :: t =>
    let h : Nat × Nat := if kind = 1 then (objBase + 64 * g.sotIndex key, 64)
      else match g.varmap.find? fun v => v.key == key with
        | some v => (varBase + v.off, v.len)
        | none => (varBase, 0)
    (h.1, h.2, c) :: retainWalk g (c + (h.2 + 63) / 64 * 64) t

/-- The retained items of the image in force. -/
def State.retained (s : State) : List (Nat × Nat × Nat) := retainWalk s.img (retBase + 64) s.img.retain

/-- The retain duplicate of a write of `n` bytes at `a` (R491). -/
def State.dupRetain (s : State) (a n : Nat) : State :=
  s.retained.foldl (fun t r =>
    let lo := max a r.1
    let hi := min (a + n) (r.1 + r.2.1)
    if lo < hi then t.retWrite (r.2.2 + (lo - r.1)) (t.rdBytes lo (hi - lo)) else t) s

/-- A write to variable space or to the state object table with its dirty bits and its retain copies (R81, R491). -/
def State.homeWrite (s : State) (a : Nat) (l : List Byte) : State :=
  ((s.wrBytes a l).markDirty a l.length).dupRetain a l.length

/-! ### The event journal -/

/-- A record put into the next position of the ring (R152). -/
def State.journal (s : State) (rec : List Byte) : State :=
  { s.wrBytes (jrnlBase + 64 * (s.jrnlNext % 524288)) rec with jrnlNext := (s.jrnlNext + 1) % 524288 }

/-- A device record (R152, R373): source 0x02. -/
def State.journalDev (s : State) (code : Nat) (data : List Byte) : State :=
  s.journal (leBytes 8 s.n ++ leBytes 4 0 ++ leBytes 2 code ++ [0, 2] ++ slice data 0 48)

/-! ### Effects -/

/-- A request of a self-test item (R154, R501, R502): ignored while a pass of the item is queued or running. -/
def State.itemRequest (s : State) (k : Nat) : State :=
  let i := tget {} s.hlth.items k
  if (i.pending && (i.req || i.started)) || k = 0 || 10 < k then s
  else
    let s := (s.wf (F.HLTH_ITEM_STATUS (k - 1)) 1).wfb (F.HLTH_ITEM_REQ (k - 1)) true
    { s with hlth := { s.hlth with
      items := tset {} s.hlth.items k { i with pending := true, req := true, started := false, left := 0, failed := false, reqAt := s.mono } } }

/-- A telegram connection of the image. -/
def State.tgDef (s : State) (send : Bool) (c : Nat) : Option TgDef :=
  s.img.telegrams.find? fun t => t.num == c && t.send == send

/-- Where a connection's variable run begins (R488). -/
def State.tgAddr (s : State) (t : TgDef) : Nat := varBase + (s.img.varmap.find? fun v => v.key == t.varkey).elim 0 (·.off)

/-- The variable run of a send connection as it stands (R153). -/
def State.tgRun (s : State) (c : Nat) : List Byte := (s.tgDef true c).elim [] fun t => s.rdBytes (s.tgAddr t) t.len

/-- A `TGSEND` of activation `own` (task, f) takes effect: one telegram per activation, so a later tick's commit of the same activation
sends no further one (R153). -/
def State.stageTelegram (s : State) (own : Nat × Nat) (c : Nat) : State :=
  if aget? (own.1, c) s.sched.tgSent = some own.2 ∧ (aget? c s.tgSend).isNone then s
  else { s with
    tgSend := aput c (s.tgRun c) s.tgSend
    sched := { s.sched with tgSent := aput (own.1, c) own.2 s.sched.tgSent } }

/-- A staged effect of activation `own` takes effect (R109, R151 to R155). -/
def State.doEffect (s : State) (own : Nat × Nat) (e : Effect) : State :=
  match e with
  | .jrnl rec =>
    let g := s.gate 51 (jrnlBase + 64 * (s.jrnlNext % 524288)) 64 .write
    if g.1 then s.journal rec else g.2
  | .tgsend c => s.stageTelegram own c
  | .streq i => s.itemRequest i
  | .panel m v =>
    let m := m &&& 0xFFFFFFFFFFFF0000#64
    { s with pan := { s.pan with r := (s.pan.r &&& ~~~m) ||| (v &&& m) } }
  | .stack k => s.updSta k fun x => { x with ackPend := true }

/-! ### Lines -/

/-- One slot of a staged bank F line committed (R58, R70, R91; QUALITY bit 7 NOTES 177). -/
def State.commitSlot (s : State) (qw : Tab Nat) (bs : List (Nat × Byte)) (h : Nat) : State :=
  let a := bankF + 8 * h
  if bs.all fun b => !decide (a ≤ b.1 ∧ b.1 < a + 8) then s
  else
    let old := s.slotF h
    let v := if (aget? a bs).isSome then BitVec.ofNat 32 (ofLe ((List.range 4).map fun i => (aget? (a + i) bs).getD 0))
      else old.val
    s.wrSlotF h ⟨v, mkQual true false (qb old.qual 2) (BitVec.ofNat 8 (tget 0 qw h - 1)) false, 0⟩

/-- One staged line committed through the gate; the Bool says that a refusal faults the task (R91, R367, R374). -/
def State.commitLine (s : State) (ctx : Nat) (qw : Tab Nat) (base : Nat) (bs : List (Nat × Byte)) : Bool × State :=
  let c := if sotBase ≤ base ∧ base < jrnlBase then 51 else ctx
  let g := s.gate c base 64 .write
  if !g.1 then (s.faultsTask c, g.2)
  else if bankF ≤ base ∧ base < varBase then
    (false, (span ((base - bankF) / 8) 8).foldl (fun t h => t.commitSlot qw bs h) s)
  else (false, bs.foldl (fun t b => t.homeWrite b.1 [b.2]) s)

/-- Staged entries of activation `own` committed in order; a trip at the gate stops them. -/
def State.commitStaged (s : State) (ctx : Nat) (own : Nat × Nat) (qw : Tab Nat) (st : List Staged) : Bool × State :=
  let r := st.foldl (fun (r : Bool × State) e =>
    match e with
    | .line base bs =>
      if r.2.dev = .tripped then r
      else
        let g := r.2.commitLine ctx qw base bs
        (r.1 || g.1, g.2)
    | .eff _ => r) (false, s)
  (r.1, st.foldl (fun t e =>
    match e with
    | .eff f => if t.dev = .tripped then t else t.doEffect own f
    | .line _ _ => t) r.2)

/-! ### Engines and their queues -/

/-- Whether the twin of an engine runs in TWIN mode (R11, `SYS_MODE.SPLIT`). -/
def State.twinMode (s : State) (e : Nat) : Bool := !nbit (s.rf F.SYS_MODE_SPLIT) (e / 2)

/-- The leading engine of the queue that engine `e` belongs to (R157, R159). -/
def State.leader (s : State) (e : Nat) : Nat := if s.twinMode e then e / 2 * 2 else e

/-- The engines of a queue. -/
def State.queueOf (s : State) (e : Nat) : List Nat := if s.twinMode e then [e / 2 * 2, e / 2 * 2 + 1] else [e]

/-- Class of an activation's task. -/
def State.actClass (s : State) (a : Act) : Nat := (s.img.tasks[a.task]?).elim 0 (·.img.cls)

/-- What an engine holds, as `SEQ_ENGn` shows it (R177). -/
def State.engRegs (s : State) (e : Nat) : State :=
  match (s.getEng e).cur with
  | none => (s.wfb (F.SEQ_ENG_RUNNING e) false).wfb (F.SEQ_ENG_FAULT_NOW e) false
  | some a => (((s.wf (F.SEQ_ENG_TASK e) a.task).wf (F.SEQ_ENG_CLASS e) (s.actClass a)).wfb (F.SEQ_ENG_RUNNING e)
      (!a.done)).wfb (F.SEQ_ENG_FAULT_NOW e) a.fault.isSome

/-- The order of a queue (R40, R172): class, then task table, then shard. -/
def State.queueKey (s : State) (a : Act) : Nat := (s.actClass a * 1024 + a.task) * 8 + a.shard

/-- The ready activation that runs next. -/
def State.nextReady (s : State) (l : List Act) : Option Act :=
  l.foldl (fun b a => match b with
    | none => some a
    | some x => if s.queueKey a < s.queueKey x then some a else b) none

/-- The leading engine of a placement code (R156). -/
def codeEngine (code : Nat) : Nat := if code < 0x10 then 2 * code else code - 0x10

/-! ### Commit -/

/-- REHEARSE_OUT of a rehearsed activation that commits (R289). -/
def State.rehearseOut (s : State) (a : Act) : State :=
  if s.mirr.rehTask = some (a.task, a.f.toNat) then
    { s.sendPair ((s.frame 0x25 0 0 0xFF 0 (beBytes 2 a.task ++ beBytes 2 0 ++ beBytes 4 a.total ++
        beBytes 8 a.f.toNat ++ beBytes 8 a.digest.toNat))) with mirr := { s.mirr with rehTask := none } }
  else s

/-- What the end of an activation on the queue of engine `e` leaves: the task's record (R112, R148), the finish of its flight
(R45); a moved part has then committed on its new twin or engine (R169). -/
def State.finishAct (s : State) (e : Nat) (a : Act) : State :=
  let k := taskKey a.task a.shard
  let r := tget {} s.tasks k
  let here := s.sched.placed.any fun p => p.task == a.task && p.shard == a.shard && codeEngine p.code == e
  let r' : TaskRec := {
    fault := a.fault.isSome
    faultPc := a.fault.elim 0xFFFFFFFF (·.2)
    faultCode := a.fault.elim 0 (·.1)
    first := false
    acts := r.acts + 1 }
  let s := { s with
    tasks := tset {} s.tasks k r'
    sched := if s.sched.newPlaced.isSome || !here then s.sched
      else { s.sched with moved := s.sched.moved.filter fun m => m != (a.task, a.shard) }
    flights := s.flights.map fun (x : Flight) =>
      if x.task = a.task ∧ x.shard = a.shard ∧ x.f = a.f.toNat then { x with finished := some (s.n, s.permil, a.digest) }
      else x }
  s.rehearseOut a

/-- The staged entries of an activation written under the leading engine's context, and with the last segment its end
(R70, R109, R165). -/
def State.commitAct (s : State) (e : Nat) (a : Act) : State :=
  let j := (s.img.tasks[a.task]?).elim 0 (·.set)
  let r := s.commitStaged (4 * e + j) (a.task, a.f.toNat) a.qw a.staged
  let a := if r.1 then a.setFault 10 a.pc else a
  if r.2.dev = .tripped then r.2
  else if a.done then r.2.finishAct e a
  else if r.1 then (s.queueOf e).foldl (fun t i =>
    (t.updEng i fun g => { g with cur := g.cur.map fun (x : Act) => x.setFault 10 x.pc }).engRegs i) r.2
  else r.2

/-- Between F_d and D of a tick (R269). -/
def State.commitSpan (s : State) : Bool := s.reached (s.rf F.TICK_PH0_FREEZE_DONE) && !s.reached (s.rf F.TICK_PH0_DISPATCH)

/-- A segment leaves staging: outside the span of F_d to D it waits there until F_d (R269; NOTES 14). -/
def State.commitOrDefer (s : State) (e : Nat) (a : Act) : State :=
  if !s.commitSpan then { s with deferred := s.deferred ++ [(e, a)] } else s.commitAct e a

/-- The activation after a segment has left: nothing staged, the next segment open. -/
def Act.nextSeg (a : Act) : Act := { a with staged := [], seg := a.seg + 1, check := false }

/-! ### Starting, suspending, leaving (R40, R41, R157, R159) -/

/-- The next ready activation of an engine started or resumed (R40, R41, R88). On a SPLIT engine a shard with nothing to run
commits at once and the next one starts (R142). -/
def State.startNextOf : Nat → State → Nat → State
  | 0, s, e => s.engRegs e
  | n + 1, s, e =>
    let g := s.getEng e
    match g.cur with
    | some _ => s
    | none =>
      match s.nextReady g.ready with
      | none => s.engRegs e
      | some a =>
        let t := s.updEng e fun x => { x with cur := some a, ready := x.ready.erase a }
        if a.done && !s.twinMode e && s.dev != .tripped then
          ((t.commitOrDefer e a).updEng e fun x => { x with cur := none }).startNextOf n e
        else t.engRegs e

/-- The same with the fuel that the queue needs. -/
def State.startNext (s : State) (e : Nat) : State := s.startNextOf ((s.getEng e).ready.length + 1) e

/-- An activation leaves its engines; with the window open the next one starts (R40). -/
def State.freeQueue (s : State) (e : Nat) : State :=
  (s.queueOf e).foldl (fun t i =>
    let t := t.updEng i fun x => { x with cur := none }
    if t.sched.execOpen then t.startNext i else t.engRegs i) s

/-- The engines of a queue put what they execute back among the ready. -/
def State.putBack (s : State) (e : Nat) : State :=
  (s.queueOf e).foldl (fun t i => (t.updEng i fun g => { g with cur := none, ready := g.ready ++ g.cur.toList }).engRegs i) s

/-- Whether an activation is suspended at the end of the window: its deadline is later, and its last instruction has not
retired nor does it wait for a comparison. -/
def State.suspends (s : State) (a : Act) : Bool :=
  !a.done && !a.check && !s.flights.any fun x => x.task == a.task && x.shard == a.shard && x.f == a.f.toNat && x.deadline == s.n

/-- The engines of a queue stand at one instruction boundary: alone, or the trailing engine has retired what the leading one
has. -/
def State.level (s : State) (e : Nat) : Bool :=
  match (s.getEng (s.leader e)).cur with
  | none => false
  | some a => (s.queueOf e).all fun i => (s.getEng i).cur.any fun b => b.steps == a.steps && b.done == a.done && b.check == a.check

/-- A queue suspended once its engines stand at one boundary (R41, R159). -/
def State.settle (s : State) (e : Nat) : State :=
  match (s.getEng (s.leader e)).cur with
  | none => s
  | some a => if s.suspends a && s.level e then s.putBack e else s

/-- A queue that waits at a checkpoint when the window starts is ready again with the others (R40). -/
def State.rejoinQueue (s : State) (e : Nat) : State :=
  match (s.getEng (s.leader e)).cur with
  | none => s
  | some a => if a.check && !a.done && s.level e then s.putBack e else s

/-- Whether engine `e` may execute: in the window; the trailing engine of a twin whatever the window, as far as the leading one
has come (R40, R41, R159). -/
def State.mayRun (s : State) (e : Nat) : Bool :=
  match (s.getEng e).cur with
  | none => false
  | some a => !a.done && !a.check &&
    (if s.twinMode e && e % 2 == 1 then
      (s.getEng (e - 1)).cur.any fun l => decide (a.steps < l.steps) || l.done || l.check
    else s.sched.execOpen && !s.handsOver)

/-! ### Running one instruction -/

/-- The back edge of a LOOP whose body ends at `pc` (R104). -/
def loopBack : Nat → AFrame → AFrame × Nat → AFrame × Nat
  | 0, _, r => r
  | n + 1, g, r =>
    match r.1.loops with
    | [] => r
    | l :: t =>
      if r.2 ≠ l.last then r
      else if l.idx + 1 < l.cnt then
        ({ r.1 with v := tset 0 r.1.v l.ctr (BitVec.ofNat 64 (l.idx + 1)), loops := { l with idx := l.idx + 1 } :: t }, l.first)
      else loopBack n g ({ r.1 with v := tset 0 r.1.v l.ctr (BitVec.ofNat 64 l.cnt), loops := t }, r.2)

/-- The back edges taken at the word the engine reaches. -/
def Act.loops (a : Act) : Act :=
  let r := loopBack (a.frame.loops.length) a.frame (a.frame, a.pc)
  { a.updFrame (fun _ => r.1) with pc := r.2 }

/-- Whether a record runs (R143). -/
def X.masked (x : X) (r : Nat) : Bool :=
  match x.t.arrd.bind (·.mask) with
  | none => true
  | some m => nbit (tget 0 x.a.lmem (varBase + m + r / 8)).toNat (r % 8)

/-- The first record from `r` on that runs. -/
def X.findRecord (x : X) (r : Nat) : Option Nat := (span r (x.a.recEnd - r)).find? x.masked

/-- A read of the gather/scatter unit for an engine task: zeros, and FAULT where its policy says so, on a refusal
(R372, R374). -/
def X.gathRead (x : X) (a n : Nat) : List Byte × X :=
  let g := x.s.gate x.ctx a n .read
  if g.1 then (x.s.rdBytes a n, x)
  else
    let y := { x with s := g.2 }
    (List.replicate n 0, if x.s.faultsTask x.ctx then y.fault 10 else y)

/-- Bytes [a, a + n) gathered line by line (NOTES 15) and put where `put` says. -/
def X.loadTo (put : X → Nat → List Byte → X) (x : X) (a n : Nat) : X :=
  if n = 0 then x
  else (span (a / 64) ((a + n - 1) / 64 - a / 64 + 1)).foldl (fun y l =>
    let lo := max a (64 * l)
    let p := y.gathRead lo (min (a + n) (64 * l + 64) - lo)
    put p.2 lo p.1) x

/-- Bytes gathered into the local copies. -/
def X.load (x : X) (a n : Nat) : X := x.loadTo X.keep a n

/-- A record streamed in and started: its block, its window, a fresh frame (R140, R142, R144). -/
def X.startRecord (x : X) (r : Nat) : X :=
  match x.t.arrd with
  | none => x
  | some d =>
    let y := { x with a := { x.a with part := .record, rcd := r, frames := [{}], pc := 0, win := [], rmem := [] } }
    let y := y.loadTo X.keepRec (varBase + d.rectab + r * d.recsz) d.recsz
    (List.range d.swinCount).foldl (fun z j =>
      let p := z.gathRead (bankF + 8 * (d.swinBase + r * d.swinStride + j)) 8
      { p.2 with a := { p.2.a with win := p.2.a.win ++ [BitVec.ofNat 64 (ofLe p.1)] } }) y

/-- The identity of a reduction (R145). -/
def redIdentity (op : RedOp) (k : K) : Dword :=
  match op with
  | .sum => 0
  | .count => 0
  | .min => if k.real then BitVec.ofNat 64 k.fmt.inf else k.ofInt k.hi
  | .max => if k.real then BitVec.ofNat 64 (k.fmt.signed true k.fmt.inf) else k.ofInt k.lo

/-- A reduction as the shard holds it. -/
def X.reduction (x : X) (n : Nat) : Dword :=
  match aget? n x.a.redu with
  | some v => v
  | none => match x.t.areds.find? fun r => r.1 == n with
    | some r => redIdentity r.2.1 r.2.2
    | none => Config.noReduction n

/-- The epilogue started with the reductions in its first registers (R142, R146), or the shard's end. -/
def X.startEpilogue (x : X) : X :=
  match x.t.arrd.bind (·.epi) with
  | none => { x with a := { x.a with done := true } }
  | some f =>
    let fn := x.t.funcs.getD f ⟨0, 0, 0⟩
    let v : Tab Dword := (List.range fn.nargs).foldl (fun t i => tset 0 t i (x.reduction i)) []
    { x with a := { x.a with part := .epi, frames := [{ v := v, func := f }], pc := fn.entry } }

/-- The shard goes on at record `r` or later, with the checkpoints of R163 in TWIN mode. -/
def X.goRecords (x : X) (r : Nat) (twin : Bool) : X :=
  match x.findRecord r with
  | some q =>
    let y := x.startRecord q
    if twin && decide (x.t.rseg ≤ x.a.recsSince) then { y with a := { y.a with check := true, recsSince := 1 } }
    else { y with a := { y.a with recsSince := y.a.recsSince + 1 } }
  | none =>
    let y := x.startEpilogue
    if twin && !y.a.done then { y with a := { y.a with check := true, recsSince := 0 } } else y

/-- The end of a part: `stop` for END, which skips the rest of the range (R142). -/
def X.endPart (x : X) (stop : Bool) (twin : Bool) : X :=
  match x.a.part with
  | .plain => { x with a := { x.a with done := true } }
  | .epi => { x with a := { x.a with done := true } }
  | .pro => if stop then { x with a := { x.a with done := true } } else x.goRecords x.a.rcd twin
  | .record => x.goRecords (if stop then x.a.recEnd else x.a.rcd + 1) twin

/-- What follows an instruction on engine `e` that leaves activation `b` (R41, R142, R159, R162 to R164). -/
def State.retire (s : State) (e : Nat) (array ended : Bool) (b : Act) : State :=
  let t := s.updEng e fun g => { g with cur := some b }
  if s.twinMode e then (if s.sched.execOpen then t.engRegs e else (t.engRegs e).settle e)
  else if b.done then (t.commitOrDefer e b).freeQueue e
  else if array && ended then
    ((t.commitOrDefer e b).updEng e fun g => { g with cur := g.cur.map Act.nextSeg }).engRegs e
  else t.engRegs e

/-- One instruction of `words` words on engine `e`, if the engine executes (R40, R41, R91, R104). In TWIN mode a task without
ARRAY whose write would open the 1,025th entry takes its checkpoint first (R162; NOTES 182). On a SPLIT engine a record that ends
commits (R164; NOTES 16), and a task that ends commits and leaves. -/
def runInstr (e : Nat) (words : Nat) (body : X → X) (s : State) : State :=
  match (s.getEng e).cur with
  | none => s
  | some a =>
    match s.img.tasks[a.task]? with
    | none => s
    | some d =>
      if !s.mayRun e then s
      else
        let y := body { s := s, e := e, a := a, t := d.img, d := d, nxt := a.pc + words }
        if y.s.dev = .tripped then y.s
        else if s.twinMode e && !d.img.array && decide (1024 < y.a.staged.length) then
          (s.updEng e fun g => { g with cur := some { a with check := true } }).engRegs e
        else
          let ended := decide (y.a.part ≠ a.part ∨ y.a.rcd ≠ a.rcd)
          let b := if ended || y.a.done then y.a else Act.loops { y.a with pc := y.nxt }
          y.s.retire e d.img.array ended { b with steps := a.steps + 1 }

/-- An Azwin instruction: one that the verifier refuses reaches no engine (R113). -/
def azwin (check : Option Nat) (e : Nat) (words : Nat) (body : X → X) (s : State) : Out :=
  match check with
  | some c => .fault (.verifierRefuses c)
  | none => .next (runInstr e words body s)

end Sys2Proof.Machine
end

