-- ==== Sys2Proof/Machine/Alu.lean ====
section
/-!
DEFINITION. Arithmetic and comparison (R99, R100), logic, bits and quality (R101).
-/
namespace Sys2Proof.Machine

/-! ### Values -/

/-- A real result of a real type, a 64-bit register (R92, R100). -/
def realOut (v : Nat) : Dword := BitVec.ofNat 64 v

/-- An operation by type: exact on integers and wrapping, on reals rounded once (R100). -/
def arith (k : K) (fi : Int → Int → Int) (fr : Fmt → Flt → Flt → Nat) (a b : Dword) : Dword :=
  if k.real then realOut (fr k.fmt (k.toReal a) (k.toReal b)) else k.ofInt (fi (k.toInt a) (k.toInt b))

/-- Sum, difference, product (R99, R100). -/
def addV (k : K) : Dword → Dword → Dword := arith k (· + ·) fun f a b => f.add a b
def subV (k : K) : Dword → Dword → Dword := arith k (· - ·) fun f a b => f.add a b.neg
def mulV (k : K) : Dword → Dword → Dword := arith k (· * ·) fun f a b => f.mul a b

/-- Quotient, truncated for integers; an integer division by 0 gives 0 and FAULT (R100, R111). -/
def divV (k : K) (a b : Dword) : Dword × Bool :=
  if k.real then (realOut (k.fmt.div (k.toReal a) (k.toReal b)), false)
  else if k.toInt b = 0 then (0, true)
  else (k.ofInt ((k.toInt a).tdiv (k.toInt b)), false)

/-- Remainder with the sign of the dividend; by 0 it gives 0 and FAULT (R100, R111). -/
def remV (k : K) (a b : Dword) : Dword × Bool :=
  if k.toInt b = 0 then (0, true) else (k.ofInt ((k.toInt a).tmod (k.toInt b)), false)

/-- Saturating forms (R100). -/
def addsV (k : K) (a b : Dword) : Dword := k.ofIntSat (k.toInt a + k.toInt b)
def subsV (k : K) (a b : Dword) : Dword := k.ofIntSat (k.toInt a - k.toInt b)
def mulsV (k : K) (a b : Dword) : Dword := k.ofIntSat (k.toInt a * k.toInt b)

/-- A real result that only touches the sign; a NaN gives the canonical NaN (R100). -/
def signOp (f : Fmt) (g : Flt → Flt) (v : Nat) : Nat := f.write (g (f.read v))

/-- Negation (R100). -/
def negV (k : K) (a : Dword) : Dword :=
  if k.real then realOut (signOp k.fmt Flt.neg (k.bits a)) else k.ofInt (-(k.toInt a))

/-- Magnitude of a real. -/
def Flt.mag : Flt → Flt
  | .nan => .nan
  | .inf _ => .inf false
  | .fin _ m e => .fin false m e

/-- Absolute value (R100). -/
def absV (k : K) (a : Dword) : Dword :=
  if k.real then realOut (signOp k.fmt Flt.mag (k.bits a)) else k.ofInt ((k.toInt a).natAbs : Nat)

/-- Smaller and larger of two (R100). -/
def minV (k : K) (a b : Dword) : Dword :=
  if k.real then realOut (k.fmt.min (k.bits a) (k.bits b)) else k.ofInt (min (k.toInt a) (k.toInt b))
def maxV (k : K) (a b : Dword) : Dword :=
  if k.real then realOut (k.fmt.max (k.bits a) (k.bits b)) else k.ofInt (max (k.toInt a) (k.toInt b))

/-- A truth value in a register. -/
def truth (b : Bool) : Dword := BitVec.ofNat 64 (b2n b)

/-- Comparisons (R100). -/
def eqV (k : K) (a b : Dword) : Bool :=
  if k.real then k.fmt.eq (k.bits a) (k.bits b) else decide (k.toInt a = k.toInt b)
def ltV (k : K) (a b : Dword) : Bool :=
  if k.real then k.fmt.lt (k.bits a) (k.bits b) else decide (k.toInt a < k.toInt b)
def leV (k : K) (a b : Dword) : Bool :=
  if k.real then k.fmt.le (k.bits a) (k.bits b) else decide (k.toInt a ≤ k.toInt b)

/-- Square root (R99, R100). -/
def sqrtV (k : K) (a : Dword) : Dword := realOut (k.fmt.sqrt (k.toReal a))

/-- A shift count: 64 and above shift everything out (R101). -/
def shamt (b : Dword) : Nat := min b.toNat 64

/-- Bit `B mod 64` (R101). -/
def bitOf (b : Dword) : Nat := b.toNat % 64

/-- A field's mask at bit 0 (R101). -/
def fieldMask (lenM1 : BitVec 6) : Dword := BitVec.ofNat 64 (2 ^ (lenM1.toNat + 1) - 1)

/-- QMRG (R101). -/
def qmrgV (a b : Dword) : Dword := ((a ||| b) &&& 0xFE) ||| (a &&& b &&& 0x01)

/-! ### Words -/

/-- Words of an instruction with these operands (R95). -/
def words2 (d : Dst) (a b : Src) : Nat := 1 + a.words + b.words + d.words
def words1 (d : Dst) (a : Src) : Nat := 1 + a.words + d.words

/-! ### Arithmetic and comparison -/

/-- `ADD` (R99, R100). -/
def execAdd (e : Fin 12) (k : K) (d : Dst) (a b : Src) (s : State) : Out :=
  azwin (opsCheck k.narrow [a, b] (some d)) e (words2 d a b) (fun x => x.op2 d a b (addV k)) s

/-- `SUB` (R99, R100). -/
def execSub (e : Fin 12) (k : K) (d : Dst) (a b : Src) (s : State) : Out :=
  azwin (opsCheck k.narrow [a, b] (some d)) e (words2 d a b) (fun x => x.op2 d a b (subV k)) s

/-- `MUL` (R99, R100). -/
def execMul (e : Fin 12) (k : K) (d : Dst) (a b : Src) (s : State) : Out :=
  azwin (opsCheck k.narrow [a, b] (some d)) e (words2 d a b) (fun x => x.op2 d a b (mulV k)) s

/-- `MIN` (R99, R100). -/
def execMin (e : Fin 12) (k : K) (d : Dst) (a b : Src) (s : State) : Out :=
  azwin (opsCheck k.narrow [a, b] (some d)) e (words2 d a b) (fun x => x.op2 d a b (minV k)) s

/-- `MAX` (R99, R100). -/
def execMax (e : Fin 12) (k : K) (d : Dst) (a b : Src) (s : State) : Out :=
  azwin (opsCheck k.narrow [a, b] (some d)) e (words2 d a b) (fun x => x.op2 d a b (maxV k)) s

/-- `ADDS` (R99, R100). -/
def execAdds (e : Fin 12) (k : IntK) (d : Dst) (a b : Src) (s : State) : Out :=
  azwin (opsCheck k.narrow [a, b] (some d)) e (words2 d a b) (fun x => x.op2 d a b (addsV (intK k))) s

/-- `SUBS` (R99, R100). -/
def execSubs (e : Fin 12) (k : IntK) (d : Dst) (a b : Src) (s : State) : Out :=
  azwin (opsCheck k.narrow [a, b] (some d)) e (words2 d a b) (fun x => x.op2 d a b (subsV (intK k))) s

/-- `MULS` (R99, R100). -/
def execMuls (e : Fin 12) (k : IntK) (d : Dst) (a b : Src) (s : State) : Out :=
  azwin (opsCheck k.narrow [a, b] (some d)) e (words2 d a b) (fun x => x.op2 d a b (mulsV (intK k))) s

/-- `DIV` (R99, R100, R111). -/
def execDiv (e : Fin 12) (k : K) (d : Dst) (a b : Src) (s : State) : Out :=
  azwin (opsCheck k.narrow [a, b] (some d)) e (words2 d a b) (fun x => x.op2f d a b 1 (divV k)) s

/-- `REM` (R99, R100, R111). -/
def execRem (e : Fin 12) (k : IntK) (d : Dst) (a b : Src) (s : State) : Out :=
  azwin (opsCheck k.narrow [a, b] (some d)) e (words2 d a b) (fun x => x.op2f d a b 1 (remV (intK k))) s

/-- `NEG` (R99, R100). -/
def execNeg (e : Fin 12) (k : K) (d : Dst) (a : Src) (s : State) : Out :=
  azwin (opsCheck k.narrow [a] (some d)) e (words1 d a) (fun x => x.op1 d a (negV k)) s

/-- `ABS` (R99, R100). -/
def execAbs (e : Fin 12) (k : K) (d : Dst) (a : Src) (s : State) : Out :=
  azwin (opsCheck k.narrow [a] (some d)) e (words1 d a) (fun x => x.op1 d a (absV k)) s

/-- `SQRT` (R99, R100). -/
def execSqrt (e : Fin 12) (k : RealK) (d : Dst) (a : Src) (s : State) : Out :=
  azwin (opsCheck k.narrow [a] (some d)) e (words1 d a) (fun x => x.op1 d a (sqrtV (realK k))) s

/-- `LIM` (R99, R100). -/
def execLim (e : Fin 12) (k : K) (d : Fin 64) (a b : Src) (s : State) : Out :=
  azwin (opsCheck k.narrow [a, b] none) e (1 + a.words + b.words)
    (fun x => x.op2 (.reg d) a b fun p q => maxV k p (minV k (x.v d) q)) s

/-- `CEQ` (R99, R100). -/
def execCeq (e : Fin 12) (k : K) (d : Dst) (a b : Src) (s : State) : Out :=
  azwin (opsCheck k.narrow [a, b] (some d)) e (words2 d a b) (fun x => x.op2 d a b fun p q => truth (eqV k p q)) s

/-- `CNE` (R99, R100). -/
def execCne (e : Fin 12) (k : K) (d : Dst) (a b : Src) (s : State) : Out :=
  azwin (opsCheck k.narrow [a, b] (some d)) e (words2 d a b) (fun x => x.op2 d a b fun p q => truth (!eqV k p q)) s

/-- `CLT` (R99, R100). -/
def execClt (e : Fin 12) (k : K) (d : Dst) (a b : Src) (s : State) : Out :=
  azwin (opsCheck k.narrow [a, b] (some d)) e (words2 d a b) (fun x => x.op2 d a b fun p q => truth (ltV k p q)) s

/-- `CLE` (R99, R100). -/
def execCle (e : Fin 12) (k : K) (d : Dst) (a b : Src) (s : State) : Out :=
  azwin (opsCheck k.narrow [a, b] (some d)) e (words2 d a b) (fun x => x.op2 d a b fun p q => truth (leV k p q)) s

/-! ### Logic, bits and quality -/

/-- `AND` (R101). -/
def execAnd (e : Fin 12) (d : Dst) (a b : Src) (s : State) : Out :=
  azwin (opsCheck false [a, b] (some d)) e (words2 d a b) (fun x => x.op2 d a b fun p q => p &&& q) s

/-- `OR` (R101). -/
def execOr (e : Fin 12) (d : Dst) (a b : Src) (s : State) : Out :=
  azwin (opsCheck false [a, b] (some d)) e (words2 d a b) (fun x => x.op2 d a b fun p q => p ||| q) s

/-- `XOR` (R101). -/
def execXor (e : Fin 12) (d : Dst) (a b : Src) (s : State) : Out :=
  azwin (opsCheck false [a, b] (some d)) e (words2 d a b) (fun x => x.op2 d a b fun p q => p ^^^ q) s

/-- `SHL` (R101). -/
def execShl (e : Fin 12) (d : Dst) (a b : Src) (s : State) : Out :=
  azwin (opsCheck false [a, b] (some d)) e (words2 d a b) (fun x => x.op2 d a b fun p q => p <<< shamt q) s

/-- `SHR` (R101). -/
def execShr (e : Fin 12) (d : Dst) (a b : Src) (s : State) : Out :=
  azwin (opsCheck false [a, b] (some d)) e (words2 d a b) (fun x => x.op2 d a b fun p q => p >>> shamt q) s

/-- `SAR` (R101). -/
def execSar (e : Fin 12) (d : Dst) (a b : Src) (s : State) : Out :=
  azwin (opsCheck false [a, b] (some d)) e (words2 d a b) (fun x => x.op2 d a b fun p q => p.sshiftRight (shamt q)) s

/-- `ROL` (R101). -/
def execRol (e : Fin 12) (d : Dst) (a b : Src) (s : State) : Out :=
  azwin (opsCheck false [a, b] (some d)) e (words2 d a b) (fun x => x.op2 d a b fun p q => p.rotateLeft (bitOf q)) s

/-- `BTST` (R101). -/
def execBtst (e : Fin 12) (d : Dst) (a b : Src) (s : State) : Out :=
  azwin (opsCheck false [a, b] (some d)) e (words2 d a b) (fun x => x.op2 d a b fun p q => truth (p.getLsbD (bitOf q))) s

/-- `BSET` (R101). -/
def execBset (e : Fin 12) (d : Dst) (a b : Src) (s : State) : Out :=
  azwin (opsCheck false [a, b] (some d)) e (words2 d a b) (fun x => x.op2 d a b fun p q => p ||| BitVec.twoPow 64 (bitOf q)) s

/-- `BCLR` (R101). -/
def execBclr (e : Fin 12) (d : Dst) (a b : Src) (s : State) : Out :=
  azwin (opsCheck false [a, b] (some d)) e (words2 d a b) (fun x => x.op2 d a b fun p q => p &&& ~~~(BitVec.twoPow 64 (bitOf q))) s

/-- `QTEST` (R101). -/
def execQtest (e : Fin 12) (d : Dst) (a b : Src) (s : State) : Out :=
  azwin (opsCheck false [a, b] (some d)) e (words2 d a b) (fun x => x.op2 d a b fun p q => truth (decide (p &&& q &&& 0xFF = q &&& 0xFF))) s

/-- `QANY` (R101). -/
def execQany (e : Fin 12) (d : Dst) (a b : Src) (s : State) : Out :=
  azwin (opsCheck false [a, b] (some d)) e (words2 d a b) (fun x => x.op2 d a b fun p q => truth (decide (p &&& q &&& 0xFF ≠ 0))) s

/-- `QMRG` (R101). -/
def execQmrg (e : Fin 12) (d : Dst) (a b : Src) (s : State) : Out :=
  azwin (opsCheck false [a, b] (some d)) e (words2 d a b) (fun x => x.op2 d a b fun p q => qmrgV p q) s

/-- `NOT` (R101). -/
def execNot (e : Fin 12) (d : Dst) (a : Src) (s : State) : Out :=
  azwin (opsCheck false [a] (some d)) e (words1 d a) (fun x => x.op1 d a fun p => ~~~p) s

/-- `LNOT` (R101). -/
def execLnot (e : Fin 12) (d : Dst) (a : Src) (s : State) : Out :=
  azwin (opsCheck false [a] (some d)) e (words1 d a) (fun x => x.op1 d a fun p => truth (decide (p = 0))) s

/-- `POPC` (R101). -/
def execPopc (e : Fin 12) (d : Dst) (a : Src) (s : State) : Out :=
  azwin (opsCheck false [a] (some d)) e (words1 d a) (fun x => x.op1 d a fun p => BitVec.ofNat 64 (popCount 64 p.toNat)) s

/-- `BFX` (R101). -/
def execBfx (e : Fin 12) (d : Dst) (a : Src) (pos lenM1 : BitVec 6) (s : State) : Out :=
  azwin (opsCheck false [a] (some d) <|> checkIf 0x03 (decide (pos.toNat + lenM1.toNat + 1 ≤ 64))) e (words1 d a + 1) (fun x => x.op1 d a fun p => (p >>> pos.toNat) &&& fieldMask lenM1) s

/-- `BINS` (R101). -/
def execBins (e : Fin 12) (d : Fin 64) (a : Src) (pos lenM1 : BitVec 6) (s : State) : Out :=
  azwin (opsCheck false [a] none <|> checkIf 0x03 (decide (pos.toNat + lenM1.toNat + 1 ≤ 64))) e (2 + a.words) (fun x => x.op1 (.reg d) a fun p =>
    (x.v d &&& ~~~(fieldMask lenM1 <<< pos.toNat)) ||| ((p &&& fieldMask lenM1) <<< pos.toNat)) s

end Sys2Proof.Machine
end

