-- ==== Sys2Proof/Machine/Net.lean ====
section
/-!
DEFINITION. Frames that the device sends of its own on the plant ports and the service port (R400, R402, R404, R411, R416, R417): their
addresses, VLAN tag, UDP datagram and checksum, and the FIFO of the port they leave by.
-/
namespace Sys2Proof.Machine

/-! ### Addresses (R400 to R402, R426) -/

/-- LINE mode (R402). -/
def State.lineMode (s : State) : Bool := s.rfb F.SYS_MODE_PLANT

/-- The port whose addresses a port answers for (R401, R402). -/
def State.addrPort (s : State) (p : PlantPort) : Nat := if s.lineMode then 0 else ppIdx p

/-- The own MAC and IPv4 addresses at a port. -/
def State.ownMac (s : State) (p : PlantPort) : BitVec 48 :=
  BitVec.ofNat 48 (s.rf (F.PL_MAC_HI_MAC_HI (s.addrPort p)) * 2 ^ 32 + s.rf (F.PL_MAC_LO_MAC_LO (s.addrPort p)))
def State.ownIp (s : State) (p : PlantPort) : Nat := s.rf (F.PL_IP_IP (s.addrPort p))

/-- Whether a plant port runs and is up. -/
def State.plantUp (s : State) (p : PlantPort) : Bool := s.rfb (F.PL_CTRL_EN (ppIdx p)) && s.rfb (F.PL_STAT_UP (ppIdx p))

/-! ### Datagrams -/

/-- The Internet checksum of bytes (RFC 1071). -/
def inetSum (l : List Byte) : Nat :=
  let x := (List.range ((l.length + 1) / 2)).foldl (fun n i => n + beAt (l ++ [0]) (2 * i) 2) 0
  let y := x % 65536 + x / 65536
  65535 - (y % 65536 + y / 65536)

/-- A checksum as UDP carries it: one that comes out 0 goes out as all ones (RFC 768). -/
def udpCarry (n : Nat) : Nat := if n = 0 then 65535 else n

/-- The tag that a plant port sends with (R400). -/
def State.txTag (s : State) (p : PlantPort) : Option (BitVec 12 × BitVec 3) :=
  if s.rfb (F.PL_VLAN_TAGGED (ppIdx p)) then
    some (BitVec.ofNat 12 (s.rf (F.PL_VLAN_VID (ppIdx p))), BitVec.ofNat 3 (s.rf (F.PL_VLAN_PCP (ppIdx p)))) else none

/-- A UDP datagram with its checksum over the pseudo-header, the header and the payload (R400). -/
def udpOut (tag : Option (BitVec 12 × BitVec 3)) (src dst : Word) (sport dport : BitVec 16) (payload : List Byte) : NetOut :=
  let len := beBytes 2 (8 + payload.length)
  let sum := inetSum (beBytes 4 src.toNat ++ beBytes 4 dst.toNat ++ [0, 17] ++ len ++ beBytes 2 sport.toNat ++ beBytes 2 dport.toNat ++
    len ++ [0, 0] ++ payload)
  ⟨tag, some ⟨src, dst, sport, dport, BitVec.ofNat 16 (udpCarry sum)⟩, payload⟩

/-- A datagram from a plant port. -/
def State.plantUdp (s : State) (p : PlantPort) (dst : Word) (sport dport : BitVec 16) (payload : List Byte) : NetOut :=
  udpOut (s.txTag p) (BitVec.ofNat 32 (s.ownIp p)) dst sport dport payload

/-- Bytes of an Ethernet frame with `n` bytes after its EtherType (R400). -/
def etherLen (tagged : Bool) (n : Nat) : Nat := max 64 (18 + 4 * b2n tagged + n)

/-- Bytes of a frame of the device's own. -/
def NetOut.len (d : NetOut) : Nat := etherLen d.tag.isSome ((if d.udp.isSome then 28 else 0) + d.payload.length)

/-- A frame of `len` bytes handed to a plant port: in LINE mode it stands in the port's FIFO behind what waits there (R402). -/
def State.sendPlant (s : State) (p : PlantPort) (len : Nat) (x : Tx) : State :=
  if !s.plantUp p then s
  else if s.lineMode then (s.send x).updPlant p fun q => { q with fifo := q.fifo + 8 * len }
  else s.send x

/-! ### Service responses (R416, R417) -/

/-- The bytes of a response: the 20-byte header with RESPONSE set, then the body (R417). -/
def SvcRsp.bytes (r : SvcRsp) : List Byte :=
  beBytes 1 0xA7 ++ beBytes 1 1 ++ beBytes 1 r.op ++ beBytes 1 1 ++ beBytes 4 r.reqId.toNat ++ beBytes 8 r.session.toNat ++
  beBytes 2 r.body.length ++ beBytes 1 r.status ++ beBytes 1 r.detail ++ r.body

/-- The datagram of a response, from the interface that the request came by (R416). -/
def State.svcOut (s : State) (r : SvcRsp) : NetOut :=
  if r.iface = 0 then udpOut none (BitVec.ofNat 32 (s.rf F.SVC_IP_IP)) r.ip 21056 r.port r.bytes
  else s.plantUdp (if r.iface = 1 then .a else .b) r.ip 21056 r.port r.bytes

/-- A response sent; on a plant port it enters the port's FIFO (R402, R416). -/
def State.sendSvc (s : State) (r : SvcRsp) : State :=
  let d := s.svcOut r
  let s := s.send (.svc r d)
  if r.iface = 0 ∨ !s.lineMode then s
  else s.updPlant (if r.iface = 1 then .a else .b) fun q => { q with fifo := q.fifo + 8 * d.len }

end Sys2Proof.Machine
end

