-- ==== Sys2Proof/Machine/Crypto.lean ====
section
/-!
DEFINITION. The cryptographic functions that the spec names and leaves to their standards (R357, R381; NOTES 157): SHA-384, HMAC and
PBKDF2 over it, ECDSA on P-384. They are irreducible: a proof cites what they are called with, not what they compute.
-/
namespace Sys2Proof.Machine

/-! ### SHA-384 (FIPS 180-4) -/

/-- The round constants. -/
def shaK : List Dword :=
  [0x428A2F98D728AE22, 0x7137449123EF65CD, 0xB5C0FBCFEC4D3B2F, 0xE9B5DBA58189DBBC, 0x3956C25BF348B538,
   0x59F111F1B605D019, 0x923F82A4AF194F9B, 0xAB1C5ED5DA6D8118, 0xD807AA98A3030242, 0x12835B0145706FBE,
   0x243185BE4EE4B28C, 0x550C7DC3D5FFB4E2, 0x72BE5D74F27B896F, 0x80DEB1FE3B1696B1, 0x9BDC06A725C71235,
   0xC19BF174CF692694, 0xE49B69C19EF14AD2, 0xEFBE4786384F25E3, 0x0FC19DC68B8CD5B5, 0x240CA1CC77AC9C65] ++
  [0x2DE92C6F592B0275, 0x4A7484AA6EA6E483, 0x5CB0A9DCBD41FBD4, 0x76F988DA831153B5, 0x983E5152EE66DFAB,
   0xA831C66D2DB43210, 0xB00327C898FB213F, 0xBF597FC7BEEF0EE4, 0xC6E00BF33DA88FC2, 0xD5A79147930AA725,
   0x06CA6351E003826F, 0x142929670A0E6E70, 0x27B70A8546D22FFC, 0x2E1B21385C26C926, 0x4D2C6DFC5AC42AED,
   0x53380D139D95B3DF, 0x650A73548BAF63DE, 0x766A0ABB3C77B2A8, 0x81C2C92E47EDAEE6, 0x92722C851482353B] ++
  [0xA2BFE8A14CF10364, 0xA81A664BBC423001, 0xC24B8B70D0F89791, 0xC76C51A30654BE30, 0xD192E819D6EF5218,
   0xD69906245565A910, 0xF40E35855771202A, 0x106AA07032BBD1B8, 0x19A4C116B8D2D0C8, 0x1E376C085141AB53,
   0x2748774CDF8EEB99, 0x34B0BCB5E19B48A8, 0x391C0CB3C5C95A63, 0x4ED8AA4AE3418ACB, 0x5B9CCA4F7763E373,
   0x682E6FF3D6B2B8A3, 0x748F82EE5DEFB2FC, 0x78A5636F43172F60, 0x84C87814A1F0AB72, 0x8CC702081A6439EC] ++
  [0x90BEFFFA23631E28, 0xA4506CEBDE82BDE9, 0xBEF9A3F7B2C67915, 0xC67178F2E372532B, 0xCA273ECEEA26619C,
   0xD186B8C721C0C207, 0xEADA7DD6CDE0EB1E, 0xF57D4F7FEE6ED178, 0x06F067AA72176FBA, 0x0A637DC5A2C898A6,
   0x113F9804BEF90DAE, 0x1B710B35131C471B, 0x28DB77F523047D84, 0x32CAAB7B40C72493, 0x3C9EBE0A15C9BEBC,
   0x431D67C49C100D4C, 0x4CC5D4BECB3E42B6, 0x597F299CFC657E2A, 0x5FCB6FAB3AD6FAEC, 0x6C44198C4A475817]

/-- The initial hash value. -/
def shaInit : List Dword :=
  [0xCBBB9D5DC1059ED8, 0x629A292A367CD507, 0x9159015A3070DD17, 0x152FECD8F70E5939, 0x67332667FFC00B31,
   0x8EB44A8768581511, 0xDB0C2E0D64F98FA7, 0x47B5481DBEFA4FA4]

/-- The functions of a round. -/
def shaSum0 (x : Dword) : Dword := x.rotateRight 28 ^^^ x.rotateRight 34 ^^^ x.rotateRight 39
def shaSum1 (x : Dword) : Dword := x.rotateRight 14 ^^^ x.rotateRight 18 ^^^ x.rotateRight 41
def shaSig0 (x : Dword) : Dword := x.rotateRight 1 ^^^ x.rotateRight 8 ^^^ (x >>> 7)
def shaSig1 (x : Dword) : Dword := x.rotateRight 19 ^^^ x.rotateRight 61 ^^^ (x >>> 6)

/-- One round: the eight working words `v`, round constant `k`, schedule word `w`. -/
def shaRound (v : List Dword) (k w : Dword) : List Dword :=
  match v with
  | [a, b, c, d, e, f, g, h] =>
    let t1 := h + shaSum1 e + ((e &&& f) ^^^ (~~~e &&& g)) + k + w
    let t2 := shaSum0 a + ((a &&& b) ^^^ (a &&& c) ^^^ (b &&& c))
    [t1 + t2, a, b, c, d + t1, e, f, g]
  | l => l

/-- The rounds that are left, `w` the next 16 words of the schedule. -/
def shaRounds : List Dword → List Dword → List Dword → List Dword
  | [], _, v => v
  | k :: ks, w, v =>
    let g (i : Nat) : Dword := w.getD i 0
    shaRounds ks (w.drop 1 ++ [shaSig1 (g 14) + g 9 + shaSig0 (g 1) + g 0]) (shaRound v k (g 0))

/-- A block of 128 bytes taken into the hash value. -/
def shaBlock (h : List Dword) (b : List Byte) : List Dword :=
  List.zipWith (· + ·) h (shaRounds shaK ((List.range 16).map fun i => BitVec.ofNat 64 (beAt b (8 * i) 8)) h)

/-- The first `n` blocks taken in. -/
def shaBlocks : Nat → List Byte → List Dword → List Dword
  | 0, _, h => h
  | n + 1, l, h => shaBlocks n (l.drop 128) (shaBlock h (l.take 128))

/-- A message padded to whole blocks: a 1 bit, zeros, its length in bits. -/
def shaPad (l : List Byte) : List Byte :=
  l ++ 0x80 :: List.replicate ((239 - l.length % 128) % 128) 0 ++ beBytes 16 (8 * l.length)

/-- SHA-384 of a byte string, as one number, first byte most significant (R381, R383). -/
@[irreducible] def sha384 (l : List Byte) : BitVec 384 :=
  let m := shaPad l
  BitVec.ofNat 384 (((shaBlocks (m.length / 128) m shaInit).take 6).foldl (fun n w => n * 2 ^ 64 + w.toNat) 0)

/-! ### The key of a password (R357; RFC 2104, RFC 8018) -/

/-- HMAC-SHA-384. -/
def hmac384 (key msg : List Byte) : List Byte :=
  let k := if 128 < key.length then beBytes 48 (sha384 key).toNat else key
  let pad (b : Byte) : List Byte := (slice k 0 128).map (· ^^^ b)
  beBytes 48 (sha384 (pad 0x5C ++ beBytes 48 (sha384 (pad 0x36 ++ msg)).toNat)).toNat

/-- `n` further iterations, `u` the last value, `t` the sum of all so far. -/
def pbkdfIter (pw : List Byte) : Nat → List Byte → List Byte → List Byte
  | 0, _, t => t
  | n + 1, u, t =>
    let u := hmac384 pw u
    pbkdfIter pw n u (List.zipWith (· ^^^ ·) t u)

/-- PBKDF2-HMAC-SHA-384 with a key of 48 bytes: password, salt, iterations (R357). -/
@[irreducible] def pbkdf2 (pw salt : List Byte) (iter : Nat) : List Byte :=
  let u := hmac384 pw (salt ++ beBytes 4 1)
  pbkdfIter pw (iter - 1) u u

/-! ### ECDSA on P-384 (R381; FIPS 186-4) -/

/-- The field, the order of the base point, coefficient b and the base point of P-384. -/
def p384P : Nat := 2 ^ 384 - 2 ^ 128 - 2 ^ 96 + 2 ^ 32 - 1
def p384N : Nat := 0xFFFFFFFFFFFFFFFFFFFFFFFFFFFFFFFFFFFFFFFFFFFFFFFFC7634D81F4372DDF581A0DB248B0A77AECEC196ACCC52973
def p384B : Nat := 0xB3312FA7E23EE7E4988E056BE3F82D19181D9C6EFE8141120314088F5013875AC656398D8A2ED19D2A85C8EDD3EC2AEF
def p384G : Nat × Nat × Nat :=
  (0xAA87CA22BE8B05378EB1C71EF320AD746E1D3B628BA79B9859F741E082542A385502F25DBF55296C3A545E3872760AB7,
    0x3617DE4A96262C6F5D9E98BF9292DC29F8F41DBD289A147CE9DA3113B5F0B8C00A60B1CE1D7E819D7A431D7C90EA0E5F, 1)

/-- `b` to the power of the low `k` bits of `e`, modulo `m`. -/
def powMod (m : Nat) : Nat → Nat → Nat → Nat
  | 0, _, _ => 1 % m
  | k + 1, b, e =>
    let h := powMod m k (b * b % m) (e / 2)
    if e % 2 = 1 then b * h % m else h

/-- The inverse modulo a prime of 384 bits. -/
def invMod (m a : Nat) : Nat := powMod m 384 (a % m) (m - 2)

/-- A difference in the field. -/
def subP (a b : Nat) : Nat := (a + (p384P - b % p384P)) % p384P

/-- The sum of two points of the curve in homogeneous coordinates X : Y : Z, the one at infinity with Z 0: the complete addition of a
curve with a = −3 and no point of order 2, one formula for all points. -/
def ptAdd (q r : Nat × Nat × Nat) : Nat × Nat × Nat :=
  let (x, y, z) := q
  let (u, v, w) := r
  let (xx, yy, zz) := (x * u % p384P, y * v % p384P, z * w % p384P)
  let (xy, yz, xz) := ((x * v + u * y) % p384P, (y * w + v * z) % p384P, (x * w + u * z) % p384P)
  let c := 3 * subP xz (p384B * zz) % p384P
  let d := subP (p384B * xz) (xx + 3 * zz)
  let e := 3 * subP xx zz % p384P
  (subP (xy * (yy + c)) (3 * yz * d), (3 * e * d + subP yy c * (yy + c)) % p384P, (yz * subP yy c + xy * e) % p384P)

/-- The point `q` times the low `k` bits of `e`. -/
def ptMul : Nat → Nat → Nat × Nat × Nat → Nat × Nat × Nat
  | 0, _, _ => (0, 1, 0)
  | k + 1, e, q =>
    let h := ptMul k (e / 2) (ptAdd q q)
    if e % 2 = 1 then ptAdd q h else h

/-- The coordinates x and y of a point, 0 and 0 at infinity. -/
def affine (q : Nat × Nat × Nat) : Nat × Nat :=
  let i := invMod p384P q.2.2
  (q.1 * i % p384P, q.2.1 * i % p384P)

/-- The point that 97 bytes hold (R381), if it lies on the curve. -/
def ptOf (b : List Byte) : Option (Nat × Nat × Nat) :=
  let x := beAt b 1 48
  let y := beAt b 49 48
  if b.length = 97 ∧ beAt b 0 1 = 4 ∧ x < p384P ∧ y < p384P ∧ y * y % p384P = (x * x * x + (p384P - 3) * x + p384B) % p384P
  then some (x, y, 1) else none

/-- The public key of a private key, as 97 bytes (R381). -/
@[irreducible] def pubKey (d : Nat) : List Byte :=
  let q := affine (ptMul 384 d p384G)
  4 :: beBytes 48 q.1 ++ beBytes 48 q.2

/-- Whether a signature of 96 bytes verifies: public key, digest, r followed by s (R381). -/
@[irreducible] def ecdsaVerify (pub : List Byte) (h : BitVec 384) (sig : List Byte) : Bool :=
  let r := beAt sig 0 48
  let s := beAt sig 48 48
  match ptOf pub with
  | none => false
  | some q =>
    let w := invMod p384N s
    let z := ptAdd (ptMul 384 (h.toNat * w % p384N) p384G) (ptMul 384 (r * w % p384N) q)
    sig.length == 96 && decide (0 < r ∧ r < p384N ∧ 0 < s ∧ s < p384N) && z.2.2 != 0 && (affine z).1 % p384N == r

/-- The signature of a digest with private key `d` and per-message number `k`. -/
@[irreducible] def ecdsaSign (d k : Nat) (h : BitVec 384) : List Byte :=
  let r := (affine (ptMul 384 k p384G)).1 % p384N
  beBytes 48 r ++ beBytes 48 (invMod p384N k * (h.toNat + r * d) % p384N)

end Sys2Proof.Machine
end

