-- ==== Sys2Proof/Machine/Admit.lean ====
section
/-!
DEFINITION. Admission (R43, R89, R156, R158): what each twin and each engine carries under a placement, with the TWIN terms
of R167 and the colours of R365 and R483.
-/
namespace Sys2Proof.Machine

/-! ### Intervals -/

/-- Whether [s, s + len) is covered by (start, length) intervals that do not overlap. -/
def coverRun : Nat → List (Nat × Nat) → Nat → Nat → Bool
  | 0, _, _, len => len == 0
  | n + 1, iv, s, len =>
    if len = 0 then true
    else match iv.find? fun r => decide (r.1 ≤ s ∧ s < r.1 + r.2) with
      | none => false
      | some r => coverRun n iv (r.1 + r.2) (len - (r.1 + r.2 - s))

/-- The same with the fuel that the intervals need. -/
def covers (iv : List (Nat × Nat)) (s len : Nat) : Bool := coverRun (iv.length + 1) iv s len

/-- Whether two runs share a member. -/
def meets (a n b m : Nat) : Bool := decide (a < b + m ∧ b < a + n ∧ 0 < n ∧ 0 < m)

/-- An interval put into a list sorted by start. -/
def insIv (x : Nat × Nat) : List (Nat × Nat) → List (Nat × Nat)
  | [] => [x]
  | y :: t => if x.1 ≤ y.1 then x :: y :: t else y :: insIv x t

/-- The number of distinct members of sorted intervals, from `lo` on. -/
def countIv : Nat → List (Nat × Nat) → Nat
  | _, [] => 0
  | lo, (s, n) :: t =>
    let a := max lo s
    (s + n - a) + countIv (max lo (s + n)) t

/-- The number of distinct members of intervals. -/
def distinct (l : List (Nat × Nat)) : Nat := countIv 0 (l.foldr insIv [])

/-- The units of `k` that a run touches, as an interval. -/
def unitsOf (k s n : Nat) : Nat × Nat := if n = 0 then (s / k, 0) else (s / k, (s + n - 1) / k - s / k + 1)

/-! ### Tasks -/

/-- The WSET entries of slots, of variable bytes. -/
def slotEnts (t : TaskImg) : List (Nat × Nat) := (t.wset.filter fun w => !w.isVar).map fun w => (w.start, w.len)
def varEnts (t : TaskImg) : List (Nat × Nat) := (t.wset.filter (·.isVar)).map fun w => (w.start, w.len)

/-- Gathered slots of a task (R74). -/
def gathCount (t : TaskImg) : Nat := t.gath.foldl (fun n r => n + r.count) 0

/-- Records of a shard's range (R141). -/
def shardQ (t : TaskImg) : Nat := match t.arrd with | some d => cdiv d.nrec t.shards | none => 0

/-- Bytes of the run mask that a shard touches, as lines of variable bytes (R143). -/
def maskRun (t : TaskImg) (shard : Nat) : Option (Nat × Nat) :=
  t.arrd.bind fun d => d.mask.bind fun m =>
    let q := shardQ t
    let lo := shard * q
    let hi := min d.nrec (lo + q)
    if lo < hi then some (m + lo / 8 / 64 * 64, ((hi - 1) / 8 / 64 - lo / 8 / 64 + 1) * 64) else none

/-- The TWIN terms of R167 with stagger `s`. -/
def twinTerms (t : TaskImg) (s : Nat) : Nat := (t.ckpts + 1) * (s + 24) + t.ckpts * (if t.array then 40 else 40 + 12 * 1024)

/-- The WCET of a task or shard at a placement code (R117 to R119). -/
def State.wcetAt (s : State) (t : TaskImg) (code : Nat) : Nat :=
  max t.wcetDecl t.wcet + (if code < 0x10 then twinTerms t (s.rf (F.TWIN_STAG_STAGGER code)) else 0)

/-- The parts of a placement on one code, with their tasks. -/
def onCode (g : Image) (pl : List Placed) (code : Nat) : List (Placed × TaskDef) :=
  (pl.filter fun p => p.code == code).filterMap fun p => (g.tasks[p.task]?).map fun t => (p, t)

/-- n(k, c) of R43. -/
def State.actsOf (s : State) (k c : Nat) : Nat :=
  if k = c then 1
  else 2 ^ (c - k) + (if (s.classOff c + 128 * 2 ^ k - s.classOff k) % 2 ^ k = 0 then 0 else 1)

/-- The inequality of R43 for class `c` on a twin or engine, exact in clocks × 40,000. -/
def State.fits (s : State) (g : Image) (pl : List Placed) (code c : Nat) : Bool :=
  let here := onCode g pl code
  if here.all fun p => p.2.img.cls != c then true
  else
    let sum := (List.range (c + 1)).foldl (fun n k => n + s.actsOf k c *
      ((here.filter fun p => p.2.img.cls == k).foldl (fun m p => m + s.wcetAt p.2.img code) 0)) 0
    let w := if s.isTriad then s.rf F.TICK_PH3_EXEC_END - s.rf F.TICK_PH3_IVOTE_END
      else s.rf F.TICK_PH0_DISPATCH - s.rf F.TICK_PH0_FREEZE_DONE
    decide (40000 * sum ≤ 9 * 2 ^ c * (w * s.tb * 3 - 4000 * 96))

/-- Frame-area bytes of a task or shard, without its frames (R89, R143, R144). -/
def areaOf (t : TaskImg) (shard : Nat) : Nat :=
  8 * gathCount t + (t.vars.foldl (fun n v => n + v.2) 0) + 64 * t.objs.length +
    ((maskRun t shard).elim 0 (·.2)) +
    (match t.arrd with | some d => 2 * d.blkrec * (d.recsz + 8 * d.swinCount) | none => 0)

/-- The limits of R89 on a twin or engine; the code of a task counts once (NOTES 180). -/
def holdsR89 (g : Image) (pl : List Placed) (code : Nat) : Bool :=
  let here := onCode g pl code
  let ids := (here.map (·.1.task)).eraseDups
  let code' : Nat := ids.foldl (fun n i => match g.tasks[i]? with
    | some t => n + 4 * t.img.code.length + 8 * t.img.funcs.length + 8 * t.img.pool.length
    | none => n) 0
  let area : Nat := here.foldl (fun n p => n + areaOf p.2.img p.1.shard) 0
  let fr : Nat := (List.range 8).foldl (fun n c => n + 512 *
    ((here.filter fun p => p.2.img.cls == c).foldl (fun m p => max m p.2.img.nframes) 0)) 0
  decide (code' ≤ 163840 ∧ area + fr ≤ 229376)

/-- A placement code that names a twin in TWIN mode (R11, R156). -/
def State.twinCode (s : State) (k : Nat) : Bool := decide (k < 6) && !nbit (s.rf F.SYS_MODE_SPLIT) k

/-- The variable entries of WSET that lie outside the record table (R118, R141). -/
def outEnts (t : TaskImg) (d : Arrd) : List (Nat × Nat) :=
  (varEnts t).filter fun e => !meets e.1 e.2 d.rectab (d.nrec * d.recsz)

/-- The placement codes: six twins, twelve engines (R156). -/
def allCodes : List Nat := List.range 6 ++ span 0x10 12

/-- Whether R89 and R43 hold everywhere. -/
def State.placeOk (s : State) (g : Image) (pl : List Placed) : Bool :=
  allCodes.all fun k => holdsR89 g pl k && (List.range 8).all fun c => s.fits g pl k c

/-- The placement that an image names, in task-table and shard order (R156, R486). -/
def placement (g : Image) : List Placed :=
  (g.tasks.zip (List.range g.tasks.length)).flatMap fun p =>
    (p.1.place.zip (List.range p.1.place.length)).map fun q => { task := p.2, shard := q.2, code := q.1 }

/-! ### Colours (R365, R483) -/

/-- The colour that the image map gives a line of bank F or of the variable space. -/
def mapColour (g : Image) (line : Nat) : Nat :=
  (g.colours.findSome? fun c => if c.1 ≤ line ∧ line < c.1 + c.2.1 then some c.2.2 else none).getD 4

/-- The colour of a bank F line under ranges `rs`. -/
def slotColour (g : Image) (rs : List RangeD) (h : Nat) : Nat :=
  match findRange rs h with
  | some r => if r.dir = 2 then mapColour g (lineOf (bankF + 8 * h)) else 3
  | none => 3

/-- The colours of the lines that a slot run touches, and a run of variable bytes, as a mask. -/
def slotColours (g : Image) (rs : List RangeD) (s n : Nat) : Nat :=
  let u := unitsOf 8 s n
  (span u.1 u.2).foldl (fun m l => m ||| 2 ^ slotColour g rs (8 * l)) 0
def varColours (g : Image) (s n : Nat) : Nat :=
  let u := unitsOf 64 s n
  (span u.1 u.2).foldl (fun m l => m ||| 2 ^ (if 0x03FFC000 ≤ 64 * l then 15 else mapColour g (lineOf (varBase + 64 * l)))) 0

end Sys2Proof.Machine
end

