-- ==== Sys2Proof/Machine/Gather.lean ====
section
/-!
DEFINITION. Plant time (R410), the samples of the system objects (R147 to R154), and the gather of one activation into its
engines (R74 to R76, R88, R91, R142, R157).
-/
namespace Sys2Proof.Machine

/-! ### Plant time and samples -/

/-- Plant time at monotonic time `t`, as seconds and nanoseconds (R410). -/
def State.plantAt (s : State) (t : Nat) : Nat × Nat :=
  let sec := s.rf F.TIME_PSEC_LO_SEC_LO + 2 ^ 32 * s.rf F.TIME_PSEC_HI_SEC_HI
  let d := (t + 2 ^ 32 - s.rf F.TIME_PBASE_NS_BASE) % 2 ^ 32
  (sec + d / 1000000000, d % 1000000000)

/-- Plant time in nanoseconds, 0 unless synchronised (R149, R414). -/
def State.plantNs (s : State) (t : Nat) : Nat :=
  if s.rfb F.TIME_STAT_SYNC then (s.plantAt t).1 * 1000000000 + (s.plantAt t).2 else 0

/-- Task time of the present tick (R134). -/
def State.taskTime (s : State) : Dword :=
  if s.isTriad then BitVec.ofNat 64 (s.n * s.tb) else s.tstart

/-- The nine fields of the device object (R149). -/
def State.deviceObject (s : State) : List Dword :=
  [devCode s.dev, svcCode s.svcMode, s.epoch, s.tb, s.rf F.HLTH_GRADE_GRADE,
    (if s.isPair then (if s.saw.anySeen && s.rfb F.PAIR_STAT_PEER then s.saw.partner else 0)
     else if s.isTriad then popCount 3 (s.rf F.TRI_STAT_MAJ) else 0),
    (if s.isPair then s.rf F.MIRR_STAT_LAG else 0), (if s.isTriad then s.tri.idx else 0),
    s.plantNs s.tstart.toNat].map (BitVec.ofNat 64)

/-- The status byte of every self-test item, by item code (R154). -/
def State.itemBytes (s : State) : List Nat :=
  (List.range 16).map fun k => if 1 ≤ k ∧ k ≤ 10 then s.rf (F.HLTH_ITEM_STATUS (k - 1)) else 0

/-- The samples of a freeze (R147). -/
def State.takeSnap (s : State) : Snap where
  device := s.deviceObject
  tg := s.tgRx.foldl (fun t e => tset 0 t e.1 e.2.status) []
  items := s.itemBytes
  sta := s.sta
  tasks := s.tasks

/-! ### Gathers -/

/-- A run of slots cut at its lines. -/
def linePieces (h n : Nat) : List (Nat × Nat) :=
  if n = 0 then []
  else (span (h / 8) ((h + n - 1) / 8 - h / 8 + 1)).map fun l => (max h (8 * l), min (h + n) (8 * l + 8) - max h (8 * l))

/-- Slots of one line gathered (R74, R75, R372, R374). -/
def X.gatherSlots (cs : List (Nat × Nat × Nat × Nat)) (echo : Bool) (x : X) (p : Nat × Nat) : X :=
  let g := x.s.gate x.ctx ((if echo then bankL else bankF) + 8 * p.1) (8 * p.2) .read
  if g.1 then
    { x with a := { x.a with gath := x.a.gath ++ (span p.1 p.2).map fun h => x.s.gatherSlot cs x.a.f.toNat h echo } }
  else
    let y := { x with s := g.2, a := { x.a with gath := x.a.gath ++ List.replicate p.2 0 } }
    if x.s.faultsTask x.ctx then y.fault 10 else y

/-- The gather list (R74). -/
def X.gatherList (cs : List (Nat × Nat × Nat × Nat)) (x : X) : X :=
  x.t.gath.foldl (fun y r => (linePieces r.start r.count).foldl (X.gatherSlots cs r.echo) y) x

/-- A state block gathered under context 51 (R91, R367). -/
def X.gatherObj (x : X) (key : Nat) : X :=
  let a := x.blkAt key
  let g := x.s.gate 51 a 32 .read
  if g.1 then x.keep a (x.s.rdBytes a 32) else { x with s := g.2 }

/-- VARS, the run mask and OBJS (R91, R143). -/
def X.gatherMem (x : X) : X :=
  let x := x.t.vars.foldl (fun (y : X) r => y.load (varBase + r.1) r.2) x
  let x := match maskRun x.t x.a.shard with | some r => x.load (varBase + r.1) r.2 | none => x
  x.t.objs.foldl (fun (y : X) o => y.gatherObj o.1) x

/-- Where the activation starts: function 0, or the prologue or first record of the shard (R88, R142). -/
def X.startPart (x : X) (twin : Bool) : X :=
  match x.t.arrd with
  | none => { x with a := { x.a with pc := (x.t.funcs.headD ⟨0, 0, 0⟩).entry } }
  | some d =>
    let q := shardQ x.t
    let x := { x with a := { x.a with rcd := x.a.shard * q, recEnd := min d.nrec ((x.a.shard + 1) * q) } }
    match d.pro with
    | some p => { x with a := { x.a with
        part := .pro, frames := [{ func := p }], pc := (x.t.funcs.getD p ⟨0, 0, 0⟩).entry } }
    | none => x.goRecords x.a.rcd twin

/-- The digest an activation starts from (R161). -/
def digestInit (taskId f shard : Nat) : Dword := BitVec.ofNat 64 (taskId * 2 ^ 32 + (f % 2 ^ 24) * 256 + shard)

/-- A new activation of task `i`, shard `k`, frozen at `f`, before its memory is gathered. -/
def newAct (t : TaskImg) (i k : Nat) (f tf : Dword) (snap : Snap) : Act where
  task := i
  shard := k
  f := f
  tf := tf
  digest := digestInit t.taskId f.toNat k
  snap := snap

/-- An activation put into the queue of its engines (R76, R157). -/
def State.enqueue (s : State) (e : Nat) (a : Act) : State :=
  (s.queueOf e).foldl (fun t i => t.updEng i fun g => { g with ready := g.ready ++ [a] }) s

/-- One part of a task gathered into its engines (R76). -/
def State.gatherPart (s : State) (cs : List (Nat × Nat × Nat × Nat)) (d : TaskDef) (p : Placed) : State :=
  let e := codeEngine p.code
  let x : X := { s := s, e := e, a := newAct d.img p.task p.shard s.tick s.taskTime s.snap, t := d.img, d := d, nxt := 0 }
  let y := ((x.gatherList cs).gatherMem).startPart (s.twinMode e)
  if y.s.dev = .tripped then y.s else y.s.enqueue e y.a

/-! ### The deadline (R45, R46, R53) -/

/-- Class of a flight's task. -/
def State.flightClass (s : State) (x : Flight) : Nat := (s.img.tasks[x.task]?).elim 0 (·.img.cls)

/-- The margin of a finished flight before point `p` of its deadline tick, in 1/1,000 T_b. -/
def Flight.margin (x : Flight) (n p : Nat) : Nat :=
  match x.finished with
  | some (t, m, _) => min 1023 (p + 1000 * (n - t) - m)
  | none => 0

/-- The check at D, or at EX in TRIAD: a task whose deadline is this tick and which has not finished is an overrun; else
the smallest margin is kept. Of several overruns the first is recorded (NOTES 174). -/
def State.deadlineCheck (s : State) (p : Nat) : State :=
  let due := s.flights.filter fun x => x.deadline == s.n
  match due.find? fun x => x.finished.isNone with
  | some x => (s.tickFault 1 (s.flightClass x)).trip 1
  | none => due.foldl (fun t x => t.trackMin F.TICK_SLACK_MIN_DISPATCH (x.margin s.n p)) s

end Sys2Proof.Machine
end

