-- ==== Sys2Proof/Machine/Migrate.lean ====
section
/-!
DEFINITION. The state object table at admission (R121, R125) and the migration plan (R326): what is copied, cleared and
created when one image's layout takes the place of another's, at a function restart, a translation or a boot.
-/
namespace Sys2Proof.Machine

/-- The image whose hash is given (R383): whose plan a back-translating member applies in reverse (R336, NOTES 35). -/
opaque imageOf : List Byte → Image

/-! ### The state object table (R120, R121) -/

/-- Insertion into a list sorted by key, one entry per key. -/
def insKey (x : Nat × Nat × Nat) : List (Nat × Nat × Nat) → List (Nat × Nat × Nat)
  | [] => [x]
  | y :: t => if x.1 < y.1 then x :: y :: t else if x.1 = y.1 then y :: t else y :: insKey x t

/-- The distinct SOT keys of an image in ascending order, with kind and owner: entry i has object index i. -/
def sotList (g : Image) : List (Nat × Nat × Nat) := g.sotKeys.foldr insKey []

/-- A block in its created state (R125). -/
def createdBlk (kind key owner : Nat) : Blk := ⟨0, 0, 0, 0, BitVec.ofNat 8 kind, BitVec.ofNat 32 key, BitVec.ofNat 32 owner⟩

/-- A memory region set to 0. -/
def State.zero (s : State) (a n : Nat) : State := { s with mem := tclear s.mem fun k => decide (a ≤ k ∧ k < a + n) }

/-- The directory written at admission (R121). -/
def State.writeDirectory (s : State) (g : Image) : State :=
  let l := sotList g
  (l.zip (List.range l.length)).foldl (fun t e =>
    t.wrLe (sotBase + 8 * e.2) 8 (e.1.1 + e.1.2.1 * 2 ^ 32 + e.2 * 2 ^ 40)) (s.zero sotBase 0x200000)

/-- Every object of an image in its created state (R125). -/
def State.createObjects (s : State) (g : Image) : State :=
  let l := sotList g
  let s := (l.zip (List.range l.length)).foldl (fun t e =>
    t.wrBytes (objBase + 64 * e.2) (createdBlk e.1.2.1 e.1.1 e.1.2.2).bytes) (s.zero objBase 0xE00000)
  g.tasks.foldl (fun t d => match d.img.arrd with
    | none => t
    | some a => (List.range a.nrec).foldl (fun t r => a.objs.foldl (fun t o =>
        t.wrBytes (varBase + a.rectab + r * a.recsz + o.1) (createdBlk o.2 0 0).bytes) t) t) s

/-- The CRC seeds of the telegram connections copied into the key area, 8 bytes each in the table's order (R365, R488; NOTES 150). -/
def State.writeKeys (s : State) (g : Image) : State :=
  (g.telegrams.zip (List.range g.telegrams.length)).foldl (fun t e => t.wrLe (keyArea + 8 * e.2) 8 e.1.key.toNat) (s.zero keyArea 0x10000)

/-! ### What moves (R326) -/

/-- `n` bytes copied from `src` to `dst`. -/
structure Move where
  src : Nat
  dst : Nat
  n : Nat
deriving DecidableEq, Repr

/-- A move without the part whose destination lies in [a, a + m). -/
def Move.cutDst (x : Move) (a m : Nat) : List Move :=
  if !meets x.dst x.n a m then [x]
  else ([⟨x.src, x.dst, a - x.dst⟩, ⟨x.src + (a + m - x.dst), a + m, x.dst + x.n - (a + m)⟩] : List Move).filter fun y => 0 < y.n

/-- A move without the part whose source lies in [a, a + m). -/
def Move.cutSrc (x : Move) (a m : Nat) : List Move :=
  ((Move.mk x.dst x.src x.n).cutDst a m).map fun y => ⟨y.dst, y.src, y.n⟩

/-- The record tables of an image. -/
def Image.tables (g : Image) : List Arrd := g.tasks.filterMap fun d => d.img.arrd

/-- The descriptor that carries the same ARRAY_KEY. -/
def Image.tableOf (g : Image) (key : Nat) : Option Arrd := g.tables.find? fun a => a.key == key

/-- A kept variable run: same key and type (R326). -/
def keptRun (old : Image) (w : VarRun) : Option VarRun := old.varmap.find? fun v => v.key == w.key && v.typ == w.typ

/-- A kept SOT object: same key and kind. -/
def keptObj (old : Image) (o : Nat × Nat × Nat) : Bool := (sotList old).any fun p => p.1 == o.1 && p.2.1 == o.2.1

/-- Moves of the variable runs, their record tables apart. -/
def runMoves (old new : Image) : List Move :=
  let l := new.varmap.filterMap fun w => (keptRun old w).map fun v => Move.mk (varBase + v.off) (varBase + w.off) (min v.len w.len)
  let l := new.tables.foldl (fun l a => l.flatMap fun x => x.cutDst (varBase + a.rectab) (a.nrec * a.recsz)) l
  old.tables.foldl (fun l a => l.flatMap fun x => x.cutSrc (varBase + a.rectab) (a.nrec * a.recsz)) l

/-- Moves of one record table; objects that are not kept stay apart. -/
def tableMoves (a b : Arrd) : List Move :=
  let fresh := b.objs.filter fun o => o ∉ a.objs
  (List.range (min a.nrec b.nrec)).flatMap fun r =>
    fresh.foldl (fun l o => l.flatMap fun x => x.cutDst (varBase + b.rectab + r * b.recsz + o.1) 32)
      [⟨varBase + a.rectab + r * a.recsz, varBase + b.rectab + r * b.recsz, min a.recsz b.recsz⟩]

/-- Moves of the SOT objects: the block but for OWNER. -/
def objMoves (old new : Image) : List Move :=
  ((sotList new).filter (keptObj old)).map fun o =>
    ⟨objBase + 64 * old.sotIndex o.1, objBase + 64 * new.sotIndex o.1, 28⟩

/-- Every move of the plan from `old` to `new`. -/
def movesOf (old new : Image) : List Move :=
  runMoves old new ++ (new.tables.flatMap fun b => match old.tableOf b.key with | some a => tableMoves a b | none => []) ++
    objMoves old new

/-- The parts of a run that no move of `ms` brings its bytes to. -/
def bare (ms : List Move) (w : VarRun) : List Move :=
  ms.foldl (fun l x => l.flatMap fun y => y.cutDst x.dst x.n) [⟨0, varBase + w.off, w.len⟩]

/-- Lines the plan moves or clears: m of R331. An item that keeps its address costs nothing; what else a new run holds does, and so
does a state object in another place. -/
def planLines (old new : Image) : Nat :=
  let still := (movesOf old new).filter fun x => x.src == x.dst
  let runs := ((new.varmap.filter fun w => w.len != 0).flatMap (bare still)).map fun x => (lineOf x.dst, (x.dst + x.n - 1) / 64 - x.dst / 64 + 1)
  let objs := (sotList new).filterMap fun o =>
    if keptObj old o && old.sotIndex o.1 == new.sotIndex o.1 then none else some (lineOf (objBase + 64 * new.sotIndex o.1), 1)
  distinct (runs ++ objs)

/-- Objects and runs that `new` holds and the plan does not keep from `old`. -/
def createdCount (old new : Image) : Nat :=
  (new.varmap.filter fun w => (keptRun old w).isNone).length + ((sotList new).filter fun o => !keptObj old o).length +
    (new.tables.foldl (fun n b => n + b.nrec * (b.objs.filter fun o =>
      !(old.tableOf b.key).any fun a => decide (o ∈ a.objs)).length) 0)

/-- Objects and runs that the plan frees. -/
def freedCount (old new : Image) : Nat :=
  (old.varmap.filter fun v => !new.varmap.any fun w => w.key == v.key && w.typ == v.typ).length +
    ((sotList old).filter fun o => !keptObj new o).length +
    (old.tables.foldl (fun n a => n + a.nrec * (a.objs.filter fun o =>
      !(new.tableOf a.key).any fun b => decide (o ∈ b.objs)).length) 0)

/-! ### The plan applied -/

/-- The retain copies brought into the layout of an image, from the items' homes (R326, R491). -/
def State.recopyRetain (s : State) (g : Image) : State :=
  let s := s.zero (retBase + 64) 0xFFFC0
  (retainWalk g (retBase + 64) g.retain).foldl (fun t w => t.retWrite w.2.2 (t.rdBytes w.1 w.2.1)) s

/-- A plan applied in place (R326, R330): what moves is read first, then the new layout is created and the moves land. -/
def State.migrate (s : State) (old new : Image) : State :=
  let data := (movesOf old new).map fun x => (x.dst, s.rdBytes x.src x.n)
  let s := new.varmap.foldl (fun t w => (t.zero (varBase + w.off) w.len).markDirty (varBase + w.off) w.len) s
  let s := ((s.writeKeys new).writeDirectory new).createObjects new
  let s := data.foldl (fun t d => (t.wrBytes d.1 d.2).markDirty d.1 d.2.length) s
  (s.markDirty sotBase (0x200000 + 64 * (sotList new).length)).recopyRetain new

/-! ### Translation (R334 to R336) -/

/-- The image that mirrored lines arrive in, where it is not the own one. -/
def State.mirrorImage (s : State) : Option Image :=
  if s.chg.translating then s.chg.fromImg
  else if s.chg.back then s.saw.version.map fun v => imageOf v.1
  else none

/-- The partner's last VERSION named another image (R336): sweep and rehearsal are suspended. -/
def State.imagesDiffer (s : State) : Bool := s.saw.version.any fun v => v.1 != s.img.hash

/-- A line of the partner's layout written through the plan (R336): force table and output lines go where they are, the
directory and the retain copies are the own ones, runs, records and objects where the plan moves them. -/
def State.translateLine (s : State) (from' : Image) (l : Nat) (b : List Byte) : State :=
  let a := bankL + 64 * l
  if (varBase ≤ a ∧ a < forceBase) ∨ objBase ≤ a then
    ((movesOf from' s.img).filter fun x => meets x.src x.n a 64).foldl (fun t x =>
      let lo := max a x.src
      let hi := min (a + 64) (x.src + x.n)
      (t.wrBytes (x.dst + (lo - x.src)) ((b.drop (lo - a)).take (hi - lo))).dupRetain (x.dst + (lo - x.src)) (hi - lo)) s
  else if sotBase ≤ a then s
  else s.wrBytes a b

/-- What the own image holds and the partner's did not takes its created state or zero (R336): at the boundary at which a
back-translating member becomes active. -/
def State.dropForeign (s : State) (from' : Image) : State :=
  let s := (s.img.varmap.flatMap (bare (movesOf from' s.img))).foldl (fun t x => t.homeWrite x.dst (List.replicate x.n 0)) s
  let s := s.img.tables.foldl (fun t b => (List.range b.nrec).foldl (fun t r => b.objs.foldl (fun t o =>
    if (from'.tableOf b.key).any fun a => decide (r < a.nrec ∧ o ∈ a.objs) then t
    else t.homeWrite (varBase + b.rectab + r * b.recsz + o.1) (createdBlk o.2 0 0).bytes) t) t) s
  ((sotList s.img).filter fun o => !keptObj from' o).foldl (fun t o =>
    t.homeWrite (objBase + 64 * t.img.sotIndex o.1) (createdBlk o.2.1 o.1 o.2.2).bytes) s

end Sys2Proof.Machine
end

