-- ==== Sys2Proof/Machine/Pack.lean ====
section
/-!
DEFINITION. The packing of slot values into sections and replies (R199 to R201), for the device and for the marionettes.
-/
namespace Sys2Proof.Machine

/-- Bytes of a run of `n` slots of type `typ` (R200). -/
def runLen (typ n : Nat) : Nat := if typ = 0 then cdiv n 8 else if typ ≤ 2 then 2 * n else 4 * n

/-- BIT values, the first in the most significant bit (R200). -/
def packBits (l : List Word) : List Byte :=
  (List.range (cdiv l.length 8)).map fun i => BitVec.ofNat 8 ((List.range 8).foldl
    (fun b j => 2 * b + b2n (nbit (l.getD (8 * i + j) 0).toNat 0)) 0)

/-- A run packed (R200). -/
def packRun (typ : Nat) (l : List Word) : List Byte :=
  if typ = 0 then packBits l
  else if typ ≤ 2 then l.flatMap fun v => beBytes 2 (v.toNat % 65536)
  else l.flatMap fun v => beBytes 4 v.toNat

/-- A run of `n` slots unpacked (R200, R201). -/
def unpackRun (typ n : Nat) (d : List Byte) : List Word :=
  (List.range n).map fun i =>
    if typ = 0 then BitVec.ofNat 32 (bitsOf (d.getD (i / 8) 0).toNat (7 - i % 8) 1)
    else if typ = 1 then BitVec.ofNat 32 (beAt d (2 * i) 2)
    else if typ = 2 then (BitVec.ofNat 16 (beAt d (2 * i) 2)).signExtend 32
    else BitVec.ofNat 32 (beAt d (4 * i) 4)

/-- A layout run from its word (R198). -/
def RunDef.ofWord (w : Nat) : RunDef := ⟨bitsOf w 30 2, nbit w 29, bitsOf w 26 3, bitsOf w 0 13⟩

/-- A layout run as its word (R198). -/
def RunDef.word (r : RunDef) : Nat := r.dir * 2 ^ 30 + b2n r.qual * 2 ^ 29 + r.typ * 2 ^ 26 + r.count

/-- Quality bytes of a run (R199). -/
def RunDef.quals (r : RunDef) : Nat := if r.qual then r.count else 0

/-- The delay word that says no path from an end is measured (R212, R538). -/
def noDelay : Nat := 0xFFFFFFFF

end Sys2Proof.Machine
end

