-- ==== Sys2Proof/Machine/Strings.lean ====
section
/-!
DEFINITION. The device's side of the strings: ports (R179), replies (R199 to R201, R233, R237), cues (R220, R236, R238),
roll-call and delay measurement (R202 to R208), misfits and admission (R208 to R215, R539), probation (R233, R234), break
relay (R235).
-/
namespace Sys2Proof.Machine

/-! ### Stations and runs -/

/-- Handles of a list of handle runs, in layout order (R484). -/
def handlesOf (l : List (Nat × Nat)) : List Nat := l.flatMap fun r => span r.1 r.2

/-- Layout runs with their handles (R198). -/
def runSlots : List RunDef → List Nat → List Nat → List (RunDef × List Nat)
  | [], _, _ => []
  | r :: t, i, o =>
    if r.dir = 1 then (r, i.take r.count) :: runSlots t (i.drop r.count) o
    else (r, o.take r.count) :: runSlots t i (o.drop r.count)

/-- The runs of a station with their handles. -/
def StaDef.slots (d : StaDef) : List (RunDef × List Nat) := runSlots d.runs (handlesOf d.ins) (handlesOf d.outs)

/-- The schedule (e, o) of a run (R219). -/
def State.schedOf (s : State) (r : RunDef × List Nat) : Nat × Nat :=
  let c := ((r.2.head?).bind s.rangeOf).elim 0 (·.cls)
  (c, (s.classOff c + 2 ^ c - 1) % 2 ^ c)

/-- The runs of a station due in tick n (R199). -/
def State.dueRuns (s : State) (d : StaDef) (n : Nat) : List (RunDef × List Nat) :=
  d.slots.filter fun r => n % 2 ^ (s.schedOf r).1 == (s.schedOf r).2

/-- Values and quality of the slots of due runs, from their data and their quality bytes; `v` is the quality of a slot
without a quality byte (R199). -/
def landRuns : List (RunDef × List Nat) → List Byte → List Byte → Byte → List (Nat × Word × Byte)
  | [], _, _, _ => []
  | (r, hs) :: t, d, q, v =>
    let n := runLen r.typ r.count
    let qs := if r.qual then q.take r.count else List.replicate r.count v
    hs.zip ((unpackRun r.typ r.count d).zip qs) ++ landRuns t (d.drop n) (q.drop r.quals) v

/-- Packed length of runs, without and with quality bytes. -/
def valueLen (l : List (RunDef × List Nat)) : Nat := l.foldl (fun n r => n + runLen r.1.typ r.1.count) 0
def replyLen (l : List (RunDef × List Nat)) : Nat := valueLen l + l.foldl (fun n r => n + r.1.quals) 0

/-- A reply's data landed in bank L (R63, R64, R201), through the gate; none where its length is not that of the due
runs. -/
def State.land (s : State) (d : StaDef) (f : Frame) : Option State :=
  let rs := s.dueRuns d s.n
  let data := f.payload.drop 16
  if f.payload.length ≠ 16 + replyLen rs then none
  else some ((landRuns rs data (data.drop (valueLen rs)) (BitVec.ofNat 8 (b2n (nbit (beAt f.payload 0 4) 0)))).foldl
    (fun t x =>
      let g := t.gate 48 (bankL + 8 * x.1) 8 .write
      if g.1 then t.putL x.1 x.2.1 x.2.2 else g.2) s)

/-- Bits of the station maps (R240). -/
def State.mapBit (s : State) (f : Nat → Fld) (pos : Nat) (b : Bool) : State :=
  let w := s.rf (f (pos / 32))
  s.wf (f (pos / 32)) (if b then w ||| 2 ^ (pos % 32) else w &&& (2 ^ 32 - 1 - 2 ^ (pos % 32)))

/-- A station admitted or not; losing admission ends probation (R210, R234). -/
def State.setAdmitted (s : State) (k : Nat) (b : Bool) : State :=
  let s := s.updSta k fun x => { x with
    admitted := b
    prob := if b then x.prob else 0
    probDue := b && x.probDue
    ack := b && x.ack
    lose := false }
  let s := s.mapBit (F.STR_ADMIT_ADMIT (k / 128)) (k % 128) b
  if b then s else s.mapBit (F.STR_PROB_PROB (k / 128)) (k % 128) false

/-- Probation set or ended; its end clears `station.rejoin_ack` (R151, R233, R234). -/
def State.setProb (s : State) (k p : Nat) : State :=
  (s.updSta k fun x => { x with prob := p, ack := x.ack && p != 0 }).mapBit (F.STR_PROB_PROB (k / 128)) (k % 128) (p != 0)

/-! ### Who drives -/

/-- Whether the device drives its strings (R191, R247, R252, R260). -/
def State.drives (s : State) : Bool :=
  match s.svcMode with
  | .solo => decide (s.dev = .active)
  | .pair => decide (s.dev = .active) && decide (s.saw.role = .leased ∨ s.saw.role = .unleased) && !s.saw.stopCues
      && !s.handsOver
  | .triad => decide (s.dev = .member)
  | .none => false

/-- An epoch known, in the register and in the record (R250, R251). -/
def State.knowEpoch (s : State) (e : Nat) : State :=
  if s.isPair ∧ s.rf F.SAW_KNOWN_KNOWN < e then (s.retWrite retBase (leBytes 4 e)).wf F.SAW_KNOWN_KNOWN e else s

/-- An epoch learned from a HEARTBEAT, a GRANT, a HELLO or a REPLY (R250, R252). -/
def State.learnEpoch (s : State) (e : Nat) : State :=
  if !s.isPair then s
  else
    let s := s.knowEpoch e
    if s.rf F.SAW_EPOCH_EPOCH < e ∧ (s.dev = .active ∨ s.dev = .ready) ∧ s.saw.role ≠ .relinquished then
      let s := { s with saw := { s.saw with stopCues := true } }
      if s.dev = .active then s.trip 0x0B else s
    else s

/-- Whether a port takes part in its string (R240). -/
def State.portOn (s : State) (port : Nat) : Bool :=
  s.rfb (F.STR_CTRL_EN (s.strOf port)) && !decide (s.dev = .booting ∨ s.dev = .parked ∨ s.dev = .refused)

/-- Whether a port receives: nothing is received on a port that is down (R185). -/
def State.hears (s : State) (port : Nat) : Bool := s.portOn port && s.rfb (F.STR_STAT_UP port)

/-! ### Ports (R179) -/

/-- `STRING_PORT_UP` (R179). -/
def execStringPortUp (str : Fin 16) (s : State) : Out := .next (s.wfb (F.STR_STAT_UP str) true)

/-- `STRING_PORT_DOWN` (R179). -/
def execStringPortDown (str : Fin 16) (s : State) : Out := .next (s.wfb (F.STR_STAT_UP str) false)

/-! ### Replies -/

/-- Whether an accepted reply calls for probation (R233). -/
def Sta.wantsProb (x : Sta) (n h st : Nat) : Bool :=
  x.admitted && ((nbit st 2 && x.probEnd != some n) || x.u.elim true fun u => decide (u + 1 + h < n))

/-- A station's record after an accepted reply (R63, R150, R233). -/
def Sta.heard (x : Sta) (n h st : Nat) (epoch : Word) : Sta :=
  { x with
    probDue := x.probDue || x.wantsProb n h st
    u := some n
    status := BitVec.ofNat 32 st
    epochSeen := if x.epochSeen.toNat < epoch.toNat then epoch else x.epochSeen }

/-- A reply seen as a sign of the path to the plant (R255, R263). -/
def Saw.path (w : Saw) (n : Nat) (admitted : Bool) : Saw :=
  { w with pathSeen := true, replyTick := if admitted then some n else w.replyTick }

/-- What a reply at this device's own end leaves (R235, R237, R240). -/
def State.heardHere (s : State) (port k : Nat) (f : Frame) (admitted : Bool) : State :=
  let s := s.trackMax (F.STR_RTMAX_LAST_REPLY port) s.permil
  let s := if admitted then s.updStr port fun y => { y with heard := y.heard ||| BitVec.ofNat 128 (2 ^ (k % 128)) } else s
  if s.isPair && s.dev == .standby && s.rfb (F.STR_STAT_RELAYING port) then s.sendPair f else s

/-- A reply accepted at a port (R63, R233, R235, R237, R240, R252). `own`: at this device's end. -/
def State.accepted (s : State) (port k : Nat) (d : StaDef) (f : Frame) (own : Bool) : State :=
  let adm := (s.getSta k).admitted
  let st := beAt f.payload 0 4
  let s := s.updSta k fun x => x.heard s.n d.h st f.epoch
  let s := if nbit st 10 then s.inc (F.STR_MISS_QUEUED port) else s
  let s := { s with saw := s.saw.path s.n adm }
  let s := if own then s.heardHere port k f adm else s.updStr port fun y => { y with fwdNow := true }
  if adm then s.learnEpoch f.epoch.toNat else s

/-- The station list entry that a frame's SRC names on a string. -/
def State.srcSta (s : State) (str : Nat) (f : Frame) : Option StaDef :=
  if f.src.toNat < 128 then s.staDef (128 * str + f.src.toNat) else none

/-- `REPLY_RECEIVE` (R64, R190, R201): accepted between σ and W only. -/
def execReplyReceive (port : Fin 16) (f : Frame) (s : State) : Out :=
  .next (
    if !s.hears port then s
    else match s.checkStr port f with
    | some e => s.countErr port e
    | none =>
      let str := s.strOf port
      match s.srcSta str f with
      | none => s
      | some d =>
        if f.kind ≠ 2#8 then s
        else if s.rf F.TICK_PH1_REPLY_END * s.tb < 1000 * s.inTick then s.inc (F.STR_ERR1_LATE port)
        else if !s.reached (s.rf F.TICK_PH2_SAMPLE) then s
        else match s.land d f with
          | none => s
          | some t => if t.dev = .tripped ∧ s.dev ≠ .tripped then t else t.accepted port (128 * str + d.pos) d f true)

/-! ### Cues -/

/-- The section of a station in the present tick (R193, R199, R220). -/
def State.sectionOf (s : State) (d : StaDef) : List Byte :=
  let data := ((s.dueRuns d s.n).filter fun r => r.1.dir == 2).flatMap fun r => packRun r.1.typ (r.2.map s.dispatchValue)
  let x := s.getSta (128 * d.str + d.pos)
  [BitVec.ofNat 8 d.pos, BitVec.ofNat 8 (b2n (x.prob != 0))] ++ beBytes 2 data.length ++ data

/-- Sections packed into frames of at most 9,146 bytes of sections each (R187, R193). -/
def packFrames : List Byte → List (List Byte) → List (List Byte)
  | cur, [] => [cur]
  | cur, x :: t => if cur.length + x.length ≤ 9146 then packFrames (cur ++ x) t else cur :: packFrames x t

/-- The cue frames of the present tick (R193, R220); KIND 0x06 with MEMBER in TRIAD (R191). -/
def State.cueFrames (s : State) (str : Nat) : List Frame :=
  let secs := (s.stasOf str).filter fun d => (s.getSta (128 * str + d.pos)).admitted
  let ps := packFrames [] (secs.map s.sectionOf)
  (List.range ps.length).map fun i =>
    s.strFrame str (if s.isTriad then 6 else 1) (if i + 1 = ps.length then 16 else 0) (if s.isTriad then s.tri.idx else 0)
      ([BitVec.ofNat 8 i, BitVec.ofNat 8 ps.length, 0, 0] ++ ps.getD i [])

/-- Bytes on the line of the cue frames that carry sections of these lengths (R193, R223). -/
def cueBytes : Nat → List Nat → Nat
  | used, [] => 86 + used
  | used, b :: t => if 4 < used ∧ 9150 < used + b then 86 + used + cueBytes (4 + b) t else cueBytes (used + b) t

/-- c_len of a string at a tick, in bytes (R223). -/
def State.cueLen (s : State) (k n : Nat) : Nat :=
  cueBytes 4 ((s.stasOf k).map fun d => 4 + valueLen ((s.dueRuns d n).filter fun r => r.1.dir == 2))

/-- Line time of one byte in 1/10 ns on a string (R180). -/
def State.byteTime (s : State) (k : Nat) : Nat := if nbit (s.rf F.SYS_MODE_RATE1000) k then 80 else 32

/-- Whether the cues of this tick wait for an acknowledgement that has not come (R279). -/
def State.withholds (s : State) : Bool :=
  s.isPair && s.rfb F.SYS_MODE_COMMIT && decide (s.saw.role = .leased) && s.saw.grantElig && decide (s.saw.grantLag = 0)
    && !s.mirr.copying && decide (s.mirr.ackTick ≠ some s.n)

/-- Whether the device sends the cues of this tick: in TRIAD only in majority at this tick's output vote (R310). -/
def State.mayCue (s : State) : Bool :=
  if s.isTriad then decide (s.dev = .member ∨ s.dev = .benched) && s.tri.outVoted == some s.n && s.tri.majority
  else s.drives

/-- Whether the device sets DRIVE in this tick unless its cues come to be withheld (R279, R429). -/
def State.mayDrive (s : State) : Bool := s.mayCue && s.mirr.withheld != some s.n && s.dev != .benched

/-- Whether the device sets DRIVE in this tick (R429, R279). -/
def State.setsDrive (s : State) : Bool := s.mayDrive && !s.withholds

/-- A loss of DRIVE (R450): the pending CAN frames that have not started are cancelled. -/
def State.loseDrive (s : State) : State :=
  let s := (s.canCancel 0).canCancel 1
  (s.updCan 0 fun c => { c with drive := false }).updCan 1 fun c => { c with drive := false }

/-- `CUE_SEND` (R220, R236, R238, R279): a tick whose cues are withheld is one without DRIVE (R429, R450). -/
def execCueSend (str : Fin 16) (s : State) : Out :=
  .next (
    if !s.mayCue || !s.rfb (F.STR_CTRL_EN str) || s.squelch || decide ((s.getStr str).cueTick = some s.n) then s
    else if s.mirr.withheld = some s.n then s
    else if s.withholds then
      { (s.inc F.MIRR_CNT_WITHHELD).loseDrive with mirr := { s.mirr with withheld := some s.n } }
    else
      let fs := s.cueFrames str
      let s := fs.foldl (fun t f => t.send (.str str f)) (s.updStr str fun y => { y with cueTick := some s.n })
      if !s.rfb (F.STR_STAT_RELAY str) then s
      else if s.loop str then
        fs.foldl (fun t f => t.send (.str (str + 1)
          (t.strFrame (str + 1) f.kind.toNat (f.flags.toNat &&& 0x10) f.memberNo.toNat f.payload))) s
      else if s.isPair then fs.foldl (fun t f => t.sendPair f) s
      else s)

/-- `RELAY_CUE_SEND` (R236): the frames of this tick and of the lease this standby grants, as the active passed them over the pair
link, leave this end. -/
def execRelayCueSend (str : Fin 16) (fs : List Frame) (s : State) : Out :=
  .next (
    let ok := fs.filter fun f => (frameErr f stringKinds (some s.img.pairId) (some str.val)).isNone && f.kind == 1#8 &&
      decide (f.epoch.toNat = s.rf F.SAW_EPOCH_EPOCH ∧ f.tick.toNat = s.n)
    if !s.pairUse || s.dev != .standby || s.saw.role != .standby || !s.rfb (F.STR_CTRL_EN str) || s.squelch || ok.isEmpty then s
    else
      let s := ok.foldl (fun t f =>
        let g := { f with
          flags := f.flags ||| 3#8, src := BitVec.ofNat 8 t.srcCode, srcMac := srcAddr t.ownAddr str 0xFE }
        t.send (.str str { g with crc := frameCrc g t.img.pairId })) s
      (s.wfb (F.STR_STAT_RELAYING str) true).updStr str fun y => { y with relayTick := some s.n })

/-! ### Roll-call (R202 to R205) -/

/-- NSTA of a string (R195). -/
def State.nsta (s : State) (str : Nat) : Nat := (s.stasOf str).length

/-- The hop count of a position from a port (R203). -/
def State.hopOf (s : State) (port pos : Nat) : Nat := if s.endB port then s.nsta (s.strOf port) - 1 - pos else pos

/-- The position at a hop count from a port. -/
def State.posAt (s : State) (port hop : Nat) : Nat := if s.endB port then s.nsta (s.strOf port) - 1 - hop else hop

/-- Whether a port holds end B of a loop-paired string, whose measurements stand beside those of its end A (R238). -/
def State.loopB (s : State) (port : Nat) : Bool := s.strOf port != port

/-- The record of the station at a hop count from a port; beyond the stations of the string, from end B, there is none. -/
def State.staAt (s : State) (port hop : Nat) : Sta :=
  if s.endB port ∧ s.nsta (s.strOf port) ≤ hop then {} else s.getSta (128 * s.strOf port + s.posAt port hop)

/-- The delay and the cable value that a port has measured to a hop, none before its first answer (R206). -/
def State.cableAt (s : State) (port hop : Nat) : Option (Nat × Int) :=
  let x := s.staAt port hop
  if s.loopB port then x.other.map fun d => (d, x.cableB) else x.delay.map fun d => (d, x.cable)

/-- Forwarding delays of hops 0 to h − 1, down and up (R206). -/
def State.forwarding (s : State) (port h : Nat) : Nat × Nat :=
  (List.range h).foldl (fun r i =>
    let x := s.staAt port i
    if s.endB port then (r.1 + x.dBA, r.2 + x.dAB) else (r.1 + x.dAB, r.2 + x.dBA)) (0, 0)

/-- The cable to a hop, with 1 µs for each segment not yet measured (R205). -/
def State.cableTo (s : State) (port h : Nat) : Nat :=
  (List.range (h + 1)).foldl (fun c i => (s.cableAt port i).elim (c + 1000) fun m => m.2.toNat) 0

/-- Travel to a hop and back (R205). -/
def State.rcTravel (s : State) (port h : Nat) : Nat :=
  let f := s.forwarding port h
  f.1 + f.2 + 2 * s.cableTo port h

/-- SPACING: at least the line time of the largest answer (R195, R205). -/
def State.rcSpacing (s : State) (str : Nat) : Nat := if nbit (s.rf F.SYS_MODE_RATE1000) str then 2000 else 1000

/-- COMMIT_FIRST holds: the cue stream follows the roll-call request (R223). -/
def State.commitFirst (s : State) : Bool := s.isPair && s.rfb F.SYS_MODE_COMMIT

/-- The earliest and the latest arrival of an answer, in ns after M of the tick: W, and σ of the next tick (R205). -/
def State.rcSpan (s : State) : Nat × Nat :=
  let m := s.rf F.TICK_PH1_COMMIT_END
  ((s.rf F.TICK_PH1_REPLY_END - m) * s.tb / 1000, (1000 + s.rf F.TICK_PH2_SAMPLE - m) * s.tb / 1000)

/-- When the cue stream that follows a request under COMMIT_FIRST has passed, in ns after M, 0 where none follows (R223). -/
def State.rcCueEnd (s : State) (str : Nat) : Nat :=
  let x := if s.rfb (F.STR_CTRL_RELAY_EN str) then 20000 else 0
  let cue := s.rf (F.STR_CUE_CUE_AT str) + x + s.cueLen str s.n * s.byteTime str / 10 + s.rf (F.STR_PROP_PROP str)
  if s.commitFirst then cue + 1000 - s.rf F.TICK_PH1_COMMIT_END * s.tb / 1000 else 0

/-- ANSWER_AT: the first answer reaches the end after W; under COMMIT_FIRST no answer leaves before the cue stream has passed
(R205, R223). -/
def State.rcAnswerAt (s : State) (port first : Nat) : Nat :=
  max (max 1000 (s.rcSpan.1 + 1000 - s.rcTravel port first)) (s.rcCueEnd (s.strOf port))

/-- Travel to a hop and back as both ends of a string bound it: the figures of R205 for every hop, at most twice PROP. -/
def State.rcBound (s : State) (str h : Nat) : Nat := min (4000 * (h + 1)) (2 * s.rf (F.STR_PROP_PROP str))

/-- COUNT of a request from `first` on, the same at both ends of a string, 1 to 32: the answers that by that bound are complete
before σ of the next tick, a response's time apart (R205; NOTES 20). -/
def State.rcCount (s : State) (str first : Nat) : Nat :=
  let ans := max (max 1000 (s.rcSpan.1 + 1000)) (s.rcCueEnd str)
  max 1 ((List.range (min 32 (128 - first))).takeWhile fun i =>
    decide (s.rcBound str (first + i) + ans + (i + 1) * s.rcSpacing str + 8000 ≤ s.rcSpan.2)).length

/-- The DELAYS message of a completed sweep (R538). -/
def State.sendDelays (s : State) (port sweep : Nat) : State :=
  let str := s.strOf port
  s.sendPair ((s.frame 0x15 0 0 str 0 (beBytes 8 sweep ++ beBytes 2 (s.nsta str) ++ beBytes 6 0 ++
    (List.range (s.nsta str)).flatMap fun p => beBytes 4 ((s.getSta (128 * str + p)).delay.getD 0xFFFFFFFF))))

/-- Whether a device end sends roll-call requests (R202, R262). -/
def State.mayRoll (s : State) (port : Nat) : Bool :=
  s.portOn port && s.rfb (F.STR_STAT_UP port) && !s.squelch &&
  ((decide (s.dev = .ready) && s.addrOk) || decide (s.dev = .syncing ∨ s.dev = .standby ∨ s.dev = .active ∨ s.dev = .member))

/-- FIRST of the request that is `i` requests after one from hop count 0 (R202). -/
def State.sweepAt (s : State) (str : Nat) : Nat → Nat
  | 0 => 0
  | i + 1 =>
    let f := s.sweepAt str i
    if 128 ≤ f + s.rcCount str f then 0 else f + s.rcCount str f

/-- FIRST of a port's next request: after the last hop count of the one before it; of its first request, by the tick, so that
both ends of a string step alike (R202, R205; NOTES 20). -/
def State.rcFirst (s : State) (port : Nat) : Nat :=
  let y := s.getStr port
  if y.rcTick.isNone then s.sweepAt (s.strOf port) (s.n % 128)
  else if 128 ≤ y.rcFirst + y.rcCount then 0 else y.rcFirst + y.rcCount

/-- `ROLLCALL_SEND` (R192, R202, R205, R538): one request a tick. -/
def execRollcallSend (str : Fin 16) (s : State) : Out :=
  .next (
    let y := s.getStr str
    if !s.mayRoll str || y.rcTick == some s.n then s
    else
      let first := s.rcFirst str
      let spc := s.rcSpacing (s.strOf str)
      let ans := s.rcAnswerAt str first
      let cnt := s.rcCount (s.strOf str) first
      let f := s.strFrame str 3 0 0 (beBytes 1 first ++ beBytes 1 cnt ++ beBytes 2 spc ++ beBytes 4 ans ++
        beBytes 1 (s.nsta (s.strOf str)) ++ beBytes 3 0)
      let ended := first = 0 ∧ y.rcTick.isSome
      let s := if ended ∧ s.isPair ∧ (s.dev = .syncing ∨ s.dev = .standby ∨ s.dev = .active) then
          s.sendDelays str (y.rcTick.getD 0) else s
      (s.send (.str str f)).updStr str fun y => { y with
        rcTick := some s.n, rcDep := s.mono, rcFirst := first, rcCount := cnt, rcAns := ans, rcSpc := spc
        sweeps := if ended then y.sweeps + 1 else y.sweeps })

/-- The segment between a station and its neighbour toward a port, as that port measured it; 0 until both have answered (NOTES 21). -/
def State.segment (s : State) (port pos : Nat) : Int :=
  let h := s.hopOf port pos
  match s.cableAt port h, if h = 0 then some (0, 0) else s.cableAt port (h - 1) with
  | some a, some b => a.2 - b.2
  | _, _ => 0

/-- The first reason of R209 for which an answer of the station at `pos` does not match, 0 for none (R208). `seg`: its segment. -/
def State.misfitCode (s : State) (str pos : Nat) (p : List Byte) (seg : Int) : Nat :=
  match s.staDef (128 * str + pos) with
  | none => 1
  | some d =>
    let dir (k : Nat) : Nat := d.runs.foldl (fun n r => if r.dir = k then n + r.count else n) 0
    let caps := if s.isPair ∧ !nbit (s.rf F.SYS_MODE_RATE1000) str then d.caps ||| 1 else d.caps
    if beAt p 0 4 ≠ d.typ.toNat then 2
    else if d.serial ≠ 0 ∧ beAt p 4 8 ≠ d.serial.toNat then 3
    else if beAt p 12 4 < d.fwMin.toNat ∨ d.fwMax.toNat < beAt p 12 4 then 4
    else if beAt p 20 1 ≠ d.runs.length ∨ (d.runs.flatMap fun r => beBytes 4 r.word) ≠ slice p 36 (4 * d.runs.length)
        ∨ beAt p 16 2 ≠ dir 1 ∨ beAt p 18 2 ≠ dir 2 then 5
    else if 1000 < beAt p 24 2 ∨ 1000 < beAt p 26 2 ∨ 1000 < seg then 6
    else if beAt p 21 1 &&& caps ≠ caps then 7
    else 0

/-- Whether two delays differ by more than 200 ns. -/
def drifted (a b : Nat) : Bool := decide (a + 200 < b ∨ b + 200 < a)

/-- What an answer says of its station (R150, R195). -/
def Sta.told (x : Sta) (p : List Byte) : Sta :=
  { x with
    typ := BitVec.ofNat 32 (beAt p 0 4)
    serial := BitVec.ofNat 64 (beAt p 4 8)
    fw := BitVec.ofNat 32 (beAt p 12 4)
    state := beAt p 22 1
    dAB := beAt p 24 2
    dBA := beAt p 26 2 }

/-- Sweeps in a row in which a delay differed, after one that was counted as number `sweep` (R207); `seen`: the one counted
before it. -/
def driftRun (off : Bool) (run seen sweep : Nat) : Nat :=
  if !off then 0 else if seen = sweep then max 1 run else if seen + 1 = sweep then run + 1 else 1

/-- An answer measured (R206, R207). A downloaded value that this device does not know is written anew (NOTES 141). -/
def State.measure (s : State) (port pos : Nat) (p : List Byte) : State :=
  let f := s.forwarding port (s.hopOf port pos)
  let rt : Int := (s.mono : Int) - (s.getStr port).rcDep - beAt p 28 4
  let cable := (rt - f.1 - f.2) / 2
  let delay := (cable + f.1).toNat
  let sweep := (s.getStr port).sweeps + 1
  s.updSta (128 * s.strOf port + pos) fun x =>
    let x := x.told p
    let dl := if s.endB port then x.dlB else x.dlA
    let off := dl.elim false (drifted delay)
    let anew := dl.elim true (· == noDelay)
    if s.loopB port then
      let run := driftRun off x.devOther x.swOther sweep
      { x with
        cableB := cable, other := some delay, devOther := run, swOther := sweep
        wantDelay := x.wantDelay || anew || decide (8 ≤ run) }
    else
      let run := driftRun off x.devOwn x.swOwn sweep
      { x with
        cable := cable, delay := some delay, devOwn := run, swOwn := sweep
        wantDelay := x.wantDelay || anew || decide (8 ≤ run) }

/-- What a match or a misfit leads to (R209, R210, R213); `decides`: this device decides, as the one that drives (R191, R210). -/
def State.judge (s : State) (port k code st : Nat) (decides : Bool) : State :=
  let s := if code = 0 then s else (s.wf (F.STR_MISFIT_POS port) (k % 128)).wf (F.STR_MISFIT_CODE port) code
  s.updSta k fun x => { x with
    misfit := code
    matched := decide (code = 0)
    lose := x.lose || (decides && x.admitted && (decide (code ≠ 0) || decide (st = 0)))
    admStep := if decides && decide (code ≠ 0 ∧ st ≠ 0) then 10 else if code ≠ 0 then 0 else x.admStep
    req := if code ≠ 0 then [] else x.req
    admReady := x.admReady && decide (code = 0) }

/-- The delay from one end to the far end against PROP (R224), once the station at the far end has been measured. -/
def State.propCheck (s : State) (str : Nat) : State :=
  let n := s.nsta str
  let x := s.getSta (128 * str + (if s.endB str then 0 else n - 1))
  if 0 < n ∧ s.rf (F.STR_PROP_PROP str) < x.delay.getD 0 + x.other.getD 0 then s.wfb (F.STR_STAT_PROP_EXCEED str) true else s

/-- `ROLLCALL_ANSWER_RECEIVE` (R190, R206 to R210, R224); a relaying standby passes the answer on to the active (R210). -/
def execRollcallAnswerReceive (port : Fin 16) (f : Frame) (s : State) : Out :=
  .next (
    if !s.hears port then s
    else match s.checkStr port f with
    | some e => s.countErr port e
    | none =>
      let str := s.strOf port
      let pos := f.src.toNat
      if f.kind ≠ 3#8 ∨ !frameFlag f 2 ∨ (s.getStr port).rcTick ≠ some f.tick.toNat ∨ 128 ≤ pos ∨ f.payload.length < 36 then s
      else
        let s := s.measure port pos f.payload
        let code := s.misfitCode str pos f.payload (s.segment port pos)
        let s := s.judge port (128 * str + pos) code (beAt f.payload 22 1) s.drives
        let s := if s.isPair && s.dev == .standby && s.rfb (F.STR_STAT_RELAYING port) then s.sendPair f else s
        ({ s with saw := { s.saw with pathSeen := true } }).propCheck str)

/-- An answer that only the partner received (R210): matched here, its delays apart. -/
def State.judgeForwarded (s : State) (str : Nat) (f : Frame) : State :=
  let k := 128 * str + f.src.toNat
  if 128 ≤ f.src.toNat ∨ f.payload.length < 36 ∨ (s.getStr str).sweeps ≤ (s.getSta k).swOwn then s
  else
    let s := s.updSta k fun x => x.told f.payload
    s.judge str k (s.misfitCode str f.src.toNat f.payload 0) (beAt f.payload 22 1) true

/-- `FORWARDED_REPLY_RECEIVE` (R210, R237): of this tick, of a station not accepted here in it; while relay is on, the answers
that the partner receives come the same way (NOTES 142). -/
def execForwardedReplyReceive (str : Fin 16) (f : Frame) (s : State) : Out :=
  .next (
    match if s.pairUse then frameErr f stringKinds (some s.img.pairId) (if anyStr f then none else some str.val) else some .ether with
    | some e => s.countPairErr e
    | none =>
      if s.dev ≠ .active ∨ !s.rfb (F.STR_STAT_RELAY str) then s
      else if f.kind = 3#8 ∧ frameFlag f 2 then (if s.drives then s.judgeForwarded str f else s)
      else match s.srcSta str f with
      | none => s
      | some d =>
        let k := 128 * str.val + d.pos
        if f.kind ≠ 2#8 ∨ f.tick.toNat ≠ s.n ∨ (s.getSta k).u = some s.n then s
        else match s.land d f with
          | none => s
          | some t => if t.dev = .tripped then t else t.accepted str k d f false)

/-- A delay word of a DELAYS message kept (R538). -/
def State.keepOther (s : State) (k v : Nat) : State :=
  if v == noDelay then s.updSta k fun x => { x with other := none, devOther := 0 }
  else s.updSta k fun x =>
    let dl := if s.rfb F.SAW_STAT_END_B then x.dlA else x.dlB
    let off := dl.elim false fun w => w != noDelay && drifted v w
    { x with
      other := some v
      devOther := if off then x.devOther + 1 else 0
      wantDelay := x.wantDelay || dl == some noDelay || (off && decide (8 ≤ x.devOther + 1)) }

/-- `DELAYS_RECEIVE` (R538). -/
def execDelaysReceive (f : Frame) (s : State) : Out :=
  .next (match s.pairErr f with
    | some e => s.countPairErr e
    | none =>
      if f.kind ≠ 0x15#8 ∨ !s.isPair ∨ 16 ≤ f.strNo.toNat ∨ f.payload.length ≠ 16 + 4 * beAt f.payload 8 2 then s
      else (List.range (min 128 (beAt f.payload 8 2))).foldl
        (fun t p => t.keepOther (128 * f.strNo.toNat + p) (beAt f.payload (16 + 4 * p) 4)) s)

/-! ### Admission (R213 to R215) -/

/-- Line time of a station's largest REPLY in 1/10 ns (R221). -/
def State.occ (s : State) (d : StaDef) : Nat :=
  (66 + 16 + replyLen d.slots + 20) * (if nbit (s.rf F.SYS_MODE_RATE1000) d.str then 80 else 32)

/-- REPLY_AT of a station in ns (R221). -/
def State.replyAt (s : State) (d : StaDef) : Nat :=
  cdiv (s.rf F.TICK_PH2_SAMPLE * s.tb / 100 + 100000 +
    ((s.stasOf d.str).filter fun r => decide (r.pos < d.pos)).foldl (fun n r => n + s.occ r + 640) 0) 10

/-- A parameter object of a station (R212). -/
def State.paramObj (s : State) (d : StaDef) (obj : Nat) : List Byte :=
  let x := s.getSta (128 * d.str + d.pos)
  let own := x.delay.getD 0xFFFFFFFF
  let other := x.other.getD 0xFFFFFFFF
  match obj with
  | 1 => beBytes 8 s.img.pairId.toNat ++ beBytes 1 d.str ++ beBytes 1 d.pos ++
      beBytes 1 (b2n (s.rfb (F.STR_CTRL_RELAY_EN d.str))) ++ [0]
  | 2 => beBytes 4 s.tb ++ beBytes 4 (s.rf F.TICK_PH2_SAMPLE * s.tb / 1000) ++ beBytes 4 d.alpha ++
      beBytes 4 (s.rf (F.STR_CUE_CUE_AT d.str)) ++ beBytes 4 (s.replyAt d) ++ beBytes 4 0
  | 3 => if s.endB d.str then beBytes 4 other ++ beBytes 4 own else beBytes 4 own ++ beBytes 4 other
  | 4 => beBytes 2 d.h ++ beBytes 2 0
  | 5 => d.runs.flatMap fun r => beBytes 4 r.word
  | 6 => d.slots.flatMap fun r => beBytes 1 (s.schedOf r).1 ++ beBytes 1 (s.schedOf r).2
  | 7 => d.safe
  | _ => []

/-- Operation and object of an admission step (R213). -/
def admOp (step : Nat) : Nat × Nat :=
  if step = 1 ∨ step = 10 then (4, 0) else if step = 9 then (3, 0) else if step = 11 then (2, 3) else (2, step - 1)

/-- The payload of a request (R196). -/
def reqPayload (pos step seq rsp : Nat) (data : List Byte) : List Byte :=
  beBytes 1 pos ++ beBytes 1 (admOp step).1 ++ beBytes 2 seq ++ beBytes 2 (admOp step).2 ++ beBytes 2 data.length ++
    beBytes 4 rsp ++ data

/-- RSP_AT of a request to a position: its response reaches the end behind the last answer and behind the responses asked for in
this tick (R205; NOTES 20). -/
def State.rspAt (s : State) (str pos : Nat) : Nat :=
  let y := s.getStr str
  let sent := ((List.range 128).filter fun p =>
    let x := s.getSta (128 * str + p)
    !x.req.isEmpty && x.reqTick == s.n).length
  y.rcAns + (y.rcCount + 1 + sent) * y.rcSpc +
    (s.rcTravel str (y.rcFirst + y.rcCount - 1) - s.rcTravel str (s.hopOf str pos))

/-- Whether a request may leave now: after this tick's ROLLCALL, under COMMIT_FIRST after its cues, and so that the response is
complete before σ of the next tick (R205, R213, R223). -/
def State.mayAsk (s : State) (str pos : Nat) : Bool :=
  let y := s.getStr str
  y.rcTick == some s.n && (!s.commitFirst || y.cueTick == some s.n) &&
    decide (s.mono - y.rcDep + s.rcTravel str (s.hopOf str pos) + s.rspAt str pos + y.rcSpc ≤ s.rcSpan.2)

/-- Whether this device sends a request to a position now: as the one that drives the string, out of a port that runs (R191). -/
def State.asks (s : State) (str pos : Nat) : Bool := s.drives && s.portOn str && !s.squelch && s.mayAsk str pos

/-- A request sent and waited for (R213, R214). -/
def State.sendReq (s : State) (str pos : Nat) (p : List Byte) (seq tries : Nat) : State :=
  (s.send (.str str (s.strFrame str 4 0 0 p))).updSta (128 * str + pos) fun x => { x with
    req := p, reqSeq := seq, reqTick := s.n, tries := tries }

/-- The step of a station's attempt whose request is due, 0 for none: a matching station that is not admitted starts one; a misfit
gets DISCARD; a DELAY object is written to an admitted one (R207, R210, R213, R538). -/
def State.admDue (s : State) (k : Nat) : Nat :=
  let x := s.getSta k
  if (s.staDef k).isNone then (if x.admStep = 10 then 10 else 0)
  else if x.admStep ≠ 0 then x.admStep
  else if x.matched ∧ !x.admitted ∧ !x.admReady then 1
  else if x.wantDelay ∧ x.admitted then 11 else 0

/-- `ADMISSION_REQUEST_SEND` (R207, R210, R213): one request a tick. -/
def execAdmissionRequestSend (str : Fin 16) (pos : Fin 128) (s : State) : Out :=
  .next (
    let k := 128 * str.val + pos.val
    let x := s.getSta k
    let step := s.admDue k
    if step = 0 || !x.req.isEmpty || x.reqTick == s.n || !s.asks str pos then s
    else
      let seq := ((s.getStr str).svcSeq + 1) % 65536
      let data := if (admOp step).1 = 2 then (s.staDef k).elim [] (s.paramObj · (admOp step).2) else []
      let p := reqPayload pos step seq (s.rspAt str pos) data
      let s := s.updStr str fun y => { y with svcSeq := seq }
      let s := s.updSta k fun x => { x with admStep := step, wantDelay := x.wantDelay && step != 11 && step != 4 }
      s.sendReq str pos p seq 0)

/-- The DELAY object that a station has taken is the downloaded one (R207, R538). -/
def Sta.downloaded (x : Sta) : Sta :=
  if x.admStep = 4 ∨ x.admStep = 11 then
    { x with dlA := some (beAt x.req 12 4), dlB := some (beAt x.req 16 4), devOwn := 0, devOther := 0 }
  else x

/-- `SERVICE_RSP_RECEIVE` (R213): a RESULT other than 0x00 ends the attempt. -/
def execServiceRspReceive (port : Fin 16) (f : Frame) (s : State) : Out :=
  .next (
    if !s.hears port then s
    else match s.checkStr port f with
    | some e => s.countErr port e
    | none =>
      let k := 128 * s.strOf port + beAt f.payload 0 1
      let x := s.getSta k
      if f.kind ≠ 5#8 ∨ f.payload.length < 12 ∨ 128 ≤ beAt f.payload 0 1 ∨ x.req.isEmpty ∨ beAt f.payload 2 2 ≠ x.reqSeq then s
      else s.updSta k fun x =>
        let x := if beAt f.payload 8 1 = 0 then x.downloaded else x
        if beAt f.payload 8 1 ≠ 0 then { x with req := [], admStep := 0, matched := x.admitted }
        else if x.admStep = 9 then { x with req := [], admStep := 0, admReady := true }
        else if 10 ≤ x.admStep then { x with req := [], admStep := 0 }
        else { x with req := [], admStep := x.admStep + 1 })

/-- `SERVICE_REQ_TIMEOUT` (R214): the same request again, 3 times, then the attempt is given up. A repeat leaves as every request
does, with the RSP_AT of its own tick (R205, R213, R223; NOTES 155). -/
def execServiceReqTimeout (str : Fin 16) (s : State) : Out :=
  .next ((List.range 128).foldl (fun t pos =>
    let k := 128 * str.val + pos
    let x := t.getSta k
    if x.req.isEmpty ∨ t.n < x.reqTick + 4 then t
    else if x.tries < 3 then
      (if t.asks str pos then t.sendReq str pos (x.req.take 8 ++ beBytes 4 (t.rspAt str pos) ++ x.req.drop 12) x.reqSeq (x.tries + 1) else t)
    else t.updSta k fun x => { x with req := [], admStep := 0, matched := x.admitted }) s)

/-- `STATION_ADMIT` (R213). -/
def execStationAdmit (str : Fin 16) (pos : Fin 128) (s : State) : Out :=
  .next (
    let k := 128 * str.val + pos.val
    if (s.getSta k).admReady then (s.setAdmitted k true).updSta k fun x => { x with admReady := false } else s)

/-- `STATION_ADMISSION_LOSS` (R210, R234). -/
def execStationAdmissionLoss (str : Fin 16) (pos : Fin 128) (s : State) : Out :=
  .next (
    let k := 128 * str.val + pos.val
    if (s.getSta k).lose then s.setAdmitted k false else s)

/-- The 16-byte map of the positions of a string that `p` holds of (R539). -/
def State.posMap (s : State) (str : Nat) (p : Sta → Bool) : List Byte :=
  (List.range 16).map fun k => BitVec.ofNat 8 ((List.range 8).foldl
    (fun b j => b + b2n (p (s.getSta (128 * str + 8 * k + j))) * 2 ^ j) 0)

/-- `ADMIT_SEND` (R539). -/
def execAdmitSend (s : State) : Out :=
  .next (
    if !s.isPair || !s.drives then s
    else s.sendPair ((s.frame 0x16 0 0 0xFF 0 ((List.range 16).flatMap fun k =>
      s.posMap k (·.admitted) ++ s.posMap k (·.prob != 0)))))

/-- `ADMIT_RECEIVE` (R539): the partner's maps, taken whole. -/
def execAdmitReceive (f : Frame) (s : State) : Out :=
  .next (match s.pairErr f with
    | some e => s.countPairErr e
    | none =>
      if f.kind ≠ 0x16#8 ∨ !s.isPair ∨ s.dev = .active ∨ f.payload.length ≠ 512 then s
      else s.img.stations.foldl (fun t d =>
        let bit (o : Nat) : Bool := nbit (beAt f.payload (32 * d.str + o + d.pos / 8) 1) (d.pos % 8)
        let t := t.setAdmitted (128 * d.str + d.pos) (bit 0)
        t.setProb (128 * d.str + d.pos) (if bit 0 && bit 16 then (if d.ack then 2 else 1) else 0)) s)

/-! ### Probation (R233, R234) -/

/-- `PROBATION_START` (R233): at the boundary after the reply that calls for it; the partner goes by the ADMIT message (R539). -/
def execProbationStart (str : Fin 16) (pos : Fin 128) (s : State) : Out :=
  .next (
    let k := 128 * str.val + pos.val
    let x := s.getSta k
    let s := s.updSta k fun x => { x with probDue := false }
    if x.probDue ∧ x.admitted ∧ x.prob = 0 ∧ s.drives then s.setProb k ((s.staDef k).elim 1 fun d => if d.ack then 2 else 1) else s)

/-- The slowest class among a station's runs (R234). -/
def State.slowest (s : State) (d : StaDef) : Nat := d.slots.foldl (fun c r => max c (s.schedOf r).1) 0

/-- `PROBATION_END` (R234, R539). -/
def execProbationEnd (str : Fin 16) (pos : Fin 128) (s : State) : Out :=
  .next (
    let k := 128 * str.val + pos.val
    let x := s.getSta k
    match s.staDef k with
    | none => s
    | some d =>
      let landed := decide (0 < s.n) && x.u == some (s.n - 1)
      let excess := (x.prob == 1 && decide (2 ^ s.slowest d ≤ x.streak)) || (x.prob == 2 && x.ack && decide (x.ackTick < s.n) && landed)
      if excess && s.drives then (s.setProb k 0).updSta k fun x => { x with probEnd := some s.n, probDue := false, ack := false } else s)

/-- `REJOIN_ACK_SET` (R151): at the boundary after the commit of a STACK. -/
def execRejoinAckSet (station : Fin 2049) (s : State) : Out :=
  .next (
    let x := s.getSta station
    if !x.ackPend then s
    else s.updSta station fun x => { x with
      ackPend := false, ack := x.ack || x.prob == 2, ackTick := if x.prob = 2 ∧ !x.ack then s.n else x.ackTick })

/-! ### Break relay (R235) -/

/-- `HEARD_MAPS_SEND` (R235). -/
def execHeardMapsSend (s : State) : Out :=
  .next (if s.isPair ∧ s.dev = .standby then s.send (.heard ((List.range 16).map fun k => (s.getStr k).heard)) else s)

/-- `HEARD_MAPS_RECEIVE` (R235): kept until the tick ends. -/
def execHeardMapsReceive (maps : List (BitVec 128)) (s : State) : Out :=
  .next (if s.isPair ∧ s.dev = .active then
      (List.range 16).foldl (fun t k => t.updStr k fun y => { y with peer := maps[k]? }) s
    else s)

/-- `RELAY_END` (R235): after 16 ticks in which every station either end heard was heard here. -/
def execRelayEnd (str : Fin 16) (s : State) : Out :=
  .next (if s.rfb (F.STR_STAT_RELAY str) ∧ 16 ≤ (s.getStr str).quiet then
      (s.wfb (F.STR_STAT_RELAY str) false).updStr str fun y => { y with quiet := 0 }
    else s)

/-- The stations admitted on a string, as a map. -/
def State.admittedMap (s : State) (str : Nat) : BitVec 128 :=
  (s.stasOf str).foldl (fun m d => if (s.getSta (128 * str + d.pos)).admitted then m ||| BitVec.ofNat 128 (2 ^ d.pos) else m) 0

/-- The map of the stations heard at a port in the tick that ends (R235, R240). -/
def State.heardEnd (s : State) (port : Nat) : State :=
  let m := (s.getStr port).heard.toNat
  ((List.range 4).foldl (fun t i => t.wf (F.STR_HEARD_HEARD port i) (bitsOf m (32 * i) 32)) s).updStr port fun y =>
    { y with heard := 0 }

/-- What a string's tick that ends leaves: missing replies (R64, R240), the reply streaks of R234, the relay decision of
R235, the maps of the last tick. `n` is the tick that ends. -/
def State.stringEnd (s : State) (n k : Nat) : State :=
  let y := s.getStr k
  let s := (s.stasOf k).foldl (fun t d =>
    let j := 128 * k + d.pos
    let x := t.getSta j
    let hit := x.u == some n
    let t := if x.admitted && !hit then t.inc (F.STR_MISS_MISSING k) else t
    if x.streak = 0 ∧ !hit then t else t.updSta j fun x => { x with streak := if hit then x.streak + 1 else 0 }) s
  let peer := if s.loop k then some (s.getStr (k + 1)).heard else y.peer
  let relays := s.rfb (F.STR_CTRL_RELAY_EN k) && !nbit (s.rf F.SYS_MODE_RATE1000) k &&
    ((s.isPair && s.dev == .active) || s.loop k)
  let s := match peer with
    | some m =>
      let only := m &&& ~~~y.heard
      let s := if relays && decide (only &&& s.admittedMap k ≠ 0) then s.wfb (F.STR_STAT_RELAY k) true else s
      s.updStr k fun y => { y with quiet := if only = 0 then y.quiet + 1 else 0 }
    | none => if y.quiet = 0 then s else s.updStr k fun y => { y with quiet := 0 }
  let s := s.wfb (F.STR_STAT_PEER k) y.fwdNow
  let s := if y.relayTick = some n then s else s.wfb (F.STR_STAT_RELAYING k) false
  let s := if s.loop k then s.heardEnd (k + 1) else s
  (s.heardEnd k).updStr k fun y => { y with peer := none, fwdNow := false }

end Sys2Proof.Machine
end

