-- ==== Sys2Proof/Machine/Seesaw.lean ====
section
/-!
DEFINITION. The Seesaw: the pair link (R242 to R245), the lease (R246 to R249), epochs (R250 to R252), the claim (R253 to
R256), planned handover (R260, R261) and the start of a pair (R262, R263).
-/
namespace Sys2Proof.Machine

/-! ### Roles, grade, servo -/

/-- Role codes of `SAW_STAT.ROLE` (R266). -/
def roleCode : SawRole → Nat
  | .none => 0 | .leased => 1 | .unleased => 2 | .lapsed => 3 | .relinquished => 4 | .standby => 5 | .claim => 6
  | .ready => 7

/-- What a change of the role means to the spares (R467): a member that becomes leased by a partner that is no spare sends
them back. -/
def State.parkSpares (s : State) (r : SawRole) : State :=
  let s := if r = .unleased then s else { s with rack := { s.rack with spareWoken := false } }
  if r = .leased ∧ s.saw.role ≠ .leased ∧ !s.img.spares.contains (s.rf F.PAIR_STAT_PEER_ADDR) then
    s.img.spares.foldl (fun t a => t.rackInject false true a) s
  else s

/-- The role taken; from when on the device is unleased (R467). An epoch written for a claim that ends goes with it. -/
def State.setRole (s : State) (r : SawRole) : State :=
  let s := s.parkSpares r
  { s.wf F.SAW_STAT_ROLE (roleCode r) with
    saw := { s.saw with
      role := r
      claimEpoch := if r = .claim then s.saw.claimEpoch else none
      unleasedAt := if r = .unleased then (s.saw.unleasedAt.orElse fun _ => some s.mono) else none } }

/-- The Seesaw's record changed. -/
def State.updSaw (s : State) (f : Saw → Saw) : State := { s with saw := f s.saw }

/-- The servo slews an offset of `ahead` ns toward 0 (R407, R409, R413): a counter that is ahead of its reference gets no faster, one
that is behind no slower, within the limits; how far it goes is a free value (NOTES 58). -/
def State.servo (s : State) (ahead : Int) : State :=
  let (v, s) := s.draw
  let inc := (s.reg 0x4011000C).toNat
  s.setInc (if 0 < ahead then inc - v % (inc - incMin + 1) else if ahead < 0 then inc + v % (incMax - inc + 1) else inc)

/-! ### Epochs (R250, R251) -/

/-- The lowest epoch of the device's own parity above every epoch it knows (R250). -/
def State.nextEpoch (s : State) : Nat :=
  let e := s.rf F.SAW_KNOWN_KNOWN + 1
  if e % 2 = (if s.rfb F.SAW_STAT_END_B then 0 else 1) then e else e + 1

/-- The epoch that a member takes with the lease (R250): the one that it has written for the claim or handover under way, unless it
has come to know a higher one. -/
def State.ownEpoch (s : State) : Nat :=
  match s.saw.claimEpoch with
  | some e => if s.rf F.SAW_KNOWN_KNOWN ≤ e then e else s.nextEpoch
  | none => s.nextEpoch

/-- Whether it fits in 32 bits; with none left `EPOCH_END` is set (R250). -/
def State.epochFits (s : State) : Bool := decide (s.ownEpoch < 2 ^ 32)

/-- The new epoch written into the epoch record, from which it is known (R250, R251). -/
def State.writeEpoch (s : State) (tick : Nat) : State :=
  let e := s.ownEpoch
  ((s.retWrite retBase (leBytes 4 e ++ leBytes 4 e ++ leBytes 8 tick ++ List.replicate 48 0)).wf F.SAW_KNOWN_KNOWN e).updSaw
    fun w => { w with claimEpoch := some e }

/-! ### Messages (R243 to R245) -/

/-- The three time fields that end a message (R245). -/
def State.echoes (s : State) : List Byte := beBytes 8 s.mono ++ beBytes 8 s.saw.echoDep ++ beBytes 8 s.saw.echoArr

/-- A signed difference folded to the nearest multiple of T_b. -/
def State.nearest (s : State) (d : Int) : Int :=
  let t : Int := s.tb
  (d + t / 2) % t - t / 2

/-- The lock on the partner's tick starts and its monotonic time, from a message that arrived at `now` (R245, R262). -/
def State.lockPair (s : State) (f : Frame) (dep delay now : Nat) : State :=
  let offset : Int := (dep : Int) + delay - now
  let ref : Int := (s.tstart.toNat : Int) - ((f.tstart.toNat : Int) - offset)
  s.updSaw fun w => { w with offset := offset, anySeen := true, err := some (if s.dev = .ready then s.nearest ref else ref) }

/-- The measurement on the arrival at `now` of a message that counts (R245, R267). -/
def State.measurePair (s : State) (f : Frame) (now : Nat) : State :=
  let dep := beAt f.payload 24 8
  let ed := beAt f.payload 32 8
  let ea := beAt f.payload 40 8
  let delay := if ed = 0 then s.saw.delay else ((((now : Int) - ed) - ((dep : Int) - ea)) / 2).toNat
  let s := if ed = 0 then s else (s.wf F.PAIR_LAT_LAT delay).trackMax F.PAIR_LAT_MAX delay
  (s.updSaw fun w => { w with echoDep := dep, echoArr := now, delay := delay, msgNow := true }).lockPair f dep delay now

/-- The mirror engine is idle (R270). -/
def State.mirrIdle (s : State) : Bool := decide (s.saw.role = .unleased) && s.saw.lost && !s.mirr.copying

/-- An active whose mirror engine is idle: MODE reads so, and the log of unacknowledged records is discarded (R270). -/
def State.mirrRest (s : State) : State :=
  if s.isPair && s.dev == .active && s.mirrIdle then
    { (s.wf F.MIRR_STAT_MODE 0).wfb F.MIRR_STAT_MERGING false with
      mirr := { s.mirr with log := [], frames := [], mergeTick := none } }
  else s

/-- An active that no partner follows (R248). -/
def State.partnerLost (s : State) : State :=
  let s := s.updSaw fun w => { w with lost := true }
  (if s.saw.role = .leased ∨ s.saw.role = .lapsed then s.setRole .unleased else s).mirrRest

/-- What a member learns of its partner (R248, R267, R284, R286): a copy ends with the partner in neither SYNCING nor STANDBY. -/
def State.partnerIs (s : State) (code grade : Nat) : State :=
  let s := s.wf F.PAIR_STAT_PEER_STATE code
  let s := if code = 5 then s else { s with mirr := { s.mirr with
    copyDone := false, copying := s.mirr.copying && (code == 6 || !s.isPair) } }
  let s := s.updSaw fun w => { w with
    partner := code, pGrade := grade
    pLevels := if code = 6 ∧ w.partner ≠ 6 then none else w.pLevels }
  if s.dev ≠ .active ∨ code ∉ [4, 5, 0xA, 0xB] then s else s.partnerLost

/-- Levels equal to the partner's (R263, R335). -/
def State.levelsMatch (s : State) : Bool := s.saw.pLevels == some (s.img.azwin, s.img.mlayout)

/-- Ticks without a lease renewal or a heartbeat that the rules allow (R246, R253). -/
def State.leaseLen (s : State) : Nat := s.rf F.SAW_CFG_LEASE
def State.claimLen (s : State) : Nat := s.leaseLen + 1

/-- A handover that ends without a change of roles. -/
def State.endHandover (s : State) : State := (s.wf F.SAW_HOVR_RESULT 4).updSaw fun w => { w with hovrLive := false }

/-- A handover aborted by an event before boundary h + 1 (R261). -/
def State.abortHandover (s : State) : State :=
  if s.saw.hovrLive ∧ s.saw.role ≠ .relinquished ∧ s.n ≤ s.saw.hovrTick then s.endHandover else s

/-- Whether the active of a handover is in tick h + 1 or later and has not been told how it ended (R260). -/
def State.handedOver (s : State) : Bool :=
  decide (s.saw.role = .relinquished) || (s.saw.hovrLive && decide (s.saw.hovrTick < s.n))

/-- An activation whose deadline the ticks without execution have passed lapses (R260; NOTES 152). -/
def State.dropLate (s : State) : State :=
  let live (a : Act) : Bool := s.flights.any fun x => x.task == a.task && x.shard == a.shard && x.f == a.f.toNat
  let s := { s with eng := tmap {} s.eng fun _ g => { g with cur := g.cur.filter live, ready := g.ready.filter live } }
  (List.range 12).foldl State.engRegs s

/-- An active that hears ABORT before λ of tick h + 1 drives again (R260). -/
def State.driveOn (s : State) : State := s.dropLate.endHandover.setRole .leased

/-! ### The link (R242) -/

/-- `PAIR_STAT.UP` and HALF from the lanes. -/
def State.laneStat (s : State) : State :=
  let a := s.rfb F.PAIR_STAT_LANE0
  let b := s.rfb F.PAIR_STAT_LANE1
  (s.wfb F.PAIR_STAT_UP (a || b)).wfb F.PAIR_STAT_HALF (a != b)

/-- `PAIR_LANE_UP` (R17, R242, R286). -/
def execPairLaneUp (lane : Fin 2) (s : State) : Out :=
  .next (
    if !s.pairUse then s
    else
      let s := (s.wfb (if lane = 0 then F.PAIR_STAT_LANE0 else F.PAIR_STAT_LANE1) true).laneStat
      match s.saw.outSince with
      | none => s
      | some t =>
        let s := s.updSaw fun w => { w with outSince := none }
        if s.dev = .active ∧ s.saw.partner = 6 ∧ t + s.claimLen < s.n then { s with mirr := { s.mirr with wantCopy := true } } else s)

/-- `PAIR_LANE_DOWN` (R242, R261, R276): with the link lost a cut stream is discarded and a handover aborted. -/
def execPairLaneDown (lane : Fin 2) (s : State) : Out :=
  .next (
    let s := (s.wfb (if lane = 0 then F.PAIR_STAT_LANE0 else F.PAIR_STAT_LANE1) false).laneStat
    if s.rfb F.PAIR_STAT_UP then s
    else
      let s := s.abortHandover
      { s with
        saw := { s.saw with
          outSince := s.saw.outSince.orElse fun _ => some s.n
          hovrAbort := s.saw.hovrAbort || s.saw.hbHandover != 0
          claimEpoch := if s.saw.hbHandover = 0 then s.saw.claimEpoch else none
          hbHandover := 0 }
        mirr := { s.mirr with rx := [] } })

/-! ### Heartbeats -/

/-- `HEARTBEAT_SEND` (R243, R247, R248, R260). -/
def execHeartbeatSend (s : State) : Out :=
  .next (
    if !s.isPair || s.dev != .active || s.saw.role == .relinquished then s
    else
      let hov := s.saw.hovrLive && decide (s.n < s.saw.hovrTick)
      let rel := s.saw.hovrLive && decide (s.n = s.saw.hovrTick)
      let fl := b2n hov + 2 * b2n rel + 4 * b2n (s.saw.role == .lapsed) + 8 * b2n (s.saw.role == .unleased)
      s.sendPair (s.frame 0x10 0 0 0xFF 0 (beBytes 1 7 ++ beBytes 1 (s.rf F.HLTH_GRADE_GRADE) ++ beBytes 1 fl ++ [0] ++
        beBytes 8 (if s.mirr.recLeft.isNone then 0 else s.mirr.lastSent.getD 0) ++ beBytes 8 (if s.saw.hovrLive then s.saw.hovrTick else 0) ++
        beBytes 4 (s.rf F.SAW_KNOWN_KNOWN) ++ s.echoes)))

/-- A HEARTBEAT without LAPSED ends a claim and clears b (R253, R255). -/
def State.endClaim (s : State) : State :=
  let s := ((s.wf F.SAW_STAT_MISS_HB 0).wfb F.SAW_STAT_PATH_FAULT false).wfb F.SAW_STAT_NO_PATH false
  let s := s.updSaw fun w => { w with claimTrip := none }
  if s.saw.role = .claim then s.setRole .standby else s

/-- The standby's lag (R280). -/
def State.lag (s : State) : Nat :=
  let a := match s.mirr.applying with | some r => max s.mirr.applied r.last | none => s.mirr.applied
  (s.saw.hbTick.getD 0) - 1 - a

/-- A HEARTBEAT counted (R186, R244, R245, R252, R255, R267, R280). -/
def State.countHeartbeat (s : State) (f : Frame) (now : Nat) : State :=
  let p := f.payload
  let fl := beAt p 2 1
  let s := s.measurePair f now
  let s := (s.partnerIs (beAt p 0 1) (beAt p 1 1)).wf F.PAIR_STAT_PEER_ADDR (f.srcMac.toNat / 65536 % 256)
  let s := s.updSaw fun w => { w with
    hbTick := some f.tick.toNat, hbLapsed := nbit fl 2, hbRelinq := nbit fl 1, hbHandover := beAt p 12 8
    hbSame := if s.dev = .active ∧ (w.role = .leased ∨ w.role = .unleased) ∧ f.epoch.toNat = s.rf F.SAW_EPOCH_EPOCH then
      some f.tick.toNat else w.hbSame
    newEpoch := w.newEpoch || (w.role == .relinquished && decide (s.rf F.SAW_EPOCH_EPOCH < f.epoch.toNat)) }
  let s := if s.dev = .standby ∨ s.dev = .syncing then
      let s := s.wf F.SAW_EPOCH_EPOCH f.epoch.toNat
      s.wf F.MIRR_STAT_LAG (min s.lag 65535)
    else if s.saw.newEpoch then (s.wf F.SAW_EPOCH_EPOCH f.epoch.toNat).wf F.MIRR_STAT_LAG (min s.lag 65535)
    else s
  let s := if s.ptp.hbRef then s.servo ((now : Int) - (beAt p 24 8 + s.rf F.PAIR_LAT_LAT)) else s
  let s := if s.dev = .standby ∧ !nbit fl 2 then s.endClaim else s
  (s.learnEpoch (beAt p 20 4)).learnEpoch f.epoch.toNat

/-- A HEARTBEAT before the partner's tick number is adopted: it does not count, and gives that number and the lock (R244, R263). -/
def State.readyHeartbeat (s : State) (f : Frame) : State :=
  let s := s.lockPair f (beAt f.payload 24 8) s.saw.delay s.mono
  let s := s.updSaw fun w => { w with hbReady := some f.tick.toNat, hbReadyAt := s.n }
  (s.learnEpoch (beAt f.payload 20 4)).learnEpoch f.epoch.toNat

/-- `HEARTBEAT_RECEIVE` (R244): late ones count as missing, one of a tick that has not begun is held. -/
def execHeartbeatReceive (f : Frame) (s : State) : Out :=
  .next (match s.pairErr f with
    | some e => s.countPairErr e
    | none =>
      if f.kind ≠ 0x10#8 ∨ !s.isPair ∨ f.payload.length ≠ 48 then s
      else if s.dev = .ready then s.readyHeartbeat f
      else if f.tick.toNat < s.n then s.inc F.PAIR_ERR_LATE
      else if s.n < f.tick.toNat then s.updSaw fun w => { w with early := w.early ++ [(s.mono, f)] }
      else s.countHeartbeat f s.mono)

/-! ### Grants -/

/-- Whether the standby is eligible (R254, R281, R336, R397). -/
def State.eligible (s : State) : Bool :=
  decide (s.dev = .standby) && decide (s.rf F.HLTH_GRADE_GRADE ≠ 2) && (s.rfb F.SYS_MODE_LAG || decide (s.lag = 0))
    && !s.mirr.rxCopying && !s.rfb F.SEC_DBG_UNLOCKED && s.epochFits && !(s.chg.translating && s.img.failover)

/-- `SAW_STAT.BARRED` and EPOCH_END of a standby (R250, R254). -/
def State.barred (s : State) : State :=
  if s.dev = .standby then (s.wfb F.SAW_STAT_BARRED (!s.eligible)).wfb F.SAW_STAT_EPOCH_END (!s.epochFits) else s

/-- `GRANT_SEND` (R243, R249, R260). -/
def execGrantSend (s : State) : Out :=
  .next (
    if !s.isPair || s.dev != .standby || s.saw.role != .standby then s
    else
      let s := s.barred
      let fl := b2n s.eligible + 2 * b2n (s.saw.hbHandover != 0) + 4 * b2n s.saw.hovrAbort +
        8 * b2n (s.rfb F.SAW_STAT_PATH_FAULT)
      (s.sendPair (s.frame 0x11 0 0 0xFF 0 (beBytes 1 6 ++ beBytes 1 (s.rf F.HLTH_GRADE_GRADE) ++ beBytes 1 fl ++ [0] ++
        beBytes 8 (s.saw.hbTick.getD 0) ++ beBytes 8 s.mirr.applied ++ beBytes 4 s.lag ++ s.echoes))).updSaw
        fun w => { w with hovrAbort := false })

/-- What a GRANT says (R246, R261). -/
def State.noteGrant (s : State) (f : Frame) (now : Nat) : State :=
  let p := f.payload
  let fl := beAt p 2 1
  let s := (s.measurePair f now).partnerIs (beAt p 0 1) (beAt p 1 1)
  let s := s.wf F.MIRR_STAT_LAG (min 65535 (beAt p 20 4))
  let s := s.updSaw fun w => { w with
    grantElig := nbit fl 0, grantLag := beAt p 20 4, grantGrade := beAt p 1 1 }
  if beAt p 1 1 ≠ 0 ∨ beAt p 20 4 ≠ 0 then s.abortHandover else s

/-- A GRANT counted (R246 to R248, R260); a standby that returns to an idle mirror engine is to receive a recopy (R270). -/
def State.countGrant (s : State) (f : Frame) (now : Nat) : State :=
  let s := s.noteGrant f now
  let s := if f.epoch.toNat ≠ s.rf F.SAW_EPOCH_EPOCH then s
    else
      let s := s.updSaw fun w => { w with grantTick := some f.tick.toNat }
      if s.handedOver then (if nbit (beAt f.payload 2 1) 2 then s.driveOn else s)
      else if s.saw.role = .unleased ∨ s.saw.role = .lapsed then
        { (s.setRole .leased).wf F.SAW_STAT_MISS_GRANT 0 with
          mirr := { s.mirr with wantCopy := s.mirr.wantCopy || s.rf F.MIRR_STAT_MODE == 0 } }
      else s
  s.learnEpoch f.epoch.toNat

/-- Messages of the tick that begins count now (R244). -/
def State.earlyMessages (s : State) : State :=
  let now := s.saw.early.filter fun e => e.2.tick.toNat == s.n
  let s := s.updSaw fun w => { w with early := w.early.filter fun e => decide (s.n < e.2.tick.toNat) }
  now.foldl (fun t e =>
    if e.2.kind = 0x10#8 then t.countHeartbeat e.2 e.1 else if t.dev = .active then t.countGrant e.2 e.1 else t) s

/-- `LEASE_POINT` (R246 to R248). -/
def execLeasePoint (s : State) : Out :=
  .next (
    if s.saw.role = .unleased ∧ s.dev = .active ∧ s.saw.takeTick.any (fun t => decide (t + s.leaseLen ≤ s.n)) then
      s.partnerLost
    else if !s.isPair || s.dev != .active || !(s.saw.role == .leased || s.saw.role == .lapsed) then s
    else if s.saw.grantTick = some s.n then s.wf F.SAW_STAT_MISS_GRANT 0
    else
      let s := (s.inc F.SAW_STAT_MISS_GRANT).inc F.PAIR_MISS_GRANT
      if s.saw.role = .lapsed ∨ s.rf F.SAW_STAT_MISS_GRANT < s.leaseLen then s
      else if s.saw.sawFrame then (s.setRole .lapsed).inc F.SAW_LAPSE_LAPSES
      else ((s.setRole .unleased).inc F.SAW_LAPSE_PARTNER_LOST).partnerLost)

/-! ### HELLO and TRIP -/

/-- `HELLO_SEND` (R243, R262). -/
def execHelloSend (s : State) : Out :=
  .next (
    if !s.isPair || !(s.dev == .ready || s.dev == .syncing) then s
    else s.sendPair (s.frame 0x12 0 0 0xFF 0 (beBytes 1 (devCode s.dev) ++ beBytes 1 (s.rack.addr.getD 0) ++
      beBytes 1 (b2n (s.rfb F.SAW_STAT_END_B)) ++ beBytes 1 (s.rf F.HLTH_GRADE_GRADE) ++ beBytes 2 s.img.azwin ++
      beBytes 2 s.img.mlayout ++ beBytes 4 (s.rf F.SAW_KNOWN_KNOWN) ++ slice s.img.hash 0 8 ++ beBytes 4 0 ++ s.echoes)))

/-- `HELLO_RECEIVE` (R245, R248, R250, R252, R263, R465): it has no deadline (NOTES 23). -/
def execHelloReceive (f : Frame) (s : State) : Out :=
  .next (match s.pairErr f with
    | some e => s.countPairErr e
    | none =>
      if f.kind ≠ 0x12#8 ∨ !s.isPair ∨ f.payload.length ≠ 48 then s
      else
        let p := f.payload
        let s := (s.measurePair f s.mono).partnerIs (beAt p 0 1) (beAt p 3 1)
        let s := s.wf F.PAIR_STAT_PEER_ADDR (beAt p 1 1)
        let s := s.updSaw fun w => { w with pLevels := some (beAt p 4 2, beAt p 6 2), helloPeer := beAt p 0 1 == 4 }
        let s := if s.rack.addr = some (beAt p 1 1) then { s with rack := { s.rack with dup := true } } else s
        s.learnEpoch (beAt p 8 4))

/-- `PAIR_TRIP_RECEIVE` (R248, R250, R253, R258, R261): a standby proceeds under R253, whatever handover was under way. -/
def execPairTripReceive (f : Frame) (s : State) : Out :=
  .next (match s.pairErr f with
    | some e => s.countPairErr e
    | none =>
      if f.kind ≠ 0x13#8 ∨ !s.isPair ∨ f.payload.length ≠ 12 then s
      else
        let s := s.abortHandover.partnerIs 0xA s.saw.pGrade
        let s := s.updSaw fun w => { w with
          msgNow := true, anySeen := true, tripSeen := some (beAt f.payload 0 1), hbHandover := 0 }
        s.knowEpoch f.epoch.toNat)

/-- `PARTNER_FRAME_RECEIVE` (R190, R248, R255, R263): a frame on a string with the partner's SRC. -/
def execPartnerFrameReceive (port : Fin 16) (f : Frame) (s : State) : Out :=
  .next (
    if !s.hears port then s
    else match s.checkStr port f with
    | some e => s.countErr port e
    | none =>
      if f.src.toNat ≠ s.peerSrc then s
      else
        let cue := f.kind = 1#8 ∧ !frameFlag f 1
        s.updSaw fun w => { w with
          sawFrame := true
          cueSrc := w.cueSrc || f.kind == 1#8
          cueSeen := if cue ∧ f.epoch.toNat = s.rf F.SAW_EPOCH_EPOCH then some f.tick.toNat else w.cueSeen })

/-! ### The claim (R253 to R256) -/

/-- The end of tick `n` for the Seesaw: b (R253), `PAIR_STAT.PEER`, and where a miss is first counted from (R248). -/
def State.sawEnd (s : State) (n : Nat) : State :=
  if !s.isPair then s
  else
    let s := (s.wfb F.PAIR_STAT_PEER s.saw.msgNow).updSaw fun w => { w with winTicks := if w.winEnd then w.winTicks else w.winTicks + 1 }
    let s := if s.dev ≠ .standby then s
      else if s.saw.tripSeen.isSome then s.wf F.SAW_STAT_MISS_HB (min 15 s.claimLen)
      else if s.saw.hbTick = some n ∧ !s.saw.hbLapsed then s.wf F.SAW_STAT_MISS_HB 0
      else (s.inc F.SAW_STAT_MISS_HB).inc F.PAIR_MISS_HB
    let s := if s.rfb F.SAW_STAT_PINGPONG ∧ s.saw.takeTick.elim true (fun t => decide (t + 16 ≤ n + 1)) then
        s.wfb F.SAW_STAT_PINGPONG false else s
    let miss := s.rf F.SAW_STAT_MISS_GRANT
    s.updSaw fun w => { w with
      msgNow := false
      tripSeen := none
      claimTrip := w.tripSeen.orElse fun _ => w.claimTrip
      sawFrame := if miss = 0 then false else w.sawFrame }

/-- An entry into ACTIVE made due, its epoch written in the tick before (R251, R256). -/
def State.scheduleActive (s : State) (cause : Nat) : State :=
  if !s.epochFits ∨ s.rfb F.SEC_DBG_UNLOCKED then (if s.epochFits then s else s.wfb F.SAW_STAT_EPOCH_END true)
  else ((s.writeEpoch (s.n + 1)).schedule .active).updSaw fun w => { w with takeCause := cause }

/-- `CLAIM_TICK_START` (R253 to R255): after an abandoned claim only once a tick passed without the active's cue. -/
def execClaimTickStart (s : State) : Out :=
  .next (
    if !s.isPair || s.dev != .standby || decide (s.rf F.SAW_STAT_MISS_HB < s.claimLen) then s
    else
      let s := s.barred
      let seen := s.rfb F.SAW_STAT_PATH_FAULT && s.saw.claimTrip.isNone && s.saw.cueSeen == some (s.n - 1)
      if !s.eligible || seen then s
      else (s.setRole .claim).writeEpoch (s.n + 1))

/-- `CLAIM_TICK_END` (R255, R256, R282): silence is judged first, then the path, then an apply in progress. -/
def execClaimTickEnd (s : State) : Out :=
  .next (
    if s.saw.role != .claim then s
    else
      let near (t : Option Nat) : Bool := t == some s.n || (decide (0 < s.n) && t == some (s.n - 1))
      let cue := if s.saw.claimTrip.isSome then s.saw.cueSeen == some s.n else near s.saw.cueSeen
      if cue then (((s.setRole .standby).wfb F.SAW_STAT_PATH_FAULT true).inc F.SAW_CNT_ABANDONED).updSaw fun w =>
        { w with claimTrip := none }
      else if !near s.saw.replyTick then s.wfb F.SAW_STAT_NO_PATH true
      else if s.mirr.applying.isSome then s.wfb F.SAW_STAT_NO_PATH false
      else if !s.eligible then (s.setRole .standby).barred
      else (s.wfb F.SAW_STAT_NO_PATH false).scheduleActive (if s.saw.claimTrip.isSome then 2 else 1))

/-- The lease taken at the boundary of the present tick (R250, R251, R256, R259, R266, R283, R539). -/
def State.takeLease (s : State) : State :=
  let e := s.ownEpoch
  let c := s.saw.takeCause
  let excess := c = 2 ∧ (s.saw.claimTrip = some 1 ∨ s.saw.claimTrip = some 2)
  let s := (s.writeEpoch s.n).wf F.SAW_EPOCH_EPOCH e
  let s := ((s.wf F.SAW_TAKE_CAUSE c).wfb F.SAW_TAKE_OVERRUN excess).wf F.SAW_TAKE_TICK_LO s.n
  let s := (s.wfb F.SAW_STAT_PINGPONG excess).wfb F.SAW_STAT_BARRED false
  let s := if c = 1 ∨ c = 2 then s.inc F.SAW_CNT_TAKEOVERS else s
  let s := (s.setRole .unleased).updSaw fun w => { w with
    takeTick := if c = 0 then w.takeTick else some s.n
    stopCues := false, claimTrip := none, hovrLive := false, grantTick := none, cueSeen := none, sawFrame := false
    hbHandover := 0, lost := c != 3 }
  { s with
    sta := tmap {} s.sta fun _ x => { x with
      streak := if x.prob = 1 then 0 else x.streak, ack := false, ackPend := false, probDue := false, dlA := none, dlB := none }
    mirr := { applied := s.mirr.applied, lastSent := some s.mirr.applied, dig := s.mirr.rxDig, lo := s.mirr.applied + 1
              rehTick := s.n } }.wf F.MIRR_STAT_MODE (if c = 3 then 2 else 0)

/-- A member becomes STANDBY (R246, R260, R284). -/
def State.becomeStandby (s : State) : State :=
  (s.setRole .standby).updSaw fun w => { w with hovrLive := false, newEpoch := false, claimTrip := none }

/-- A member enters SYNCING: tick number and monotonic time of the partner, adopted once (R30, R134, R263). -/
def State.adoptPartner (s : State) : State :=
  let s := s.setMono ((s.mono : Int) + s.saw.offset).toNat
  match s.saw.hbReady with
  | none => s
  | some t => { s with tick := BitVec.ofNat 64 (t + (s.n - s.saw.hbReadyAt)), tstart := BitVec.ofNat 64 s.mono }

/-- The frame part of an image, with its levels (R321): everything but the program part and the twin modes, which MODE holds (R27). -/
def framePart (g : Image) : Image :=
  { g with hash := [], prev := [], azcLevel := 1, mode := g.mode &&& ~~~(0x00003F00#32), tasks := [], varmap := [], retain := [],
           journal := [], telegrams := [] }

/-- Whether the member can translate from the image with hash `h`: its FROM, which the other slot holds, with an equal frame part
(R334, R336, R339). -/
def State.translates (s : State) (h : List Byte) : Bool :=
  s.img.prev == h && s.chg.fromImg.any fun o => framePart o == framePart s.img

/-- Whether the member's image may run beside the partner's (R335): it is equal, or one is the other's FROM,
which the own other slot must then hold (R336). -/
def State.imageFits (s : State) : Bool :=
  match s.saw.version with
  | none => false
  | some (h, frm, _, _) => h == s.img.hash || s.translates h || frm == s.img.hash

/-- The row of R263 that a member in READY takes at the boundary that follows; an unlocked one takes none to ACTIVE
(R397). Differing levels are reported by the code that R340 has for them (NOTES 144). -/
def State.readyPair (s : State) : State :=
  if !s.isPair || s.dev != .ready || !s.addrOk then s
  else if s.saw.hbReady.isSome then
    (if s.saw.version.isNone then s
     else if !s.levelsMatch then (if s.rf F.SYS_CHG_REASON = 0xA then s else s.wf F.SYS_CHG_REASON 3)
     else if !s.imageFits then s.wf F.SYS_CHG_REASON 0xA
     else if s.rf F.SYS_CHG_REASON = 0xA then s
     else s.schedule .syncing)
  else if s.saw.helloPeer then
    (if s.levelsMatch && !s.rfb F.SAW_STAT_END_B then s.scheduleActive 0 else s)
  else if s.saw.winEnd && !s.saw.anySeen then
    (if s.saw.cueSrc then s.wfb F.SAW_STAT_PATH_FAULT true
     else if s.saw.pathSeen then s.scheduleActive 0 else s)
  else s

/-- The transition that a device in READY takes at the boundary that follows: in SOLO nothing but a missing address and an
unlock holds it (R22, R23, R397), in PAIR the rows of R263; after a function restart R332 brings its own. -/
def State.readyStart (s : State) : State :=
  if s.chg.stopEnd.isSome || s.due.isSome then s
  else if s.isSolo && s.dev == .ready && s.addrOk && !s.rfb F.SEC_DBG_UNLOCKED then s.schedule .active
  else s.readyPair

/-- The start window in ticks (R262). -/
def State.startWin (s : State) : Nat := s.rf F.SAW_CFG_START_WIN * (if s.rfb F.SAW_STAT_END_B then 2 else 1)

/-- `START_WINDOW_EXPIRY` (R262, R263): the transmitters are released, and in READY the last rows are judged. -/
def execStartWindowExpiry (s : State) : Out :=
  .next (
    if !s.isPair || !decide (s.dev ∈ [.ready, .syncing, .standby, .active]) || (!s.saw.winEnd && decide (s.saw.winTicks < s.startWin)) then s
    else ({ s with squelch := false }.updSaw fun w => { w with winEnd := true }).readyStart)

/-! ### Planned handover (R260, R261) -/

/-- Whether the GRANT of this tick or of the one before counted; a missing GRANT carries no ELIGIBLE (R260, R265). -/
def State.granted (s : State) : Bool := s.saw.grantTick.any fun t => t == s.n || t + 1 == s.n

/-- Whether a bay of the partner is draining, which no message of the pair says: a free value (R260; NOTES 24). -/
def State.peerDrains (s : State) : Bool := s.draw.1 % 2 == 1

/-- The first code of R260 that refuses a handover; 0 for none. `peerDrains`: a bay of the partner is draining. -/
def State.handoverRefusal (s : State) (peerDrains : Bool) : Nat :=
  if s.dev ≠ .active ∨ s.saw.role ≠ .leased then 1
  else if !s.saw.grantElig ∨ !s.granted then 2
  else if s.saw.grantGrade ≠ 0 then 3
  else if s.saw.grantLag ≠ 0 then 4
  else if s.saw.hovrLive ∨ s.saw.takeTick.elim false (fun t => decide (s.n < t + 128)) then 5
  else if !s.levelsMatch then 6
  else if s.rf F.SEQ_FENCE_DRAINING ≠ 0 ∨ peerDrains then 7
  else 0

/-- `HANDOVER_CHECK` (R260): at boundary r; a request while one is under way leaves RESULT (NOTES 185). -/
def execHandoverCheck (s : State) : Out :=
  .next (
    if !s.saw.hovrReq then s
    else
      let c := s.handoverRefusal s.peerDrains
      let s := s.draw.2.updSaw fun w => { w with hovrReq := false }
      if c ≠ 0 then (if s.saw.hovrLive then s else s.wf F.SAW_HOVR_RESULT 3).wf F.SAW_HOVR_REASON c
      else
        let h := s.n + s.rf F.SAW_CFG_HOVR_LEAD
        let s := ((s.wf F.SAW_HOVR_RESULT 1).wf F.SAW_HOVR_REASON 0).wf F.SAW_HOVR_TICK_LO h
        (s.wf F.SYS_CHG_SW_TICK_LO h).updSaw fun w => { w with hovrLive := true, hovrTick := h })

/-- `HANDOVER_TICK` (R251, R260): the active's RELEASE at CUE_AT of tick h, the standby's epoch record. -/
def execHandoverTick (s : State) : Out :=
  .next (
    if s.dev = .active ∧ s.saw.hovrLive ∧ s.n = s.saw.hovrTick then
      s.releaseAll 2 false fun k => s.rfb (F.STR_CTRL_EN k) && !nbit (s.rf F.SYS_MODE_RATE1000) k
    else if s.isPair ∧ s.dev = .standby ∧ s.saw.hbHandover = s.n ∧ 0 < s.n ∧ s.epochFits then s.writeEpoch (s.n + 1)
    else s)

/-- `HANDOVER_UNCONFIRMED` (R260): neither the new epoch's HEARTBEAT nor ABORT by the end of tick h + 1. -/
def execHandoverUnconfirmed (s : State) : Out :=
  .next (
    if s.saw.role = .relinquished ∧ !s.saw.newEpoch then
      ((s.dropLate.setRole .lapsed).wf F.SAW_HOVR_RESULT 5).updSaw fun w => { w with hovrLive := false }
    else s)

end Sys2Proof.Machine
end

