-- ==== Sys2Proof/Machine/TriPeers.lean ====
section
/-!
DEFINITION. Triad members and links (R294, R295), TSYNC (R296 to R298), who joins, who sources a join (R314, R315).
-/
namespace Sys2Proof.Machine

/-! ### The ring (R294) -/

/-- The index of the peer on a link of member `m`. -/
def peerIdx (m : Nat) : TriLink → Nat
  | .a => m % 3 + 1
  | .b => (m + 1) % 3 + 1

/-- The bit of the link between two members in LINKS. -/
def linkBit (x y : Nat) : Nat := if y = x % 3 + 1 then x - 1 else y - 1

/-- The record of the peer on a link. -/
def State.peer (s : State) : TriLink → Peer
  | .a => s.tri.a
  | .b => s.tri.b

/-- The triad record changed. -/
def State.updTri (s : State) (f : Tri → Tri) : State := { s with tri := f s.tri }

/-- The record of a peer changed. -/
def State.updPeer (s : State) (l : TriLink) (f : Peer → Peer) : State :=
  match l with
  | .a => s.updTri fun t => { t with a := f t.a }
  | .b => s.updTri fun t => { t with b := f t.b }

/-- The link to a member. -/
def State.linkTo (s : State) (m : Nat) : TriLink := if peerIdx s.tri.idx .a = m then .a else .b

/-- The other link. -/
def otherLink : TriLink → TriLink
  | .a => .b
  | .b => .a

/-- A triad message of this member (R296). -/
def State.triFrame (s : State) (kind : Nat) (p : List Byte) : Frame := s.frame kind 0 s.tri.idx 0xFF 0 p

/-- A peer holds the image in force (R307). -/
def State.sameImage (s : State) (p : Peer) : Bool := p.image == s.img.hash.take 16

/-- A peer whose TSYNC of the present tick counted. -/
def State.counted (s : State) (p : Peer) : Bool := p.tick == some s.n

/-! ### Links (R295) -/

/-- `TRIAD_LINK_UP` (R17, R295, R320): a link that the device does not run stays idle. -/
def execTriadLinkUp (l : TriLink) (s : State) : Out := .next (if s.triLane l then s.wfb (F.TL_STAT_UP (tlIdx l)) true else s)

/-- `TRIAD_LINK_DOWN` (R295, R318). -/
def execTriadLinkDown (l : TriLink) (s : State) : Out :=
  .next ((s.wfb (F.TL_STAT_UP (tlIdx l)) false).updTri fun t =>
    match l with
    | .a => { t with downA := true }
    | .b => { t with downB := true })

/-- LINKS of this member (R296): its own two links. -/
def State.ownLinks (s : State) : Nat :=
  b2n s.tri.thruA * 2 ^ linkBit s.tri.idx (peerIdx s.tri.idx .a) + b2n s.tri.thruB * 2 ^ linkBit s.tri.idx (peerIdx s.tri.idx .b)

/-! ### TSYNC -/

/-- The states in which a member takes part in the triad messages: from READY on (R296). -/
def State.triOn (s : State) : Bool :=
  s.isTriad && s.addrOk && decide (s.dev = .ready ∨ s.dev = .member ∨ s.dev = .benched ∨ s.dev = .stopped)

/-- In majority at the vote of this tick or of the one before (R296, R309). -/
def State.wasMajority (s : State) : Bool :=
  s.tri.majority && s.tri.outVoted.any fun t => t == s.n || t + 1 == s.n

/-- A member that neither lacks its place in the image's list nor was unlocked nor has failed three copies takes part in a start or a
join (R23, R316, R397). -/
def State.mayJoin (s : State) : Bool :=
  s.isTriad && s.dev == .ready && s.addrOk && !s.rfb F.SEC_DBG_UNLOCKED && !s.rfb F.TRI_STAT_JOIN_FAIL

/-- `TSYNC_SEND` (R296, R297, R314). -/
def execTsyncSend (s : State) : Out :=
  .next (
    if !s.triOn then s
    else
      let fl := b2n (s.rfb F.TICK_STAT_LOCKED) + 2 * b2n (s.rfb F.TRI_STAT_JOINING) + 4 * b2n (s.rfb F.TRI_STAT_SOURCE) +
        8 * b2n s.wasMajority
      let pay (p : Peer) : List Byte :=
        beBytes 1 (devCode s.dev) ++ beBytes 1 (s.rf F.HLTH_GRADE_GRADE) ++ beBytes 1 fl ++ beBytes 1 s.ownLinks ++
        beBytes 4 0 ++ slice s.img.hash 0 16 ++ beBytes 8 s.mono ++ beBytes 8 p.dep ++ beBytes 8 p.arr ++ beBytes 8 s.tri.start
      (s.sendTri .a (s.triFrame 0x30 (pay s.tri.a))).sendTri .b (s.triFrame 0x30 (pay s.tri.b)))

/-- Delay and offset of a TSYNC (R297). In READY, whose ticks need not agree yet, the offset is to the nearest tick start
(NOTES 25). -/
def State.measureTri (s : State) (l : TriLink) (f : Frame) : State :=
  let p := f.payload
  let dep := beAt p 24 8
  let ed := beAt p 32 8
  let ea := beAt p 40 8
  let old := s.peer l
  let delay := if ed = 0 then old.delay else ((((s.mono : Int) - ed) - ((dep : Int) - ea)) / 2).toNat
  let raw : Int := ((s.mono : Int) - delay) - ((dep : Int) - f.tstart.toNat) - s.tstart.toNat
  let t : Int := s.tb
  let offset := if s.dev = .ready then (raw + t / 2) % t - t / 2 else raw
  let i := tlIdx l
  let s := if ed = 0 then s else (s.wf (F.TL_DLY_DELAY i) (min delay 8191)).trackMax (F.TL_DLY_MAX i) (min delay 8191)
  (s.wf (F.TL_OFS_OFFSET i) (wrapTo 32 offset)).updPeer l fun x => { x with
    dep := dep, arr := s.mono, delay := delay, offset := offset }

/-- What a counted TSYNC says of its sender (R296). -/
def State.notePeer (s : State) (l : TriLink) (p : List Byte) : State :=
  let fl := beAt p 2 1
  (s.wf (F.TL_STAT_PEER_STATE (tlIdx l)) (beAt p 0 1)).updPeer l fun x => { x with
    state := beAt p 0 1
    grade := beAt p 1 1
    locked := nbit fl 0
    joining := nbit fl 1
    maj := nbit fl 3
    links := beAt p 3 1
    image := slice p 8 16
    start := beAt p 48 8
    tick := some s.n
    tripped := x.tripped && beAt p 0 1 == 0xA }

/-- The tick number of a peer adopted (R30, R314, R315): own tick starts nearest to the peer's carry its number. -/
def State.adoptTick (s : State) (f : Frame) (l : TriLink) : State :=
  let dep : Int := beAt f.payload 24 8
  let raw : Int := ((s.mono : Int) - (s.peer l).delay) - (dep - f.tstart.toNat) - s.tstart.toNat
  let t : Int := s.tb
  let k := (raw + t / 2) / t
  let n := ((f.tick.toNat : Int) - k).toNat
  { s with
    tick := BitVec.ofNat 64 n
    tri := { s.tri with
      a := { s.tri.a with tick := s.tri.a.tick.map fun _ => n }
      b := { s.tri.b with tick := s.tri.b.tick.map fun _ => n } } }

/-- The source of a join: the lowest-indexed member in majority whose link to the joiner is up (R315). -/
def State.findSource (s : State) : Option Nat :=
  let ok (l : TriLink) : Bool := s.counted (s.peer l) && decide ((s.peer l).state = 8) && (s.peer l).maj &&
    s.sameImage (s.peer l) && s.triUse l
  ([1, 2, 3].filter fun m => m != s.tri.idx).find? fun m => ok (s.linkTo m)

/-- The source as it stands, or the one found in this tick: one of lower index takes its place until a copy has begun (R315). -/
def State.pickSource (s : State) : Option Nat :=
  match s.tri.source, s.findSource with
  | some m, some k => if k < m ∧ !s.mirr.rxCopying ∧ s.tri.joinTick.isNone then some k else some m
  | some m, none => some m
  | none, k => k

/-- What a member in READY makes of a counted TSYNC (R314, R315). -/
def State.readyTri (s : State) (l : TriLink) (f : Frame) : State :=
  let p := s.peer l
  let m := f.memberNo.toNat
  if !s.mayJoin ∨ !s.sameImage p then s
  else if p.state = 8 ∨ p.state = 9 then
    let s := (s.wfb F.TRI_STAT_JOINING true).updTri fun t => { t with start := 0, startFrom := 0 }
    match s.pickSource with
    | some m =>
      let s := s.updTri fun t => { t with source := some m }
      let s := if s.linkTo m = l then s else s.wfb (F.TL_STAT_COPY_RX (tlIdx l)) false
      if s.linkTo m ≠ l then s
      else
        let s := s.wfb (F.TL_STAT_COPY_RX (tlIdx l)) true
        if s.tri.adopted then s else (s.adoptTick f l).updTri fun t => { t with adopted := true }
    | none => s
  else if p.state = 4 ∧ p.start ≠ 0 ∧ m < s.tri.idx ∧ (s.tri.startFrom = 0 ∨ m < s.tri.startFrom) ∧ !s.rfb F.TRI_STAT_JOINING then
    (s.adoptTick f l).updTri fun t => { t with start := p.start, startFrom := m }
  else s

/-- Whether a TSYNC counts in READY whatever its TICK, since the tick number is still to be adopted from its sender (R297, R314,
R315): from a serving peer before a source has given the number, from a peer in READY before any START was set or adopted,
then from one of lower index that sends a START. -/
def State.mayAdopt (s : State) (f : Frame) : Bool :=
  let st := beAt f.payload 0 1
  s.dev == .ready && !s.tri.adopted && (st == 8 || st == 9 ||
    (st == 4 && (s.tri.startFrom == 0 || (decide (f.memberNo.toNat < s.tri.startFrom) && beAt f.payload 48 8 != 0))))

/-- `TSYNC_RECEIVE` (R295, R297, R314, R315, R465): of the receiver's tick and by F_d, but for a tick number still to be adopted
(NOTES 25). -/
def execTsyncReceive (l : TriLink) (f : Frame) (s : State) : Out :=
  .next (match s.triadErr l f with
    | some e => s.countTriErr l e
    | none =>
      let i := tlIdx l
      if f.kind ≠ 0x30#8 ∨ f.payload.length ≠ 56 ∨ !s.triOn then s
      else
        let s := s.wf (F.TL_STAT_PEER_ID i) f.memberNo.toNat
        let s := if f.memberNo.toNat = s.tri.idx then { s with rack := { s.rack with dup := true } } else s
        if f.memberNo.toNat ≠ peerIdx s.tri.idx l then s.wfb (F.TL_STAT_WIRING i) true
        else
          let s := s.wfb (F.TL_STAT_WIRING i) false
          if !s.mayAdopt f ∧ f.tick.toNat ≠ s.n then
            (if f.tick.toNat < s.n ∧ (s.dev ≠ .ready ∨ s.tri.adopted) then s.inc (F.TL_ERR_LATE i) else s)
          else if !s.mayAdopt f ∧ s.reached (s.rf F.TICK_PH0_FREEZE_DONE) then s.inc (F.TL_ERR_LATE i)
          else ((s.measureTri l f).notePeer l f.payload).readyTri l f)

/-- The reference of R298, peer tick starts minus own: none where no TSYNC counted. -/
def State.triRef (s : State) : Option Int :=
  match s.counted s.tri.a, s.counted s.tri.b with
  | true, true =>
    let a := s.tri.a.offset
    let b := s.tri.b.offset
    some (max (min a b) (min (max a b) 0))
  | true, false => some (s.tri.a.offset / 2)
  | false, true => some (s.tri.b.offset / 2)
  | false, false => none

/-! ### The cold start (R314) -/

/-- A peer in READY that may cold start with this member. -/
def State.coldPeer (s : State) (l : TriLink) : Bool :=
  let p := s.peer l
  s.triUse l && s.counted p && decide (p.state = 4) && p.locked && s.sameImage p

/-- `COLD_START_PROPOSE` (R314). -/
def execColdStartPropose (s : State) : Out :=
  .next (
    let serving (l : TriLink) : Bool := s.counted (s.peer l) && decide ((s.peer l).state = 8 ∨ (s.peer l).state = 9)
    if !s.mayJoin || s.tri.start != 0 || serving .a || serving .b || s.rfb F.TRI_STAT_JOINING
      || decide (s.since < s.rf F.TRI_CFG1_START_WIN) || !s.rfb F.TICK_STAT_LOCKED then s
    else if !(s.coldPeer .a || s.coldPeer .b) then s
    else if (s.coldPeer .a && decide (peerIdx s.tri.idx .a < s.tri.idx)) || (s.coldPeer .b && decide (peerIdx s.tri.idx .b < s.tri.idx)) then s
    else s.updTri fun t => { t with start := s.n + 16, startFrom := t.idx })

/-! ### The source of a join (R315) -/

/-- Whether this member sources the joiner on a link: it is the lowest-indexed member in majority with a link to it. -/
def State.sources (s : State) (l : TriLink) : Bool :=
  let j := s.peer l
  let o := s.peer (otherLink l)
  let om := peerIdx s.tri.idx (otherLink l)
  let jm := peerIdx s.tri.idx l
  s.isTriad && s.dev == .member && s.wasMajority && s.triUse l && decide (j.state = 4) && j.joining && s.sameImage j &&
  !(decide (om < s.tri.idx) && o.maj && decide (o.state = 8) && s.counted o && nbit o.links (linkBit om jm))

/-- Ticks of the longest class in the image (R315). -/
def State.longest (s : State) : Nat := 2 ^ s.img.tasks.foldl (fun c t => max c t.img.cls) 0

/-- Lines that hold an output slot whose deadline is tick `n` (R302). -/
def State.linesOut (s : State) (n : Nat) : Nat :=
  (s.ranges.filter fun r => r.dir == 2 && s.deadlineAt n r.cls).foldl (fun k r => k + r.len / 8) 0

/-- Whether copy frames may use a triad link now: outside the spans P to P + T_x(cap) of both phases (R302, R315). -/
def State.copyClear (s : State) : Bool :=
  let now := 3 * s.inTick
  let inSpan (p cap dig : Nat) : Bool :=
    let a := 3 * (p * s.tb / 1000)
    decide (a ≤ now ∧ now < a + 48000 + 24000 * cap + 16 * dig)
  !inSpan (s.rf F.TICK_PH0_FREEZE_DONE) (s.rf F.TRI_CFG_IN_MAX) 0 &&
    !inSpan (s.rf F.TICK_PH3_EXEC_END) (s.rf F.TRI_CFG_OUT_MAX) (s.linesOut s.n)

/-- The link of the joiner that this member sources, kept through the copy and the ticks after it. -/
def State.triSource (s : State) : State :=
  if !s.isTriad then s
  else
    let last := s.mirr.lastSent.getD 0
    let ended := s.mirr.copyDone && decide (last + s.longest ≤ s.n)
    let alive : Bool := match s.tri.srcFor with
      | some l => s.dev == .member && s.triUse l && !(s.peer l).tripped && !ended
      | none => false
    let show_ (t : State) (on : Bool) : State :=
      [TriLink.a, TriLink.b].foldl (fun u l => u.wfb (F.TL_STAT_COPY_TX (tlIdx l)) (on && u.tri.srcFor == some l))
        (t.wfb F.TRI_STAT_SOURCE on)
    if alive then s
    else
      let s := { s with
        mirr := { s.mirr with copying := false, copyDone := s.mirr.copyDone && !decide (last + s.longest < s.n) }
        tri := { s.tri with srcFor := none } }
      if s.mirr.copyDone then show_ s false
      else match [TriLink.a, TriLink.b].find? s.sources with
        | some l => show_ (s.updTri fun t => { t with srcFor := some l }) true
        | none => show_ s false

end Sys2Proof.Machine
end

