-- ==== Sys2Proof/Machine/Azwin.lean ====
section
/-!
DEFINITION. Azwin code as words (R95 to R108): instructions decoded from a CODE section with their operands and costs, and
the largest sum over the paths of a function (R115, R116).
-/
namespace Sys2Proof.Machine

/-! ### Decoding -/

/-- What a field of an instruction word holds: nothing, a source, a destination, a register, a code. -/
inductive Role where | z | src | dst | reg | code
deriving DecidableEq, Repr

/-- A row of the instruction tables: the fields d, A and B, own extension words, base cost, whether an immediate takes one
word. -/
structure OpInfo where
  d : Role
  a : Role
  b : Role
  ext : Nat := 0
  cost : Nat
  narrow : Bool := false

/-- Base costs of R99 by K of 32-bit integers, 64-bit integers, F32, F64; 0 marks a reserved opcode. -/
def arithCosts : Nat → List Nat
  | 0x10 => [1, 1, 4, 5] | 0x18 => [1, 1, 4, 5] | 0x20 => [3, 5, 4, 6] | 0x28 => [14, 24, 14, 26] | 0x30 => [14, 24, 0, 0]
  | 0x38 => [2, 2, 0, 0] | 0x40 => [2, 2, 0, 0] | 0x48 => [4, 6, 0, 0] | 0x50 => [1, 1, 1, 1] | 0x58 => [1, 1, 1, 1]
  | 0x60 => [1, 1, 2, 2] | 0x68 => [1, 1, 2, 2] | 0x70 => [1, 1, 2, 2] | 0x78 => [1, 1, 2, 2] | 0x80 => [1, 1, 2, 2]
  | 0x88 => [1, 1, 2, 2] | 0x90 => [0, 0, 16, 28] | 0x98 => [2, 2, 3, 3] | _ => []

/-- Whether a K code has immediates of one word (R92, R97). -/
def kNarrow (k : Nat) : Bool := k == 0 || k == 2 || k == 4

/-- The row of an arithmetic opcode (R99). -/
def arithInfo (op : Nat) : Option OpInfo :=
  let k := op % 8
  let base := op - k
  if 6 ≤ k then none
  else match (arithCosts base)[if k = 4 then 2 else if k = 5 then 3 else k % 2]? with
    | none => none
    | some 0 => none
    | some c => some {
        d := if base = 0x98 then .reg else .dst
        a := .src
        b := if base = 0x50 ∨ base = 0x58 ∨ base = 0x90 then .z else .src
        cost := c
        narrow := kNarrow k }

/-- The row of an opcode; `bb` is the B byte, which codes the types of `CVT` and `ARED` (R98 to R108). -/
def opInfo (op bb : Nat) : Option OpInfo :=
  if 0x10 ≤ op ∧ op < 0xA0 then arithInfo op
  else match op with
    | 0x00 => some { d := .z, a := .z, b := .z, cost := 1 }
    | 0x01 => some { d := .dst, a := .src, b := .z, cost := 1 }
    | 0x02 => some { d := .reg, a := .src, b := .src, cost := 2 }
    | 0x03 => if 6 ≤ bb / 32 ∨ 6 ≤ bb / 4 % 8 then none
        else some { d := .dst, a := .src, b := .code, cost := 3, narrow := kNarrow (bb / 32) }
    | 0x04 => if bb ∈ [1, 2, 3, 5, 6, 7] then some { d := .dst, a := .src, b := .code, cost := 2 } else none
    | 0x08 => some { d := .dst, a := .src, b := .z, ext := 2, cost := 3 }
    | 0x09 => some { d := .src, a := .src, b := .z, ext := 2, cost := 4 }
    | 0x0A => some { d := .dst, a := .src, b := .z, ext := 2, cost := 3 }
    | 0x0B => some { d := .dst, a := .src, b := .z, ext := 2, cost := 3 }
    | 0x0C => some { d := .src, a := .src, b := .z, ext := 2, cost := 4 }
    | 0xA3 => some { d := .dst, a := .src, b := .z, cost := 1 }
    | 0xAB => some { d := .dst, a := .src, b := .z, cost := 1 }
    | 0xAC => some { d := .dst, a := .src, b := .z, ext := 1, cost := 2 }
    | 0xAD => some { d := .reg, a := .src, b := .z, ext := 1, cost := 2 }
    | 0xAE => some { d := .dst, a := .src, b := .z, cost := 2 }
    | 0xB2 => some { d := .dst, a := .src, b := .src, cost := 2 }
    | 0xC0 => some { d := .z, a := .code, b := .code, cost := 2 }
    | 0xC1 => some { d := .src, a := .code, b := .code, cost := 2 }
    | 0xC2 => some { d := .src, a := .code, b := .code, cost := 2 }
    | 0xC4 => some { d := .reg, a := .src, b := .z, ext := 1, cost := 3, narrow := true }
    | 0xC8 => some { d := .reg, a := .reg, b := .code, cost := 8 }
    | 0xC9 => some { d := .z, a := .reg, b := .z, cost := 6 }
    | 0xCA => some { d := .z, a := .z, b := .z, cost := 4 }
    | 0xD0 => some { d := .dst, a := .src, b := .src, ext := 1, cost := 16 }
    | 0xD1 => some { d := .dst, a := .src, b := .src, ext := 1, cost := 16 }
    | 0xD2 => some { d := .dst, a := .src, b := .src, ext := 1, cost := 16 }
    | 0xD3 => some { d := .dst, a := .src, b := .z, ext := 1, cost := 8 }
    | 0xD4 => some { d := .dst, a := .src, b := .z, ext := 1, cost := 8 }
    | 0xD5 => some { d := .dst, a := .reg, b := .src, ext := 1, cost := 12 }
    | 0xD6 => some { d := .dst, a := .reg, b := .src, ext := 1, cost := 12 }
    | 0xD7 => some { d := .dst, a := .reg, b := .src, ext := 1, cost := 16 }
    | 0xD8 => some { d := .dst, a := .src, b := .reg, ext := 1, cost := 10 }
    | 0xD9 => some { d := .dst, a := .src, b := .reg, ext := 1, cost := 20 }
    | 0xDA => some { d := .dst, a := .src, b := .src, ext := 1, cost := 14 }
    | 0xDB => some { d := .dst, a := .src, b := .z, ext := 1, cost := 8 }
    | 0xDC => some { d := .z, a := .src, b := .z, ext := 1, cost := 10 }
    | 0xE0 => some { d := .dst, a := .z, b := .z, cost := 1 }
    | 0xE1 => some { d := .z, a := .z, b := .z, cost := 4 }
    | 0xE2 => if 6 ≤ bb / 4 then none
        else some { d := .code, a := .src, b := .code, cost := 4, narrow := kNarrow (bb / 4) }
    | 0xF0 => some { d := .dst, a := .z, b := .z, cost := 2 }
    | 0xF1 => some { d := .dst, a := .z, b := .z, cost := 2 }
    | 0xF2 => some { d := .z, a := .src, b := .reg, cost := 24 }
    | 0xF3 => some { d := .z, a := .src, b := .z, cost := 40 }
    | 0xF4 => some { d := .z, a := .src, b := .z, cost := 20 }
    | 0xF5 => some { d := .z, a := .src, b := .src, cost := 12 }
    | 0xF6 => some { d := .dst, a := .src, b := .src, cost := 8 }
    | 0xF7 => some { d := .z, a := .src, b := .z, cost := 8 }
    | _ => if 0xA0 ≤ op ∧ op ≤ 0xAA ∨ op = 0xB0 ∨ op = 0xB1 then some { d := .dst, a := .src, b := .src, cost := 1 } else none

/-- A decoded operand: `form` 0 to 7 of R97, 8 a register, 9 a short immediate, 10 none or a code; its value or first
extension word, the second, and its words. -/
structure Opnd where
  form : Nat := 10
  val : Nat := 0
  val2 : Nat := 0
  words : Nat := 0
deriving DecidableEq, Repr

/-- Extension words of a form (R97). -/
def formWords (f : Nat) (narrow : Bool) : Nat := if f = 0 then (if narrow then 1 else 2) else if f = 4 then 2 else 1

/-- Whether the type and part fields of a form's word are defined (R92, R93, R97). -/
def formOk (f w : Nat) (dst : Bool) : Bool :=
  match f with
  | 1 => decide (bitsOf w 16 3 ≤ 5)
  | 2 => decide (bitsOf w 24 3 ≤ 5)
  | 3 => decide (bitsOf w 28 4 ≤ 0xC)
  | 5 => decide (bitsOf w 28 4 ≤ 0xC)
  | 6 => decide (bitsOf w 28 4 ≤ 0xC)
  | 7 => decide (bitsOf w 8 3 ≤ 5) && (!dst || decide (bitsOf w 12 2 ≤ 1))
  | _ => true

/-- An operand byte decoded with the words that follow (R96, R97); none where check 0x03 fails. -/
def decodeOpnd (r : Role) (byte : Nat) (narrow : Bool) (ws : List Nat) : Option (Opnd × List Nat) :=
  match r with
  | .z => if byte = 0 then some ({}, ws) else none
  | .code => some ({ val := byte }, ws)
  | _ =>
    if byte < 64 then some ({ form := 8, val := byte }, ws)
    else if byte < 128 then some ({ form := 9, val := byte - 64 }, ws)
    else if byte < 136 then
      let f := byte - 128
      let n := formWords f narrow
      if ws.length < n then none
      else if formOk f (ws.getD 0 0) (r = .dst) then
        some ({ form := f, val := if f = 0 ∧ n = 2 then ws.getD 0 0 + 2 ^ 32 * ws.getD 1 0 else ws.getD 0 0,
                val2 := if f = 4 then ws.getD 1 0 else 0, words := n }, ws.drop n)
      else none
    else none

/-- A decoded instruction: its word index and length, opcode, operands, own extension words, cost (R115; without the
arguments and results of CALL and RET) and roles. -/
structure Ins where
  pc : Nat
  size : Nat
  op : Nat
  d : Opnd
  a : Opnd
  b : Opnd
  ext : List Nat
  cost : Nat
  roles : Role × Role × Role
deriving DecidableEq, Repr

/-- The cost of an operand form (R97). -/
def formCost (r : Role) (o : Opnd) : Nat :=
  match o.form with
  | 0 => o.words
  | 1 => 2
  | 2 => 3
  | 3 => if r = .dst then 3 else 2
  | 4 => 4
  | 5 => if r = .dst then 3 else 2
  | 6 => 2
  | _ => 0

/-- The instruction that words from `pc` on spell; none where check 0x03 fails (R95); a field of BFX or BINS that passes bit 63
is taken as such a failure (NOTES 135). -/
def decodeIns (ws : List Nat) (pc : Nat) : Option Ins :=
  match ws with
  | [] => none
  | w :: t =>
    let op := bitsOf w 24 8
    let bb := bitsOf w 0 8
    match opInfo op bb with
    | none => none
    | some i =>
      match decodeOpnd i.a (bitsOf w 8 8) i.narrow t with
      | none => none
      | some (a, t1) => match decodeOpnd i.b bb i.narrow t1 with
        | none => none
        | some (b, t2) => match decodeOpnd i.d (bitsOf w 16 8) i.narrow t2 with
          | none => none
          | some (d, t3) =>
            let formOwn := match op with
              | 0x08 => formOk 3 (t3.getD 0 0) false
              | 0x09 => formOk 3 (t3.getD 0 0) true
              | 0x0A => formOk 1 (t3.getD 0 0) false
              | 0x0B => formOk 6 (t3.getD 0 0) false
              | 0x0C => formOk 2 (t3.getD 0 0) true
              | 0xAC => decide (bitsOf (t3.getD 0 0) 0 6 + bitsOf (t3.getD 0 0) 8 6 + 1 ≤ 64)
              | 0xAD => decide (bitsOf (t3.getD 0 0) 0 6 + bitsOf (t3.getD 0 0) 8 6 + 1 ≤ 64)
              | 0xE2 => decide (d.val ≤ 15)
              | _ => true
            if t3.length < i.ext ∨ !formOwn then none
            else
              let ind := a.form = 7 ∨ b.form = 7 ∨ d.form = 7
              some { pc := pc, size := 1 + a.words + b.words + d.words + i.ext, op := op, d := d, a := a, b := b,
                     ext := t3.take i.ext, roles := (i.d, i.a, i.b),
                     cost := if ind then 500 else i.cost + formCost i.a a + formCost i.b b + formCost i.d d }

/-- The instructions of a function's words from word index `pc`; none where check 0x03 fails. -/
def decodeFn : Nat → List Nat → Nat → Option (List Ins)
  | 0, ws, _ => if ws.isEmpty then some [] else none
  | n + 1, ws, pc =>
    if ws.isEmpty then some []
    else match decodeIns ws pc with
      | none => none
      | some i => (decodeFn n (ws.drop i.size) (pc + i.size)).map (i :: ·)

/-! ### Paths (R103, R104, R116) -/

/-- The target of a branch. -/
def Ins.target (i : Ins) : Nat := i.pc + 256 * i.a.val + i.b.val

/-- Whether an instruction branches. -/
def Ins.isBranch (i : Ins) : Bool := i.op == 0xC0 || i.op == 0xC1 || i.op == 0xC2

/-- The body of a LOOP and its bound. -/
def Ins.first (i : Ins) : Nat := i.pc + i.size
def Ins.last (i : Ins) : Nat := i.first + bitsOf (i.ext.headD 0) 0 16
def Ins.bound (i : Ins) : Nat := bitsOf (i.ext.headD 0) 16 16

/-- The value at a word of a path table; a word outside it ends the path. -/
def pathAt (m : List (Nat × Nat)) (pc : Nat) : Nat := (aget? pc m).getD 0

/-- The largest sums from each instruction of [lo, hi) to where the path leaves that range, bodies of inner loops taken
whole. `per` is what each iteration adds. A path ends at RET, END and RNXT (NOTES 179). -/
def pathTable : Nat → (Ins → Nat) → Nat → List Ins → Nat → Nat → List (Nat × Nat)
  | 0, _, _, _, _, _ => []
  | n + 1, cost, per, l, lo, hi =>
    let r := l.filter fun i => decide (lo ≤ i.pc ∧ i.pc < hi)
    let loops := r.filter (·.op == 0xC4)
    let own := r.filter fun i => !loops.any fun p => decide (p.first ≤ i.pc ∧ i.pc < p.last)
    own.foldr (fun i m =>
      let v :=
        if i.op = 0xC9 ∨ i.op = 0xCA ∨ i.op = 0xE1 then cost i
        else if i.op = 0xC0 then cost i + pathAt m i.target
        else if i.isBranch then cost i + max (pathAt m (i.pc + i.size)) (pathAt m i.target)
        else if i.op = 0xC4 then
          let body := pathAt (pathTable n cost per l i.first i.last) i.first
          let outs := (r.filter fun p => p.isBranch && decide (i.first ≤ p.pc ∧ p.pc < i.last) &&
            !decide (i.first ≤ p.target ∧ p.target < i.last)).map (·.target)
          cost i + i.bound * (body + per) + (i.last :: outs).foldl (fun b t => max b (pathAt m t)) 0
        else cost i + pathAt m (i.pc + i.size)
      (i.pc, v) :: m) []

/-- The largest sum over the paths of a function. -/
def pathMax (cost : Ins → Nat) (per : Nat) (l : List Ins) : Nat :=
  pathAt (pathTable 10 cost per l 0 (2 ^ 32)) ((l.head?.map (·.pc)).getD 0)

/-- The same for every function at once, calls counting their callee: `n` rounds reach a call depth of `n` (R105). -/
def pathAll (fns : List (List Ins)) (per : Nat) (cost : Nat → Ins → List Nat → Nat) : Nat → List Nat
  | 0 => fns.map fun _ => 0
  | n + 1 =>
    let t := pathAll fns per cost n
    (fns.zip (List.range fns.length)).map fun p => pathMax (fun i => cost p.2 i t) per p.1

end Sys2Proof.Machine
end

