-- ==== Sys2Proof/Machine/Verifier.lean ====
section
/-!
DEFINITION. The load-time verifier (R113, R114, R540): the checks of one task in their order, the WCET of R115 to R119 and
the checkpoints of R162 and R163.
-/
namespace Sys2Proof.Machine

/-- A task with its decoded functions. -/
structure VTask where
  d : TaskDef
  fns : List (List Ins)

/-- The words of function `i` (R87). -/
def fnWords (t : TaskImg) (i : Nat) : List Nat :=
  match t.funcs[i]? with
  | none => []
  | some f =>
    let e := ((t.funcs[i + 1]?).map (·.entry)).getD t.code.length
    ((t.code.drop f.entry).take (e - f.entry)).map (·.toNat)

/-- Every function decoded; none where check 0x03 fails. -/
def decodeFns (t : TaskImg) : Option (List (List Ins)) :=
  (List.range t.funcs.length).mapM fun i => decodeFn (fnWords t i).length (fnWords t i) ((t.funcs.getD i ⟨0, 0, 0⟩).entry)

/-- The operands of an instruction with their roles. -/
def Ins.ops (i : Ins) : List (Role × Opnd) := [(i.roles.1, i.d), (i.roles.2.1, i.a), (i.roles.2.2, i.b)]

/-- Every instruction of a task. -/
def VTask.all (v : VTask) : List Ins := v.fns.flatten

/-- Check 0x04: roles, registers, register ranges, one form-7 operand (NOTES 133). -/
def roleOk (p : Role × Opnd) : Bool :=
  match p.1 with
  | .src => p.2.form != 2
  | .dst => p.2.form ∈ [2, 3, 5, 7, 8]
  | .reg => p.2.form == 8
  | _ => true

/-- Whether the register ranges of an instruction end at V63 (R105, R106). -/
def regsOk (t : TaskImg) (fn : Nat) (i : Ins) : Bool :=
  let callee := t.funcs.getD i.b.val ⟨0, 0, 0⟩
  match i.op with
  | 0xC8 => decide (i.d.val + callee.nres ≤ 64 ∧ i.a.val + callee.nargs ≤ 64)
  | 0xC9 => decide (i.a.val + (t.funcs.getD fn ⟨0, 0, 0⟩).nres ≤ 64)
  | 0xD5 => decide (i.a.val + 1 ≤ 63)
  | 0xD6 => decide (i.a.val + 1 ≤ 63)
  | 0xD7 => decide (i.a.val + 3 ≤ 63)
  | 0xD8 => decide (i.b.val + 1 ≤ 63)
  | 0xD9 => decide (i.b.val + 1 ≤ 63)
  | 0xF2 => decide (i.b.val + 5 ≤ 63)
  | 0xF3 => i.a.form ∈ [0, 6, 8, 9]
  | _ => true

def check04 (v : VTask) : Bool :=
  (v.fns.zip (List.range v.fns.length)).all fun p => p.1.all fun i =>
    i.ops.all roleOk && decide ((i.ops.filter fun o => o.2.form == 7).length ≤ 1) && regsOk v.d.img p.2 i

/-- Check 0x05 (R103). -/
def check05 (v : VTask) : Bool :=
  v.fns.all fun l =>
    (match l.getLast? with | some i => i.op == 0xC9 || i.op == 0xCA || i.op == 0xC0 | none => false) &&
    (l.filter (·.isBranch)).all fun i => i.target != i.pc && l.any fun j => j.pc == i.target

/-- Check 0x06 (R104; NOTES 10). -/
def check06 (v : VTask) : Bool :=
  v.fns.all fun l =>
    let loops := l.filter (·.op == 0xC4)
    loops.all fun p =>
      p.bound != 0 && p.last != p.first && (l.any fun j => j.pc == p.last) &&
      (loops.all fun q => !decide (p.first ≤ q.pc ∧ q.pc < p.last) || decide (q.last ≤ p.last)) &&
      decide ((loops.filter fun q => decide (q.first ≤ p.pc ∧ p.pc < q.last)).length < 8) &&
      (l.filter (·.isBranch)).all fun i =>
        !decide (p.first ≤ i.target ∧ i.target < p.last) || decide (p.first ≤ i.pc ∧ i.pc < p.last)

/-- The callees of a function. -/
def calleesOf (l : List Ins) : List Nat := (l.filter (·.op == 0xC8)).map (·.b.val)

/-- The frames a call from each function needs, counted to a depth of `n`. -/
def depthAll (fns : List (List Ins)) : Nat → List Nat
  | 0 => fns.map fun _ => 1
  | n + 1 =>
    let t := depthAll fns n
    fns.map fun l => 1 + (calleesOf l).foldl (fun m f => max m (t.getD f 0)) 0

/-- Check 0x07: with a cycle the depth passes 16. -/
def check07 (v : VTask) : Bool :=
  (v.all.filter (·.op == 0xC8)).all (fun i => decide (i.b.val < v.fns.length)) &&
  (depthAll v.fns 17).all (fun n => decide (n ≤ 16)) &&
  v.d.img.funcs.all fun f => decide (f.nargs ≤ 16 ∧ f.nres ≤ 16)

/-- The functions that a call from `f` can reach, `f` with them. -/
def reaches (fns : List (List Ins)) : Nat → List Nat → List Nat
  | 0, s => s
  | n + 1, s => reaches fns n ((s ++ s.flatMap fun f => calleesOf (fns.getD f [])).eraseDups)
def reachIns (fns : List (List Ins)) (f : Nat) : List Ins := (reaches fns 16 [f]).flatMap fun g => fns.getD g []

/-- The assigned ranges as intervals, all or of one direction or type. -/
def rangeIv (rs : List RangeD) (p : RangeD → Bool) : List (Nat × Nat) := (rs.filter p).map fun r => (r.start, r.len)

/-- Slot runs that an instruction writes (handle, count, type), and runs of variable bytes (offset, length, size). -/
def Ins.slotWrites (i : Ins) : List (Nat × Nat × Nat) :=
  (if i.op = 0x0C then [(bitsOf (i.ext.getD 0 0) 0 23, i.ext.getD 1 0, bitsOf (i.ext.getD 0 0) 24 3)] else []) ++
  (i.ops.filter fun o => o.1 == .dst && o.2.form == 2).map fun o => (bitsOf o.2.val 0 23, 1, bitsOf o.2.val 24 3)

/-- Bytes of a memory type code (R93). -/
def memSize (c : Nat) : Nat := [1, 1, 2, 4, 8, 1, 2, 4, 8, 4, 8, 8, 1].getD c 1

def Ins.varWrites (i : Ins) : List (Nat × Nat × Nat) :=
  (if i.op = 0x09 then
    [(bitsOf (i.ext.getD 0 0) 0 26, i.ext.getD 1 0 * memSize (bitsOf (i.ext.getD 0 0) 28 4), memSize (bitsOf (i.ext.getD 0 0) 28 4))]
   else []) ++
  (i.ops.filter fun o => o.1 == .dst && o.2.form == 3).map fun o =>
    (bitsOf o.2.val 0 26, memSize (bitsOf o.2.val 28 4), memSize (bitsOf o.2.val 28 4))

/-- Runs of variable bytes that an instruction reads. -/
def Ins.varReads (i : Ins) : List (Nat × Nat × Nat) :=
  (if i.op = 0x08 then
    [(bitsOf (i.ext.getD 0 0) 0 26, i.ext.getD 1 0 * memSize (bitsOf (i.ext.getD 0 0) 28 4), memSize (bitsOf (i.ext.getD 0 0) 28 4))]
   else []) ++
  (i.ops.filter fun o => o.1 == .src && o.2.form == 3).map fun o =>
    (bitsOf o.2.val 0 26, memSize (bitsOf o.2.val 28 4), memSize (bitsOf o.2.val 28 4))

/-- Gathered positions that an instruction reads (first, count, type). -/
def Ins.gathReads (i : Ins) : List (Nat × Nat × Nat) :=
  (if i.op = 0x0A then [(bitsOf (i.ext.getD 0 0) 0 14, i.ext.getD 1 0, bitsOf (i.ext.getD 0 0) 16 3)] else []) ++
  (i.ops.filter fun o => o.1 == .src && o.2.form == 1).map fun o => (bitsOf o.2.val 0 14, 1, bitsOf o.2.val 16 3)

/-- Record fields (offset, size), read or written. -/
def Ins.recFields (i : Ins) (r : Role) : List (Nat × Nat) :=
  (i.ops.filter fun o => o.1 == r && o.2.form == 5).map fun o => (bitsOf o.2.val 0 16, memSize (bitsOf o.2.val 28 4))

/-- The key of a state-object instruction with the kind it applies to, 0 for any (R106, R123). -/
def Ins.objKey (i : Ins) : Option (Nat × Nat) :=
  if 0xD0 ≤ i.op ∧ i.op ≤ 0xDC then
    some (i.ext.headD 0, if i.op = 0xDC then 0 else if i.op = 0xDB then 11 else i.op - 0xCF)
  else none

/-- The kind of a key in a task (R121, R123). -/
def kindIn (t : TaskImg) (key : Nat) : Option Nat :=
  if 0x80000000 ≤ key then t.arrd.bind fun d => aget? (key - 0x80000000) d.objs else aget? key t.objs

/-- Whether a kind carries a field of form 4 (R133). -/
def fieldOf (kind f : Nat) : Bool :=
  match f with
  | 0 => decide (1 ≤ kind ∧ kind ≤ 9)
  | 1 => kind == 8
  | 2 => kind ∈ [1, 2, 3, 11]
  | 3 => kind ∈ [6, 7, 8, 11]
  | 4 => kind ∈ [1, 2, 3, 11]
  | 5 => kind == 10
  | 6 => true
  | 7 => kind == 10
  | _ => false

/-- What the checks of a task look at beside it: the image, its ranges, its class offsets, the READ_MASK and WRITE_MASK that the
gate's entry of a task set is locked with (R378). -/
structure VEnv where
  g : Image
  rs : List RangeD
  off : Nat → Nat
  lock : Nat → Option (Nat × Nat)

/-- Check 0x08: handles assigned, gather entries within R74. -/
def check08 (x : VEnv) (v : VTask) : Bool :=
  let t := v.d.img
  let all := rangeIv x.rs fun _ => true
  let outs := rangeIv x.rs fun r => r.dir == 2
  decide (t.gath.length ≤ 1024 ∧ gathCount t ≤ (if t.array then 16128 else 16384)) &&
  t.gath.all (fun r => decide (1 ≤ r.count ∧ r.count ≤ 16384) && covers (if r.echo then outs else all) r.start r.count) &&
  (slotEnts t).all (fun w => covers all w.1 w.2) && t.indr.all (fun w => covers all w.1 w.2) &&
  v.all.all fun i => i.slotWrites.all fun w => covers all w.1 w.2.1

/-- Check 0x09: WSET (R62). -/
def check09 (x : VEnv) (v : VTask) : Bool :=
  let t := v.d.img
  let outs := rangeIv x.rs fun r => r.dir == 2
  let others := (x.g.tasks.filter fun d => d.img.taskId != t.taskId).map (·.img)
  (slotEnts t).all (fun w => covers outs w.1 w.2) &&
  (varEnts t ++ t.vars).all (fun w => decide (w.1 + w.2 ≤ 0x03FFC000)) &&
  others.all (fun o => (slotEnts t).all (fun w => (slotEnts o).all fun u => !meets w.1 w.2 u.1 u.2) &&
    (varEnts t).all fun w => (varEnts o).all fun u => !meets w.1 w.2 u.1 u.2) &&
  v.all.all fun i => i.slotWrites.all (fun w => covers (slotEnts t) w.1 w.2.1) &&
    i.varWrites.all fun w => covers (varEnts t) w.1 w.2.1

/-- The gather list as pieces (position, handle, count). -/
def gathPieces : Nat → List GathRun → List (Nat × Nat × Nat)
  | _, [] => []
  | p, r :: t => (p, r.start, r.count) :: gathPieces (p + r.count) t

/-- Check 0x0A: positions and slot types. -/
def check0A (x : VEnv) (v : VTask) : Bool :=
  let t := v.d.img
  let pieces := gathPieces 0 t.gath
  let total := gathCount t
  let typed (ty : Nat) := rangeIv x.rs fun r => r.typ == ty
  v.all.all fun i =>
    i.gathReads.all (fun r =>
      if t.array ∧ 16128 ≤ r.1 then decide (r.1 + r.2.1 ≤ 16128 + (t.arrd.elim 0 (·.swinCount)))
      else decide (r.1 + r.2.1 ≤ total) && pieces.all fun p =>
        let lo := max r.1 p.1
        let hi := min (r.1 + r.2.1) (p.1 + p.2.2)
        !decide (lo < hi) || covers (typed r.2.2) (p.2.1 + (lo - p.1)) (hi - lo)) &&
    i.slotWrites.all (fun w => covers (typed w.2.2) w.1 w.2.1) &&
    i.ops.all fun o => o.2.form != 7 ||
      (if o.1 == .src then t.indr.all fun r => covers (typed (bitsOf o.2.val 8 3)) r.1 r.2
       else (slotEnts t).all fun w => covers (typed (bitsOf o.2.val 8 3)) w.1 w.2)

/-- Check 0x0B: variables and records (NOTES 181). -/
def check0B (v : VTask) : Bool :=
  let t := v.d.img
  let recsz := t.arrd.elim 0 (·.recsz)
  v.all.all fun i =>
    i.varReads.all (fun r => covers t.vars r.1 r.2.1 && r.1 % r.2.2 == 0) &&
    i.varWrites.all (fun r => r.1 % r.2.2 == 0) &&
    (!t.array || (i.recFields .src ++ i.recFields .dst).all fun r => r.1 % r.2 == 0 && decide (r.1 + r.2 ≤ recsz))

/-- Check 0x0C: keys. -/
def check0C (x : VEnv) (v : VTask) : Bool :=
  let t := v.d.img
  let others := (x.g.tasks.filter fun d => d.img.taskId != t.taskId).map (·.img)
  t.objs.all (fun o => decide (1 ≤ o.1 ∧ o.1 < 0x80000000 ∧ 1 ≤ o.2 ∧ o.2 ≤ 11) && others.all fun u => !u.objs.any fun p => p.1 == o.1) &&
  (t.objs.map (·.1)).eraseDups.length == t.objs.length &&
  v.all.all fun i =>
    (match i.objKey with
      | none => true
      | some (k, kind) => match kindIn t k with | none => false | some y => kind == 0 || kind == y) &&
    i.ops.all fun o => o.2.form != 4 || decide (0xFFFFFF00 ≤ o.2.val ∧ o.2.val ≤ 0xFFFFFF03) ||
      (match kindIn t o.2.val with | none => false | some y => fieldOf y (bitsOf o.2.val2 0 8))

/-- Check 0x0D. -/
def check0D (x : VEnv) (v : VTask) : Bool :=
  v.d.img.indr.all fun r => covers (rangeIv x.rs fun q => q.dir == 1 && q.cls == v.d.img.cls) r.1 r.2

/-- Whether a reader of class `c` sees one activation of a writer of class `k` (R78). -/
def VEnv.coherent (x : VEnv) (k c : Nat) : Bool := decide (k ≤ c) && (x.off c + 128 * 2 ^ k - x.off k) % 2 ^ k == 0

/-- Incoherent runs of a task: gathered output runs, variable runs with the run mask, record windows (R78, R90, R143). -/
def incoherent (x : VEnv) (t : TaskImg) : List (Nat × Nat) :=
  let others := (x.g.tasks.filter fun d => d.img.taskId != t.taskId).map (·.img)
  let bad (ents : TaskImg → List (Nat × Nat)) (s n : Nat) : Bool :=
    others.any fun o => !x.coherent o.cls t.cls && (ents o).any fun w => meets s n w.1 w.2
  ((t.gath.filter fun r => !r.echo && bad slotEnts r.start r.count).map fun r => (r.start, r.count)) ++
  (t.vars.filter fun r => bad varEnts r.1 r.2) ++
  (match t.arrd with
    | none => []
    | some d =>
      (match d.mask with
        | some m => let n := 64 * cdiv d.nrec 512; if bad varEnts m n then [(m, n)] else []
        | none => []) ++
      (if d.swinCount = 0 then [] else
        ((List.range d.nrec).filter fun r => bad slotEnts (d.swinBase + r * d.swinStride) d.swinCount).map fun r =>
          (d.swinBase + r * d.swinStride, d.swinCount)))

/-- Check 0x0E. -/
def check0E (x : VEnv) (v : VTask) : Bool :=
  !(v.d.img.safety || decide (x.g.svc = .triad)) || (incoherent x v.d.img).isEmpty

/-- Check 0x10: the colours of a task's own accesses; those of a staged program lie in the locked masks too (R378). -/
def check10 (x : VEnv) (v : VTask) : Bool :=
  let t := v.d.img
  let rd := t.gath.foldl (fun m r => m ||| (if r.echo then 4 else slotColours x.g x.rs r.start r.count)) 0
  let rd := t.vars.foldl (fun m r => m ||| varColours x.g r.1 r.2) rd
  let rd := t.indr.foldl (fun m r => m ||| slotColours x.g x.rs r.1 r.2) rd
  let rd := match t.arrd with
    | none => rd
    | some d => rd ||| varColours x.g d.rectab (d.nrec * d.recsz) ||| (d.mask.elim 0 fun m => varColours x.g m (cdiv d.nrec 8)) |||
      (if d.swinCount = 0 then 0
       else (List.range d.nrec).foldl (fun m r => m ||| slotColours x.g x.rs (d.swinBase + r * d.swinStride) d.swinCount) 0)
  let wr := (slotEnts t).foldl (fun m w => m ||| slotColours x.g x.rs w.1 w.2) 0
  let wr := (varEnts t).foldl (fun m w => m ||| varColours x.g w.1 w.2) wr
  rd &&& t.readCol == rd && wr &&& t.writeCol == wr &&
  (x.lock v.d.set).all fun m => rd &&& m.1 == rd && wr &&& m.2 == wr

/-- The reductions a task names (R145). -/
def aredsOf (l : List Ins) : List (Nat × Nat) :=
  ((l.filter (·.op == 0xE2)).map fun i => (i.d.val, i.b.val)).eraseDups

/-- Whether an instruction sees the record by its opcode, its key or a record operand (R107, R139). -/
def Ins.inRecord (i : Ins) : Bool :=
  i.op == 0xE0 || i.op == 0xE1 || i.op == 0xE2 || i.ops.any (fun o => o.2.form == 5) ||
  (match i.objKey with | some (k, _) => decide (0x80000000 ≤ k) | none => false) ||
  i.ops.any fun o => o.2.form == 4 && decide (0x80000000 ≤ o.2.val ∧ o.2.val ≤ 0x80000FE0)

/-- Whether an instruction of an ARRAY task sees the record, through the window's positions too (R140). -/
def Ins.seesRecord (i : Ins) : Bool := i.inRecord || i.gathReads.any fun r => decide (16128 ≤ r.1)

/-- Lines of a run of the current record, the most over the places of records in lines (R144, R163). -/
def recordLines (d : Arrd) (runs : List (Nat × Nat)) : Nat :=
  (List.range (min d.nrec 8)).foldl (fun m r =>
    max m (distinct (runs.map fun w => unitsOf 64 (d.rectab + r * d.recsz + w.1) w.2))) 0

/-- The SOT objects that instructions can write. -/
def objWrites (l : List Ins) : Nat :=
  ((l.filterMap (·.objKey)).filter fun k => decide (k.1 < 0x80000000)).map (·.1) |>.eraseDups.length

/-- The most effects on any path of each function (R162). -/
def effectsAll (fns : List (List Ins)) : List Nat :=
  pathAll fns 0 (fun _ i t => if i.op = 0xC8 then t.getD i.b.val 0 else if i.op ∈ [0xF2, 0xF3, 0xF4, 0xF5, 0xF7] then 1 else 0) 17

/-! ### Staging entries of one run (R160, R163) -/

/-- What a path writes: the lines that fixed writes touch, the line runs out of which indexed writes touch one each, form-7
writes, effects, and whether it ends the run. A slot line is counted by itself, a variable or record line from 2 ^ 40 on, an
object from 2 ^ 41 on. -/
structure PathW where
  lines : List Nat := []
  dyn : List (Nat × Nat) := []
  ind : Nat := 0
  effs : Nat := 0
  ends : Bool := false
deriving DecidableEq, Repr

/-- A line put into an ascending list. -/
def insLine (x : Nat) : List Nat → List Nat
  | [] => [x]
  | y :: t => if x < y then x :: y :: t else if x = y then y :: t else y :: insLine x t

/-- A line run put into a list ordered by where the runs end. A run of `k` lines stands at most `k` times. -/
def insRun (x : Nat × Nat) : List (Nat × Nat) → List (Nat × Nat)
  | [] => [x]
  | y :: t => if x.1 + x.2 < y.1 + y.2 ∨ x.1 + x.2 = y.1 + y.2 ∧ x.1 < y.1 then x :: y :: t else y :: insRun x t
def addRun (x : Nat × Nat) (l : List (Nat × Nat)) : List (Nat × Nat) :=
  if x.2 ≤ (l.filter (· == x)).length then l else insRun x l

/-- One path after another. -/
def PathW.then (a b : PathW) : PathW :=
  if a.ends then a
  else ⟨b.lines.foldl (fun l x => insLine x l) a.lines, b.dyn.foldl (fun l x => addRun x l) a.dyn, a.ind + b.ind,
    a.effs + b.effs, b.ends⟩

/-- Every path of `a` followed by every path of `b`. -/
def pathsThen (a b : List PathW) : List PathW := (a.flatMap fun p => b.map p.then).eraseDups

/-- What one instruction writes in record `r`. -/
def Ins.pathW (t : TaskImg) (r : Nat) (i : Ins) : PathW :=
  let units (base k s n : Nat) : List Nat := let u := unitsOf k s n; span (base + u.1) u.2
  let recAt := t.arrd.elim 0 fun d => d.rectab + r * d.recsz
  let key := match i.objKey with
    | some (k, _) => if 0x80000000 ≤ k then units (2 ^ 40) 64 (recAt + (k - 0x80000000)) 32 else [2 ^ 41 + k]
    | none => []
  let one (indexed : Bool) (base k : Nat) (w : Nat × Nat × Nat) : PathW :=
    let u := unitsOf k w.1 w.2.1
    if indexed then { dyn := [(base + u.1, u.2)] } else { lines := span (base + u.1) u.2 }
  let ws := (i.slotWrites.map (one (i.op == 0x0C) 0 8)) ++ (i.varWrites.map (one (i.op == 0x09) (2 ^ 40) 64)) ++
    ((i.recFields .dst).map fun f => { lines := units (2 ^ 40) 64 (recAt + f.1) f.2 })
  (ws.foldl PathW.then { lines := key }).then
    { ind := (i.ops.filter fun o => o.1 == .dst && o.2.form == 7).length
      effs := b2n (i.op ∈ [0xF2, 0xF3, 0xF4, 0xF5, 0xF7])
      ends := i.op == 0xCA || i.op == 0xE1 }

/-- The paths of up to `n` further runs of a body after those of `s`, until nothing new comes. -/
def loopPaths : Nat → List PathW → List PathW → List PathW
  | 0, _, s => s
  | n + 1, body, s =>
    let t := (s ++ pathsThen s body).eraseDups
    if t = s then s else loopPaths n body t

/-- The paths from each instruction of [lo, hi) to where they leave that range or the function, bodies of loops as R116 takes
them; `one` gives those of an instruction. -/
def pathSets : Nat → (Ins → List PathW) → List Ins → Nat → Nat → List (Nat × List PathW)
  | 0, _, _, _, _ => []
  | n + 1, one, l, lo, hi =>
    let r := l.filter fun i => decide (lo ≤ i.pc ∧ i.pc < hi)
    let loops := r.filter (·.op == 0xC4)
    let own := r.filter fun i => !loops.any fun p => decide (p.first ≤ i.pc ∧ i.pc < p.last)
    own.foldr (fun i m =>
      let at' (pc : Nat) : List PathW := (aget? pc m).getD [{}]
      let v :=
        if i.op = 0xC9 ∨ i.op = 0xCA ∨ i.op = 0xE1 then one i
        else if i.op = 0xC0 then pathsThen (one i) (at' i.target)
        else if i.isBranch then pathsThen (one i) (at' (i.pc + i.size) ++ at' i.target)
        else if i.op = 0xC4 then
          let body := (aget? i.first (pathSets n one l i.first i.last)).getD [{}]
          let outs := (r.filter fun p => p.isBranch && decide (i.first ≤ p.pc ∧ p.pc < i.last) &&
            !decide (i.first ≤ p.target ∧ p.target < i.last)).map (·.target)
          pathsThen (loopPaths i.bound body (one i)) ((i.last :: outs).flatMap at')
        else pathsThen (one i) (at' (i.pc + i.size))
      (i.pc, v) :: m) []

/-- The same for every function, calls with the paths of their callee: `n` rounds reach a call depth of `n`. -/
def pathSetsAll (v : VTask) (r : Nat) : Nat → List (List PathW)
  | 0 => v.fns.map fun _ => [{}]
  | n + 1 =>
    let t := pathSetsAll v r n
    v.fns.map fun l => (aget? ((l.head?.map (·.pc)).getD 0) (pathSets 10 (fun i =>
      if i.op = 0xC8 then t.getD i.b.val [{}] else [i.pathW v.d.img r]) l 0 (2 ^ 32))).getD [{}]

/-- The most lines that indexed writes can add, each one of its run: the first free line, runs that end first before others. -/
def pickLines : List Nat → List (Nat × Nat) → List Nat
  | used, [] => used
  | used, (s, n) :: t =>
    match (span s n).find? fun x => !used.contains x with
    | some x => pickLines (insLine x used) t
    | none => pickLines used t

/-- The most staging entries that a path can create: its lines, one more for each form-7 write while WSET has a line left, its
effects. -/
def PathW.entries (t : TaskImg) (p : PathW) : Nat :=
  let ls := pickLines p.lines p.dyn
  let slots := distinct ((slotEnts t).map fun w => unitsOf 8 w.1 w.2)
  ls.length + min p.ind (slots - (ls.filter (· < 2 ^ 40)).length) + p.effs

/-- The most staging entries one run of function `f` can create (R163; NOTES 18). -/
def stagingOf (v : VTask) (f : Nat) : Nat :=
  (List.range (max 1 (v.d.img.arrd.elim 1 fun d => min d.nrec 8))).foldl (fun m r =>
    ((pathSetsAll v r 17).getD f []).foldl (fun m p => max m (p.entries v.d.img)) m) 0

/-- The WCET of every function (R115, R116). -/
def wcetAll (v : VTask) : List Nat :=
  pathAll v.fns 1 (fun f i t =>
    if i.op = 0xC8 then i.cost + (v.d.img.funcs.getD i.b.val ⟨0, 0, 0⟩).nargs + t.getD i.b.val 0
    else if i.op = 0xC9 then i.cost + (v.d.img.funcs.getD f ⟨0, 0, 0⟩).nres else i.cost) 17

/-- Check 0x11: array instructions and the ARRD (R138, R139, R144, R145). -/
def check11 (x : VEnv) (v : VTask) : Bool :=
  let t := v.d.img
  match t.arrd with
  | none => !t.array && v.all.all fun i => !i.inRecord
  | some d =>
    let areds := aredsOf v.all
    let rl := recordLines d [(0, d.recsz)]
    let w := (List.range (min d.nrec 8)).foldl (fun m r => max m (unitsOf 8 (d.swinBase + r * d.swinStride) d.swinCount).2) 0
    let k := v.d.place.foldl (fun m c => max m (v.d.place.filter fun q => bayOf q == bayOf c).length) 0
    t.array &&
    d.rectab % 64 == 0 && decide (1 ≤ d.nrec ∧ d.nrec ≤ 131072 ∧ d.recsz % 8 = 0 ∧ 8 ≤ d.recsz ∧ d.recsz ≤ 4096 ∧ 1 ≤ d.blkrec) &&
    d.mask.all (fun m => m % 64 == 0) && decide (d.swinCount ≤ 64 ∧ d.objs.length ≤ 16 ∧ 1 ≤ d.key ∧ d.key < 0x80000000) &&
    !(x.g.sotKeys.any fun o => o.1 == d.key) &&
    decide (d.rectab + d.nrec * d.recsz ≤ 0x03FFC000) && covers (varEnts t) d.rectab (d.nrec * d.recsz) &&
    decide (d.blkrec * (d.recsz + 8 * d.swinCount) ≤ 32768) &&
    (d.swinCount == 0 || (decide (d.swinCount ≤ d.swinStride) && (List.range d.nrec).all fun r =>
      covers (rangeIv x.rs fun _ => true) (d.swinBase + r * d.swinStride) d.swinCount &&
      v.all.all fun i => i.gathReads.all fun q => !decide (16128 ≤ q.1) ||
        covers (rangeIv x.rs fun z => z.typ == q.2.2) (d.swinBase + r * d.swinStride + (q.1 - 16128)) q.2.1)) &&
    d.objs.all (fun o => o.1 % 32 == 0 && decide (o.1 + 32 ≤ d.recsz ∧ 1 ≤ o.2 ∧ o.2 ≤ 11)) &&
    (d.objs.map (·.1)).eraseDups.length == d.objs.length &&
    d.pro.all (fun f => decide (0 < f ∧ f < v.fns.length)) && d.epi.all (fun f => decide (0 < f ∧ f < v.fns.length) &&
      decide ((t.funcs.getD f ⟨0, 0, 0⟩).nargs ≤ 16) && (t.funcs.getD f ⟨0, 0, 0⟩).nres == 0) &&
    (d.pro.toList ++ d.epi.toList).all (fun f => (reachIns v.fns f).all fun i => !i.seesRecord) &&
    areds.all (fun p => areds.all fun q => p.1 != q.1 || p.2 == q.2) &&
    decide (12 * k * (2 * rl + w) ≤ (wcetAll v).getD 0 0 + 24)

/-- The memory types by code (R93). -/
def memTypes : List MemType :=
  [.bool, .int8, .int16, .int32, .int64, .uint8, .uint16, .uint32, .uint64, .real32, .real64, .time, .quality]

/-- The value of an operand that is a constant or an immediate, widened as R94 says. -/
def constOf (t : TaskImg) (o : Opnd) : Option Nat :=
  match o.form with
  | 0 => some o.val
  | 9 => some o.val
  | 6 => (memTypes[bitsOf o.val 28 4]?).map fun ty => (ty.widen ((t.pool[bitsOf o.val 0 13]?).getD 0).toNat).toNat
  | _ => none

/-- Check 0x12 (R152 to R155; NOTES 131). -/
def check12 (x : VEnv) (v : VTask) : Bool :=
  v.all.all fun i => match constOf v.d.img i.a with
    | none => true
    | some c =>
      if i.op = 0xF2 then decide (c ∈ x.g.journal)
      else if i.op = 0xF3 then x.g.telegrams.any fun t => t.send && t.num == c
      else if i.op = 0xF4 then decide (1 ≤ c ∧ c ≤ 10)
      else true

/-- The POOL part of check 0x01 (R86): the bytes of an entry that no constant read from it takes are 0. -/
def poolOk (v : VTask) : Bool :=
  let uses := v.all.flatMap fun i =>
    (if i.op = 0x0B then [(bitsOf (i.ext.getD 0 0) 0 13, i.ext.getD 1 0, memSize (bitsOf (i.ext.getD 0 0) 28 4))] else []) ++
    (i.ops.filter fun o => o.1 == .src && o.2.form == 6).map fun o => (bitsOf o.2.val 0 13, 1, memSize (bitsOf o.2.val 28 4))
  (v.d.img.pool.zip (List.range v.d.img.pool.length)).all fun p =>
    let sz := uses.foldl (fun m u => if u.1 ≤ p.2 ∧ p.2 < u.1 + u.2.1 then max m u.2.2 else m) 0
    sz == 0 || decide (p.1.toNat < 2 ^ (8 * sz))

/-- The bytes of a WSET entry that meets the record table which lie outside the table; every shard may write them (NOTES 132). -/
def offTable (d : Arrd) (e : Nat × Nat) : List (Nat × Nat) :=
  let lo := d.rectab
  let hi := d.rectab + d.nrec * d.recsz
  if meets e.1 e.2 lo (hi - lo) then
    [(e.1, lo - e.1), (max e.1 hi, e.1 + e.2 - max e.1 hi)].filter fun p => p.2 != 0
  else []

/-- The WCET without the TWIN terms (R117, R118). -/
def wcetOf (v : VTask) : Nat :=
  let t := v.d.img
  let w := wcetAll v
  match t.arrd with
  | none =>
    32 + w.getD 0 0 + 40 + 12 * (distinct ((slotEnts t).map fun e => unitsOf 8 e.1 e.2) + distinct ((varEnts t).map fun e => unitsOf 64 e.1 e.2)) +
      12 * objWrites v.all
  | some d =>
    let fn (f : Option Nat) : Nat := f.elim 0 fun i => w.getD i 0
    let own := outEnts t d
    let rest := (varEnts t).flatMap (offTable d)
    let part (s : Nat) (e : Nat × Nat) : Nat × Nat := (e.1 + s * (e.2 / t.shards), e.2 / t.shards)
    let lines := (List.range t.shards).foldl (fun m s => max m
      (distinct ((slotEnts t).map fun e => unitsOf 8 (part s e).1 (part s e).2) +
       distinct ((own.map (part s) ++ rest).map fun e => unitsOf 64 e.1 e.2))) 0
    fn d.pro + fn d.epi + shardQ t * (w.getD 0 0 + 24) +
      (if (slotEnts t).isEmpty && own.isEmpty && rest.isEmpty then 0 else 40 + 12 * lines)

/-- What the verifier notes with a task: WCET, checkpoints K, R_seg, reductions, frames (R117, R118, R162, R163). -/
def noteTask (v : VTask) : TaskImg :=
  let t := v.d.img
  let nmax := distinct ((slotEnts t).map fun e => unitsOf 8 e.1 e.2) + distinct ((varEnts t).map fun e => unitsOf 64 e.1 e.2) +
    objWrites v.all + (effectsAll v.fns).getD 0 0
  let p := (t.arrd.bind (·.pro)).elim 0 (stagingOf v)
  let m := stagingOf v 0
  let rseg := if t.array then (if m = 0 then 4096 else min 4096 ((1024 - p) / m)) else 4096
  let k := if t.array then cdiv (shardQ t) (max 1 rseg) - 1 + b2n ((t.arrd.bind (·.epi)).isSome) else cdiv nmax 1024 - 1
  { t with
    wcet := wcetOf v
    ckpts := k
    rseg := rseg
    nframes := (0 :: (t.arrd.bind (·.pro)).toList ++ (t.arrd.bind (·.epi)).toList).foldl (fun m f =>
      max m ((depthAll v.fns 17).getD f 1)) 1
    areds := (aredsOf v.all).filterMap fun r =>
      let k : Option K := [K.i32, .i64, .u32, .u64, .f32, .f64][r.2 / 4]?
      k.map fun k => (r.1, [RedOp.sum, .min, .max, .count].getD (r.2 % 4) .sum, k) }

/-- The part of check 0x0F that is a task's own: R163 and R164 at its placement. -/
def check0F (v : VTask) (n : TaskImg) : Bool :=
  let t := v.d.img
  let nmax := distinct ((slotEnts t).map fun e => unitsOf 8 e.1 e.2) + distinct ((varEnts t).map fun e => unitsOf 64 e.1 e.2) +
    objWrites v.all + (effectsAll v.fns).getD 0 0
  if t.array then n.rseg != 0 && decide ((t.arrd.bind (·.epi)).elim 0 (stagingOf v) ≤ 1024)
  else v.d.place.all fun c => decide (c < 0x10 ∨ nmax ≤ 1365)

/-- The first code of a list of checks that fails, 0 for none. -/
def firstCode (l : List (Nat × Bool)) : Nat := ((l.find? fun c => !c.2).map (·.1)).getD 0

/-- The levels of check 0x02; the level of the `.azc` file is held to the same bounds (NOTES 130). -/
def levelOk (x : VEnv) (lo hi : Nat) (t : TaskImg) : Bool :=
  decide (1 ≤ t.level ∧ t.level ≤ x.g.azwin ∧ 1 ≤ x.g.azcLevel ∧ x.g.azcLevel ≤ x.g.azwin ∧ lo ≤ x.g.azwin ∧ x.g.azwin ≤ hi)

/-- A task with the first check of 0x01 to 0x13 that it fails, those of R89 and R43 apart; 0 for none. Its
WCET stands noted where its paths are sound (R114, R116). `lo` and `hi` are the manifest's Azwin levels. -/
def verifyTask (x : VEnv) (lo hi : Nat) (d : TaskDef) : TaskImg :=
  let t := d.img
  if t.bad ≠ 0 then t
  else match decodeFns t with
    | none => { t with bad := if levelOk x lo hi t then 0x03 else 0x02 }
    | some fns =>
      let v : VTask := ⟨d, fns⟩
      let c := firstCode [(0x01, poolOk v), (0x02, levelOk x lo hi t), (0x04, check04 v), (0x05, check05 v), (0x06, check06 v),
        (0x07, check07 v)]
      let n := if check05 v && check06 v && check07 v then noteTask v else t
      if c ≠ 0 then { n with bad := c }
      else
        { n with bad := firstCode [(0x08, check08 x v), (0x09, check09 x v), (0x0A, check0A x v), (0x0B, check0B v),
          (0x0C, check0C x v), (0x0D, check0D x v), (0x0E, check0E x v), (0x0F, check0F v n), (0x10, check10 x v),
          (0x11, check11 x v), (0x12, check12 x v), (0x13, decide (n.wcet ≤ t.wcetDecl))] }

/-- The masks that the entries of a task set are locked with, the same on every engine (R368, R378). -/
def State.lockedMasks (s : State) (j : Nat) : Option (Nat × Nat) :=
  if s.rfb (F.GATE_CTX_X_LOCK j) then some (s.rf (F.GATE_CTX_RW_READ_MASK j), s.rf (F.GATE_CTX_RW_WRITE_MASK j)) else none

/-- The image with every task verified by itself, then against the placement: R89 gives 0x0F to every task on the twin or
engine, R43 gives 0x14 to those of the classes that enter the sum, R11 to the SAFETY task (R113, R540). A task keeps an
earlier code. -/
def State.verify (s : State) (g : Image) (rs : List RangeD) (pl : List Placed) (lo hi : Nat) : Image :=
  let x : VEnv := ⟨g, rs, s.classOff, s.lockedMasks⟩
  let g : Image := { g with tasks := g.tasks.map fun (d : TaskDef) => { d with img := verifyTask x lo hi d } }
  let worse (c old : Nat) : Nat := if old = 0 ∨ c < old then c else old
  { g with tasks := (g.tasks.zip (List.range g.tasks.length)).map fun (p : TaskDef × Nat) =>
      let codes := (pl.filter fun q => q.task == p.2).map (·.code)
      let b := p.1.img.bad
      let b := if codes.any (fun k => !holdsR89 g pl k) then worse 0x0F b else b
      let b := if codes.any (fun k => (span p.1.img.cls (8 - p.1.img.cls)).any fun c => !s.fits g pl k c) ||
        (p.1.img.safety && codes.any fun k => !s.twinCode k) then worse 0x14 b else b
      { p.1 with img := { p.1.img with bad := b } } }

/-- Every task passed. -/
def Image.verified (g : Image) : Bool := g.tasks.all fun d => d.img.bad == 0

end Sys2Proof.Machine
end

