-- ==== Sys2Proof/Machine/Mirror.lean ====
section
/-!
DEFINITION. Mirroring (R268 to R291): the stream, records and their acknowledgement, copies, the sweep, rehearsal; a join
source copies by the same rules (R315).
-/
namespace Sys2Proof.Machine

/-! ### Mirrored lines (R268) -/

/-- Runs of mirrored lines (first, count), ascending; a join copies no retain lines (R315). -/
def State.mirrorRuns (s : State) : List (Nat × Nat) :=
  ((s.ranges.filter fun r => r.dir = 2).map fun r => (lineOf (bankF + 8 * r.start), r.len / 8)).foldr insIv [] ++
    [(lineOf varBase, 0x4000000 / 64), (lineOf sotBase, 0x1000000 / 64)] ++
    (if s.isTriad then [] else [(lineOf retBase + 1, 0x100000 / 64 - 1)])

/-- Whether a line lies in one of the runs. -/
def inLines (rs : List (Nat × Nat)) (l : Nat) : Bool := rs.any fun r => decide (r.1 ≤ l ∧ l < r.1 + r.2)

/-- The first `n` numbers from `k` on that lie in ascending runs. -/
def takeRuns : List (Nat × Nat) → Nat → Nat → List Nat
  | [], _, _ => []
  | r :: t, k, n =>
    let lo := max r.1 k
    let m := min n (r.1 + r.2 - lo)
    span lo m ++ takeRuns t (max k (r.1 + r.2)) (n - m)

/-- The mirrored lines whose dirty bit is set. -/
def State.dirtyMirrored (s : State) : List Nat :=
  let rs := s.mirrorRuns
  (s.dirty.map (·.1)).filter (inLines rs)

/-- Dirty bits cleared. -/
def State.clearDirty (s : State) (ls : List Nat) : State :=
  ls.foldl (fun t l => { t with dirty := tset false t.dirty l false }) s

/-- The mirror engine's record changed. -/
def State.updMirr (s : State) (f : Mirr → Mirr) : State := { s with mirr := f s.mirr }

/-! ### Frames and digests (R273, R274) -/

/-- The 68 bytes of an entry. -/
def entryBytes (e : Nat × List Byte) : List Byte := beBytes 4 (e.1 % 2 ^ 22) ++ slice e.2 0 64

/-- The entries of one frame folded into a digest. -/
def foldEntries (d : Dword) (es : List (Nat × List Byte)) : Dword := es.foldl (fun c e => crc64 c (entryBytes e)) d

/-- The payload of a MIRR_DATA frame. -/
def mirrData (fseq : Nat) (copy : Bool) (es : List (Nat × List Byte)) : List Byte :=
  beBytes 2 fseq ++ beBytes 1 es.length ++ [BitVec.ofNat 8 (b2n copy)] ++ es.flatMap entryBytes

/-- The payload of a MIRR_COMMIT. -/
def mirrCommit (r : MRec) (nline nframe : Nat) (resent : Bool) : List Byte :=
  beBytes 8 r.last ++ beBytes 8 r.first ++ beBytes 4 nline ++ beBytes 2 nframe ++
    [BitVec.ofNat 8 (b2n r.copy * 5 + b2n resent * 2), 0] ++ beBytes 8 r.digest.toNat

/-- Lines in a record's frames. -/
def linesIn (fs : List (List (Nat × List Byte))) : Nat := fs.foldl (fun n f => n + f.length) 0

/-- A list cut into pieces of at most `n`. -/
def cutInto {α : Type} : Nat → Nat → List α → List (List α)
  | 0, _, _ => []
  | k + 1, n, l => if l.isEmpty then [] else l.take n :: cutInto k n (l.drop n)

/-! ### The active's stream -/

/-- Whether the device mirrors in the present state: an active that is not idle, up to the handover tick, or the source of a join. -/
def State.mirrors (s : State) : Bool :=
  (s.isPair && s.dev == .active && !s.mirrIdle && !s.handsOver) || (s.isTriad && s.tri.srcFor.isSome && s.mirr.copying)

/-- A mirror message to the partner, or to the joiner on its link only (R273, R296). -/
def State.mirrorMsg (s : State) (kind : Nat) (p : List Byte) : State :=
  match s.isTriad, s.tri.srcFor with
  | true, some l => s.sendTri l (s.triFrame (if kind = 0x20 then 0x37 else 0x38) p)
  | true, none => s
  | false, _ => s.sendPair (s.frame kind 0 0 0xFF 0 p)

/-- A line read by the mirror engine, through the gate (R372). -/
def State.mirrorRead (s : State) (l : Nat) : List Byte × State :=
  let g := s.gate 52 (bankL + 64 * l) 64 .read
  if g.1 then (s.rdBytes (bankL + 64 * l) 64, s) else (List.replicate 64 0, g.2)

/-- Lines read, their dirty bits cleared. -/
def State.readLines (s : State) (ls : List Nat) : List (Nat × List Byte) × State :=
  ls.foldl (fun (r : List (Nat × List Byte) × State) l =>
    let p := r.2.mirrorRead l
    (r.1 ++ [(l, p.1)], { p.2 with dirty := tset false p.2.dirty l false })) ([], s)

/-- One MIRR_DATA frame sent and kept (R273, R277). -/
def State.sendLines (s : State) (es : List (Nat × List Byte)) : State :=
  let c := s.mirr.copying
  let k := if c then s.mirr.cpFrames else s.mirr.frames.length
  (s.mirrorMsg 0x20 (mirrData k c es)).updMirr fun m =>
    if c then { m with cpFrames := m.cpFrames + 1, cpLines := m.cpLines + es.length, cpDig := foldEntries m.cpDig es }
    else { m with frames := m.frames ++ [es] }

/-- Lines streamed in frames of at most 128 entries. -/
def State.streamLines (s : State) (ls : List Nat) : State :=
  let r := s.readLines ls
  (cutInto (ls.length + 1) 128 r.1).foldl State.sendLines r.2

/-- Every dirty mirrored line streamed (R270). -/
def State.stream (s : State) : State := s.streamLines s.dirtyMirrored

/-- A copy begins (R274, R284): MODE says whether it is a recopy. -/
def State.copyBegin (s : State) (mode : Nat) : State :=
  (((s.wf F.MIRR_STAT_MODE mode).wf F.MIRR_COPY_BLOCKS 0).wfb F.MIRR_STAT_MERGING false).updMirr fun m => { m with
    copying := true, copyLine := 0, cpFrames := 0, cpLines := 0, cpDig := s.img.pairId, copyDone := false, cpWait := false
    wantCopy := false, lo := s.n, frames := [], log := [], mergeTick := none }

/-- A partner in SYNCING, or the joiner that this member sources, receives a copy (R284, R315). -/
def State.copyIfSyncing (s : State) : State :=
  let s := s.triSource
  let due := (s.isPair && s.dev == .active && decide (s.saw.partner = 5)) || (s.isTriad && s.tri.srcFor.isSome)
  if due && !s.mirr.copying && !s.mirr.copyDone then s.copyBegin 1 else s

/-- `MIRROR_STREAM_START` (R270); a join's copy keeps clear of the exchanges (R315). -/
def execMirrorStreamStart (s : State) : Out := .next (if s.mirrors && (!s.isTriad || s.copyClear) then s.stream else s)

/-- At D the mirror engine that is idle clears the dirty bits of the mirrored lines, one that streams sends them (R270); a
join's source begins or ends (R315). -/
def State.mirrorAtD (s : State) : State :=
  if s.isTriad then
    let s := s.triSource
    if s.mirrors then s.stream else s
  else if !s.isPair || s.dev != .active then s
  else if s.mirrIdle then
    (s.clearDirty s.dirtyMirrored).mirrRest.updMirr fun m => { m with lo := s.n + 1 }
  else s.stream

/-- Whether every mirrored line has been sent as copy data. -/
def State.copyAllSent (s : State) : Bool := (takeRuns s.mirrorRuns s.mirr.copyLine 1).isEmpty

/-- What a record that leaves leaves behind (R271, R274, R277, R293). -/
def State.recordLeft (s : State) (r : MRec) (nline nframe : Nat) : State :=
  let s := s.mirrorMsg 0x21 (mirrCommit r nline nframe false)
  let s := (s.wf F.MIRR_BOOK0_SENT (min nline 0x1FFFF)).trackMax F.MIRR_LMAX_MAX nline
  let s := if s.rf F.MIRR_STAT_MODE = 0 ∨ r.copy then s.wf F.MIRR_STAT_MODE 2 else s
  (s.wfb F.MIRR_STAT_MERGING false).updMirr fun m =>
    let log := if r.copy then m.log else m.log ++ [r]
    let full := decide (122880 < log.foldl (fun n x => n + linesIn x.frames) 0)
    { m with
      dig := r.digest, frames := [], lo := r.last + 1, lastSent := some r.last, recLeft := some r.last
      mergeTick := none, copying := m.copying && (!r.copy || s.isTriad), copyDone := m.copyDone || r.copy
      cpTick := if r.copy then some r.last else m.cpTick, cpWait := m.cpWait || (r.copy && !s.isTriad)
      log := if full then [] else log, wantCopy := m.wantCopy || full }

/-- `MIRR_COMMIT_SEND` (R270, R271, R274, R284): from D on, the lines dirty at D, then the record, once a tick; a copy's record only
when every line has been sent. -/
def execMirrCommitSend (s : State) : Out :=
  .next (
    if !s.mirrors || !s.reached (s.rf F.TICK_PH0_DISPATCH) || s.mirr.recLeft == some s.n || s.mirr.mergeTick == some s.n then s
    else
      let s := s.stream
      let m := s.mirr
      if m.copying then
        if s.copyAllSent && !m.copyDone then
          s.recordLeft { last := s.n, first := m.lo, digest := m.cpDig, copy := true } m.cpLines m.cpFrames
        else s
      else
        s.recordLeft { last := s.n, first := m.lo, frames := m.frames, digest := m.frames.foldl foldEntries m.dig }
          (linesIn m.frames) m.frames.length)

/-- `MIRROR_RECORD_LIMIT` (R271, R284): the tick is merged; the record of a copy waits for a later tick. -/
def execMirrorRecordLimit (s : State) : Out :=
  .next (
    if !s.mirrors || s.mirr.recLeft == some s.n || s.mirr.mergeTick == some s.n then s
    else if s.mirr.copying then s.updMirr fun m => { m with mergeTick := some s.n }
    else ((s.inc F.MIRR_CNT_MERGED).wfb F.MIRR_STAT_MERGING true).updMirr fun m => { m with mergeTick := some s.n })

/-- `RECOPY_START` (R277, R286). -/
def execRecopyStart (s : State) : Out :=
  .next (if s.isPair && s.dev == .active && s.mirr.wantCopy && decide (s.saw.partner = 6) then s.copyBegin 3 else s)

/-- 4 KiB blocks that the lines begin: the first mirrored line of each (R293). -/
def newBlocks (rs : List (Nat × Nat)) (ls : List Nat) : Nat :=
  (ls.filter fun l => l % 64 == 0 || (takeRuns rs (l / 64 * 64) 1).head? == some l).length

/-- `COPY_DATA_SEND` (R284, R285): the next `n` frames of copy data; a copy that is due begins with the first,
and a join's keeps clear of the exchanges (R315). -/
def execCopyDataSend (n : Nat) (s : State) : Out :=
  .next (
    let s := s.copyIfSyncing
    if !s.mirrors || !s.mirr.copying || (s.isTriad && !s.copyClear) then s
    else
      let rs := s.mirrorRuns
      let ls := takeRuns rs s.mirr.copyLine (128 * n)
      let s := s.streamLines ls
      (s.wf F.MIRR_COPY_BLOCKS (min 0x1FFFF (s.rf F.MIRR_COPY_BLOCKS + newBlocks rs ls))).updMirr fun m =>
        { m with copyLine := match ls.getLast? with | some l => l + 1 | none => m.copyLine })

/-! ### The standby's side (R275, R276) -/

/-- Whether the device applies records: a standby, or a member that has relinquished the lease (R260, R275). -/
def State.shadows (s : State) : Bool := s.dev == .standby || (s.dev == .active && s.saw.role == .relinquished)

/-- Whether the standby takes a mirror message: of the epoch of the last HEARTBEAT it counted (R273). -/
def State.takesMirror (s : State) (f : Frame) : Bool :=
  s.isPair && (s.shadows || s.dev == .syncing) && s.saw.hbTick.isSome &&
    decide (f.epoch.toNat = s.rf F.SAW_EPOCH_EPOCH)

/-- A line written into a mirrored region, without its dirty bit (R275), by a translating member through its plan (R336). -/
def State.applyLine (s : State) (l : Nat) (d : List Byte) : State :=
  let a := bankL + 64 * l
  let g := s.gate 52 a 64 .write
  if !g.1 then g.2
  else if s.mirrorImage.isSome then s.translateLine (s.mirrorImage.getD {}) l (slice d 0 64)
  else
    let t := s.wrBytes a (slice d 0 64)
    if retBase ≤ a ∧ a < reservedBase then
      let k := (a - retBase) / 64
      { t with ret := { t.ret with dirtyA := tset false t.ret.dirtyA k true, dirtyB := tset false t.ret.dirtyB k true } }
    else t

/-- Entries written in their order, those of unmirrored lines apart. -/
def State.applyEntries (s : State) (es : List (Nat × List Byte)) : State :=
  let rs := s.mirrorRuns
  let s := (es.filter fun e => inLines rs e.1).foldl (fun t e => t.applyLine e.1 e.2) s
  s.wf F.IMG_FORCE_COUNT s.forceCount

/-- MIRR_ACK (R273). -/
def State.mirrAck (s : State) (last result : Nat) (miss : List Nat) : State :=
  s.sendPair (s.frame 0x22 0 0 0xFF 0 (beBytes 8 last ++ beBytes 1 result ++ [0] ++ beBytes 2 miss.length ++
    (List.range 128).map fun k => BitVec.ofNat 8 ((List.range 8).foldl (fun b j => b + b2n (miss.contains (8 * k + j)) * 2 ^ j) 0)))

/-- The entries of a MIRR_DATA payload. -/
def dataEntries (p : List Byte) : List (Nat × List Byte) :=
  (List.range (beAt p 2 1)).map fun i => (beAt p (4 + 68 * i) 4 % 2 ^ 22, slice p (8 + 68 * i) 64)

/-- A COPY frame (R284, R286): its entries go straight into the regions; frame 0 begins the copy, and so does the first one that
arrives. -/
def State.copyFrame (s : State) (k : Nat) (es : List (Nat × List Byte)) : State :=
  let s := if k = 0 ∨ !s.mirr.rxCopying then
      (s.wf F.MIRR_STAT_MODE (if s.dev = .standby then 3 else 1)).updMirr fun m => { m with
        rx := [], rxCopying := true, cpFrames := 0, cpLines := 0, cpDig := s.img.pairId, applying := none, rxLines := none }
    else s
  (s.applyEntries es).updMirr fun m => { m with
    cpFrames := m.cpFrames + 1, cpLines := m.cpLines + es.length, cpDig := foldEntries m.cpDig es }

/-- Lines staged. -/
def Mirr.staged (m : Mirr) : Nat := linesIn (m.rx.map (·.2)) + m.applying.elim 0 fun r => linesIn r.frames

/-- `MIRR_DATA_RECEIVE` (R273, R275, R276, R284). -/
def execMirrDataReceive (f : Frame) (s : State) : Out :=
  .next (match s.pairErr f with
    | some e => s.countPairErr e
    | none =>
      let p := f.payload
      let n := beAt p 2 1
      if f.kind ≠ 0x20#8 ∨ !s.takesMirror f ∨ n = 0 ∨ 128 < n ∨ p.length ≠ 4 + 68 * n then s
      else
        let es := dataEntries p
        if nbit (beAt p 3 1) 0 then s.copyFrame (beAt p 0 2) es
        else if !s.shadows then s
        else if 122880 < s.mirr.staged + n then
          (s.mirrAck f.tick.toNat 3 []).updMirr fun m => { m with rx := [] }
        else s.updMirr fun m => { m with rx := (m.rx.filter fun x => x.1 != beAt p 0 2) ++ [(beAt p 0 2, es)] })

/-! ### Sweep digests (R287, R288) -/

/-- Runs of 4 KiB blocks that hold a mirrored line. -/
def State.blockRuns (s : State) : List (Nat × Nat) :=
  s.mirrorRuns.map fun r => (r.1 / 64, (r.1 + r.2 - 1) / 64 - r.1 / 64 + 1)

/-- The digest of a block, unmirrored lines as zero (R287). -/
def State.blockDigest (s : State) (b : Nat) : Dword :=
  let rs := s.mirrorRuns
  let h := sha384 ((span (64 * b) 64).flatMap fun l =>
    if inLines rs l then s.rdBytes (bankL + 64 * l) 64 else List.replicate 64 0)
  BitVec.ofNat 64 (h.toNat / 2 ^ 320)

/-- A SWEEP message (R273). -/
def State.sweepMsg (s : State) (last fl : Nat) (es : List (Nat × Dword)) : State :=
  s.sendPair (s.frame 0x23 0 0 0xFF 0 (beBytes 1 es.length ++ beBytes 1 fl ++ [0, 0] ++ beBytes 8 last ++
    es.flatMap fun e => beBytes 4 e.1 ++ beBytes 8 e.2.toNat))

/-- The blocks of a SWEEP payload with their digests. -/
def sweepEntries (p : List Byte) : List (Nat × Dword) :=
  (List.range (beAt p 0 1)).map fun i => (beAt p (12 + 12 * i) 4, BitVec.ofNat 64 (beAt p (16 + 12 * i) 8))

/-- Mismatches counted at the standby (R288): a message that starts below the last block starts a sweep period. -/
def State.noteSweep (s : State) (first : Nat) (bad : List Nat) (last : Nat) : State :=
  let s := if s.mirr.sweepBlock ≤ first then s
    else if s.mirr.sweepBad then s.updMirr fun m => { m with mism := [], sweepBad := false }
    else { s with mirr := { s.mirr with mism := [] }, hlth := { s.hlth with cond := s.hlth.cond &&& (8191 - 4) } }
  let s := bad.foldl (fun t b => t.updMirr fun m => { m with mism := tupd 0 m.mism b (· + 1), sweepBad := true }) s
  let s := if s.mirr.mism.any fun e => decide (3 ≤ e.2) then { s with hlth := { s.hlth with cond := s.hlth.cond ||| 4 } } else s
  s.updMirr fun m => { m with sweepBlock := last }

/-- The answer to a SWEEP, on the state of record LAST (R288). -/
def State.answerSweep (s : State) (last : Nat) (es : List (Nat × Dword)) : State :=
  let bad := (es.map (·.1)).filter fun b => (aget? b es).getD 0 != s.blockDigest b
  let s := s.noteSweep ((es.map (·.1)).headD 0) bad (((es.map (·.1)).getLast?).getD 0)
  s.sweepMsg last (if bad = [] then 1 else 3) (bad.map fun b => (b, s.blockDigest b))

/-- The SWEEP that waited for the apply of its record. -/
def State.sweepDue (s : State) : State :=
  match s.mirr.rxSweep with
  | none => s
  | some (last, es) =>
    let s := s.updMirr fun m => { m with rxSweep := none }
    if last = s.mirr.applied ∧ !s.mirr.rxCopying then s.answerSweep last es else s

/-! ### Records applied -/

/-- The apply of a checked record completes (R275, R280, R288, R293). -/
def State.applyRecord (s : State) : State :=
  match s.mirr.applying with
  | none => s
  | some r =>
    let s := s.applyEntries r.frames.flatten
    let s := (s.updMirr fun m => { m with applying := none, applied := r.last }).wf F.MIRR_BOOK2_APPLIED
      (min (linesIn r.frames) 0x1FFFF)
    (s.wf F.MIRR_STAT_LAG (min s.lag 65535)).sweepDue

/-! ### Rehearsal on the standby (R290, R291) -/

/-- The samples of a sample block for a task (R291). -/
def snapOf (b : List Byte) (task : Nat) : Snap where
  device := (List.range 9).map fun i => BitVec.ofNat 64 (beAt b (8 * i) 8)
  tg := (List.range 256).foldl (fun t i => tset 0 t i (b.getD (128 + i) 0)) []
  items := (List.range 16).map fun i => beAt b (384 + i) 1
  sta := []
  faultNow := some (beAt b 96 8 != 0)
  tasks := tset {} [] (taskKey task 0) {
    fault := beAt b 72 8 != 0
    faultPc := beAt b 80 8
    faultCode := beAt b 88 8
    first := beAt b 104 8 != 0
    acts := BitVec.ofNat 64 (beAt b 120 8) }

/-- The parts of a REHEARSE_IN joined, if all have arrived. -/
def Mirr.rehData (m : Mirr) (parts : Nat) : Option (List Byte) :=
  (List.range parts).foldl (fun r i => match r, aget? i m.rehParts with | some a, some b => some (a ++ b) | _, _ => none)
    (some [])

/-- The rehearsal started, on the twin that the image names, once its messages are complete and record f − 1 is applied (R290). -/
def State.rehearse (s : State) : State :=
  match s.mirr.rehIn with
  | none => s
  | some (i, f, tf, parts) =>
    match s.mirr.rehData parts, s.img.tasks[i]? with
    | some b, some d =>
      if s.mirr.applying.isSome ∨ s.mirr.applied + 1 ≠ f then s
      else
        let e := codeEngine (d.place.headD 0)
        let a : Act := { newAct d.img i 0 (BitVec.ofNat 64 f) tf (snapOf b i) with
          rehearsal := true
          gath := (List.range (gathCount d.img)).map fun k => BitVec.ofNat 64 (beAt b (400 + 8 * k) 8) }
        let x : X := { s := s, e := e, a := a, t := d.img, d := d, nxt := 0 }
        let y := x.gatherMem.startPart true
        (y.s.updMirr fun m => { m with rehIn := none, rehParts := [], rehRun := some (i, f), rehOwn := none }).enqueue e y.a
    | _, _ => s

/-- A rehearsal that has not started when a record up to `last` arrives is skipped and counted (R290). -/
def State.skipRehearsal (s : State) (last : Nat) : State :=
  if s.mirr.rehIn.any fun r => decide (r.2.1 ≤ last) then
    { s.inc F.MIRR_REHS_FAIL with
      hlth := { s.hlth with rehFail := satAdd 16 s.hlth.rehFail 1 }
      mirr := { s.mirr with rehIn := none, rehParts := [] } }
  else s

/-! ### Records at the standby -/

/-- The record that ends a copy (R274, R284). -/
def State.copyRecord (s : State) (last nline nframe : Nat) (dig : Dword) : State :=
  let m := s.mirr
  if !m.rxCopying ∨ m.cpFrames ≠ nframe ∨ m.cpLines ≠ nline ∨ m.cpDig ≠ dig then
    s.mirrAck last 2 []
  else
    let s := s.mirrAck last 0 []
    let s := (s.wf F.MIRR_STAT_MODE 2).updMirr fun m => { m with
      rx := [], rxLines := some nline, rxDig := dig, applied := last, rxCopying := false }
    let s := (s.wf F.MIRR_BOOK1_STAGED (min m.cpLines 0x1FFFF)).wf F.MIRR_BOOK2_APPLIED (min m.cpLines 0x1FFFF)
    let s := s.wf F.MIRR_STAT_LAG (min s.lag 65535)
    if s.dev = .syncing then s.schedule .standby else s

/-- Whether the messages of the announced rehearsal are all there. -/
def Mirr.rehReady (m : Mirr) : Bool := m.rehIn.all fun r => (m.rehData r.2.2.2).isSome

/-- A record checked (R275): frames missing, a digest that differs, or its apply begins once that of the record before it is done. A
rehearsal that is complete starts between the two (R290). -/
def State.checkRecord (s : State) (last first nline nframe : Nat) (dig : Dword) : State :=
  let s := if s.mirr.rehReady then s else s.skipRehearsal last
  let m := s.mirr
  let miss := (List.range nframe).filter fun i => (aget? i m.rx).isNone
  let fs := (List.range nframe).map fun i => (aget? i m.rx).getD []
  if miss ≠ [] then s.mirrAck last 1 miss
  else if linesIn fs ≠ nline ∨ fs.foldl foldEntries m.rxDig ≠ dig then
    (s.mirrAck last 2 []).updMirr fun m => { m with rx := [] }
  else
    let s := ((s.mirrAck last 0 []).applyRecord.rehearse).skipRehearsal last
    let s := s.wf F.MIRR_BOOK1_STAGED (min (linesIn fs) 0x1FFFF)
    let s := s.updMirr fun m => { m with
      rxLines := some nline, rx := [], rxDig := dig, applying := some { last := last, first := first, frames := fs, digest := dig } }
    s.wf F.MIRR_STAT_LAG (min s.lag 65535)

/-- `MIRR_COMMIT_RECEIVE` (R273 to R276, R284). -/
def execMirrCommitReceive (f : Frame) (s : State) : Out :=
  .next (match s.pairErr f with
    | some e => s.countPairErr e
    | none =>
      let p := f.payload
      if f.kind ≠ 0x21#8 ∨ !s.takesMirror f ∨ p.length ≠ 32 then s
      else
        let dig := BitVec.ofNat 64 (beAt p 24 8)
        if nbit (beAt p 22 1) 2 then s.copyRecord (beAt p 0 8) (beAt p 16 4) (beAt p 20 2) dig
        else if !s.shadows then s
        else s.checkRecord (beAt p 0 8) (beAt p 8 8) (beAt p 16 4) (beAt p 20 2) dig)

/-- `MIRROR_APPLY_DONE` (R275). -/
def execMirrorApplyDone (s : State) : Out := .next s.applyRecord.rehearse

/-! ### Acknowledgements (R277) -/

/-- Missing frames and then their record sent again (R277). -/
def State.resend (s : State) (r : MRec) (miss : List Nat) : State :=
  let s := (miss.filter fun i => decide (i < r.frames.length)).foldl (fun t i =>
    t.sendPair (t.frame 0x20 0 0 0xFF 0 (mirrData i false (r.frames.getD i [])))) s
  s.sendPair (s.frame 0x21 0 0 0xFF 0 (mirrCommit r (linesIn r.frames) r.frames.length true))

/-- What an acknowledgement does (R277). -/
def State.ackRecord (s : State) (last result : Nat) (miss : List Nat) : State :=
  if result = 0 then s.updMirr fun m => { m with
    log := m.log.filter (fun r => decide (last < r.last)), ackTick := some last
    cpWait := m.cpWait && m.cpTick.any fun t => decide (last < t) }
  else if result = 1 then
    let s := s.inc F.MIRR_ERR_NAK
    match s.mirr.log.find? fun r => r.last == last with
    | none => s
    | some r =>
      if 2 ≤ r.naks then s.updMirr fun m => { m with log := [], wantCopy := true }
      else
        let r' := { r with naks := r.naks + 1 }
        (s.updMirr fun m => { m with log := m.log.map fun x => if x.last = last then r' else x }).resend r' miss
  else (s.inc F.MIRR_ERR_DIGEST).updMirr fun m => { m with log := [], wantCopy := true, copyDone := false }

/-- `MIRR_ACK_RECEIVE` (R277, R279); acknowledgements of records from before a running copy say nothing. -/
def execMirrAckReceive (f : Frame) (s : State) : Out :=
  .next (match s.pairErr f with
    | some e => s.countPairErr e
    | none =>
      let p := f.payload
      if f.kind ≠ 0x22#8 ∨ !s.isPair ∨ s.dev ≠ .active ∨ p.length ≠ 140 ∨ s.mirr.copying then s
      else s.ackRecord (beAt p 0 8) (beAt p 8 1)
        ((List.range 1024).filter fun i => nbit (p.getD (12 + i / 8) 0).toNat (i % 8)))

/-! ### Sweep (R287, R288) -/

/-- Whether the active may sweep (R287): between D and M of a tick whose record has left, without a merge, a copy or an
unacknowledged record; a period begins once the one before it has run its `MIRR_CFG.SWEEP` seconds. -/
def State.maySweep (s : State) : Bool :=
  let m := s.mirr
  s.isPair && !s.imagesDiffer && s.mirrors && s.reached (s.rf F.TICK_PH0_DISPATCH) && !s.reached (s.rf F.TICK_PH1_COMMIT_END) &&
    !m.copying && !m.cpWait && m.cpTick != some s.n && m.recLeft == some s.n && m.log.isEmpty && m.mergeTick.isNone &&
    (m.sweepBlock != 0 || m.sweepAt.all fun t => decide (t + 1000000000 * s.rf F.MIRR_CFG_SWEEP ≤ s.mono))

/-- `SWEEP_SEND` (R287): the next 16 blocks; the sweep period ends with the last. -/
def execSweepSend (s : State) : Out :=
  .next (
    if !s.maySweep then s
    else
      let rs := s.blockRuns
      let bs := takeRuns rs s.mirr.sweepBlock 16
      let s := s.sweepMsg s.n 0 (bs.map fun b => (b, s.blockDigest b))
      let s := if s.mirr.sweepBlock = 0 then s.updMirr fun m => { m with sweepAt := some s.mono } else s
      let next := bs.getLast?.elim s.mirr.sweepBlock (· + 1)
      if (takeRuns rs next 1).isEmpty then
        { s.inc F.MIRR_SWEEP_PASSES with
          mirr := { s.mirr with sweepBlock := 0 }, hlth := { s.hlth with sweeps := satAdd 16 s.hlth.sweeps 1 } }
      else s.updMirr fun m => { m with sweepBlock := next })

/-- `SWEEP_RECEIVE` (R288): judged on the state of record LAST only, once that is applied. -/
def execSweepReceive (f : Frame) (s : State) : Out :=
  .next (match s.pairErr f with
    | some e => s.countPairErr e
    | none =>
      let p := f.payload
      let n := beAt p 0 1
      let last := beAt p 4 8
      if f.kind ≠ 0x23#8 ∨ !s.takesMirror f ∨ s.dev ≠ .standby ∨ nbit (beAt p 1 1) 0 ∨ n = 0 ∨ 16 < n
        ∨ p.length ≠ 12 + 12 * n ∨ s.mirr.rxCopying then s
      else if s.mirr.applying.any fun r => r.last == last then s.updMirr fun m => { m with rxSweep := some (last, sweepEntries p) }
      else if s.mirr.applying.isSome ∨ last ≠ s.mirr.applied then s
      else s.answerSweep last (sweepEntries p))

/-- `SWEEP_ANSWER_RECEIVE` (R288). -/
def execSweepAnswerReceive (f : Frame) (s : State) : Out :=
  .next (match s.pairErr f with
    | some e => s.countPairErr e
    | none =>
      let p := f.payload
      if f.kind ≠ 0x23#8 ∨ !s.isPair ∨ s.dev ≠ .active ∨ !nbit (beAt p 1 1) 0 ∨ !nbit (beAt p 1 1) 1
        ∨ p.length ≠ 12 + 12 * beAt p 0 1 then s
      else
        let rs := s.mirrorRuns
        (sweepEntries p).foldl (fun t e =>
          let t := ((span (64 * e.1) 64).filter (inLines rs)).foldl (fun u l =>
            { u with dirty := tset false u.dirty l true }) t
          { t.inc F.MIRR_SWEEP_RESENT with hlth := { t.hlth with resent := satAdd 16 t.hlth.resent 1 } }) s)

/-! ### Rehearsal (R289 to R291) -/

/-- Whether a task may be rehearsed (R289). -/
def State.candidate (s : State) (i : Nat) : Bool :=
  match s.img.tasks[i]?, s.sched.placed.find? fun p => p.task == i with
  | some d, some p =>
    decide (p.code < 0x10) && s.twinMode (codeEngine p.code) && !d.img.array &&
    (match decodeFns d.img with
     | some fns => fns.flatten.all fun x => x.op != 0xF6 && x.ops.all fun o => o.2.form != 7
     | none => false)
  | _, _ => false

/-- `REHEARSAL_SELECT` (R289): the next candidate in task-table order. -/
def execRehearsalSelect (s : State) : Out :=
  .next (
    if !s.mirrors || s.imagesDiffer || !s.rfb F.MIRR_REH_EN || decide (s.n < s.mirr.rehTick + s.rf F.MIRR_REH_INTERVAL) then s
    else
      let k := s.img.tasks.length
      let order := (List.range k).map fun j => (s.mirr.rehNext + j) % k
      match order.find? s.candidate with
      | none => s.updMirr fun m => { m with rehTick := s.n }
      | some i => s.updMirr fun m => { m with rehTick := s.n, rehNext := (i + 1) % k, rehSel := some i })

/-- The sample block of a task (R291). -/
def State.sampleBlock (s : State) (i : Nat) : List Byte :=
  let r := tget {} s.snap.tasks (taskKey i 0)
  let fields : List Nat := [b2n r.fault, r.faultPc, r.faultCode, 0, b2n r.first, 0, r.acts.toNat]
  (s.snap.device.flatMap fun v => beBytes 8 v.toNat) ++ (fields.flatMap (beBytes 8)) ++
    ((List.range 256).map fun k => tget 0 s.snap.tg k) ++ s.snap.items.map (BitVec.ofNat 8)

/-- REHEARSE_IN for the activation just gathered (R289): parts of at most 9,120 bytes. -/
def State.sendRehearsal (s : State) (a : Act) : State :=
  if s.mirr.rehSel ≠ some a.task then s
  else
    let s := s.updMirr fun m => { m with rehSel := none }
    if !s.mirrors ∨ s.n = 0 ∨ s.mirr.recLeft ≠ some (s.n - 1) then s
    else
      let data := s.sampleBlock a.task ++ a.gath.flatMap fun w => beBytes 8 w.toNat
      let ps := cutInto (data.length + 1) 9120 data
      let s := (List.range ps.length).foldl (fun t k => t.sendPair (t.frame 0x24 0 0 0xFF 0 (beBytes 2 a.task ++
        beBytes 1 k ++ beBytes 1 ps.length ++ beBytes 4 0 ++ beBytes 8 a.f.toNat ++ beBytes 8 a.tf.toNat ++ ps.getD k []))) s
      s.updMirr fun m => { m with rehTask := some (a.task, a.f.toNat) }

/-- `REHEARSE_IN_RECEIVE` (R290). -/
def execRehearseInReceive (f : Frame) (s : State) : Out :=
  .next (match s.pairErr f with
    | some e => s.countPairErr e
    | none =>
      let p := f.payload
      if f.kind ≠ 0x24#8 ∨ !s.takesMirror f ∨ s.dev ≠ .standby ∨ p.length < 24 then s
      else
        let key := (beAt p 0 2, beAt p 8 8, BitVec.ofNat 64 (beAt p 16 8), beAt p 3 1)
        let same := decide (s.mirr.rehIn = some key)
        let s := if same then s else s.skipRehearsal (beAt p 8 8)
        (s.updMirr fun m => { m with
          rehIn := some key
          rehOut := if same then m.rehOut else none
          rehParts := aput (beAt p 2 1) (p.drop 24) (if same then m.rehParts else []) }).rehearse)

/-- `REHEARSE_OUT_RECEIVE` (R290): of the rehearsal that runs, or of the one that waits for the apply of its record. -/
def execRehearseOutReceive (f : Frame) (s : State) : Out :=
  .next (match s.pairErr f with
    | some e => s.countPairErr e
    | none =>
      let p := f.payload
      if f.kind ≠ 0x25#8 ∨ !s.takesMirror f ∨ s.dev ≠ .standby ∨ p.length ≠ 24
        ∨ (s.mirr.rehRun ≠ some (beAt p 0 2, beAt p 8 8) ∧
          s.mirr.rehIn.map (fun r => (r.1, r.2.1)) ≠ some (beAt p 0 2, beAt p 8 8)) then s
      else s.updMirr fun m => { m with rehOut := some (beAt p 4 4, BitVec.ofNat 64 (beAt p 16 8)) })

/-- `REHEARSAL_COMPARE` (R290). -/
def execRehearsalCompare (s : State) : Out :=
  .next (match s.mirr.rehOut, s.mirr.rehOwn with
    | some a, some b =>
      let s := s.updMirr fun m => { m with rehRun := none, rehOut := none, rehOwn := none }
      if a = b then
        let s := (s.inc F.MIRR_REHS_PASS).wfb F.MIRR_STAT_REH_FAIL false
        { s with hlth := { s.hlth with rehPass := satAdd 16 s.hlth.rehPass 1, cond := s.hlth.cond &&& (8191 - 1024) } }
      else
        let s := (s.inc F.MIRR_REHS_FAIL).wfb F.MIRR_STAT_REH_FAIL true
        { s with hlth := { s.hlth with rehFail := satAdd 16 s.hlth.rehFail 1, cond := s.hlth.cond ||| 1024 } }
    | _, _ => s)

end Sys2Proof.Machine
end

