-- ==== Sys2Proof/Machine/Triad.lean ====
section
/-!
DEFINITION. The triad votes: blocks and digests (R299, R300), the exchange (R301, R302), the slot vote (R304 to R306), the
contributor set (R307, R308), majority (R309, R310), joining (R315, R316), forces (R317).
-/
namespace Sys2Proof.Machine

/-! ### Blocks and digests (R299, R300) -/

/-- Used blocks (R299). -/
def State.nblk (s : State) : Nat := min 256 (s.ranges.foldl (fun m r => max m ((r.start + r.len - 1) / 1024 + 1)) 0)

/-- The runs of the slots of a phase in tick `n`: inputs frozen at `n`, outputs whose deadline is `n`. -/
def State.phaseRuns (s : State) (input : Bool) (n : Nat) : List (Nat × Nat) :=
  ((s.ranges.filter fun r =>
    if input then r.dir == 1 && s.dueAt n r.cls else r.dir == 2 && s.deadlineAt n r.cls).map
      fun r => (r.start, r.len)).foldr insIv []

/-- The handles of block `b` in such runs, ascending. -/
def blockHandles (rs : List (Nat × Nat)) (b : Nat) : List Nat :=
  rs.flatMap fun r => span (max r.1 (1024 * b)) (min (r.1 + r.2) (1024 * b + 1024) - max r.1 (1024 * b))

/-- The digest of a block (R300). -/
def State.slotDigest (s : State) (rs : List (Nat × Nat)) (b n : Nat) : Dword :=
  let hs := blockHandles rs b
  if hs.isEmpty then 0 else crc64Words (BitVec.ofNat 64 (b * 2 ^ 48 + n % 2 ^ 48)) (hs.map fun h => (s.slotF h).word)

/-- The digest vector of a phase. -/
def State.phaseDigests (s : State) (input : Bool) : List Dword :=
  let rs := s.phaseRuns input s.n
  (List.range s.nblk).map fun b => s.slotDigest rs b s.n

/-- The flights whose task finished in tick `n`, which is when its last shard did, in task-table order and then shard order
(R300). -/
def State.finishedIn (s : State) (n : Nat) : List (Flight × Dword) :=
  let fin := s.flights.filterMap fun x =>
    let all := s.flights.filter fun y => y.task == x.task && y.f == x.f
    if all.all (·.finished.isSome) && all.any (fun y => y.finished.any fun e => e.1 == n) then
      x.finished.map fun e => (x, e.2.2)
    else none
  (List.range s.img.tasks.length).flatMap fun i => (List.range 12).flatMap fun k =>
    fin.filter fun p => p.1.task == i && p.1.shard == k

/-- The commit digest C(n) (R300). -/
def State.commitDigest (s : State) : Dword :=
  crc64Words s.tick ((s.finishedIn s.n).flatMap fun p =>
    [BitVec.ofNat 64 (((s.img.tasks[p.1.task]?).elim 0 (·.img.taskId)) * 2 ^ 32 + p.1.shard), p.2])

/-! ### The contributor set (R307, R308) -/

/-- Whether link `k` counts as up: every member that reports it says so (R307). -/
def State.linkUp (s : State) (k : Nat) : Bool :=
  let has (m : Nat) : Bool := m - 1 == k || (m + 1) % 3 == k
  let tells (l : TriLink) : Bool :=
    !(s.counted (s.peer l) && has (peerIdx s.tri.idx l)) || nbit (s.peer l).links k
  (!has s.tri.idx || nbit s.ownLinks k) && tells .a && tells .b

/-- Members of the set before the links reduce it. -/
def State.setBase (s : State) : List Nat :=
  let peer (l : TriLink) : Bool :=
    let p := s.peer l
    s.counted p && decide (p.state = 8 ∨ p.state = 9) && p.locked && s.sameImage p
  [1, 2, 3].filter fun m =>
    if m = s.tri.idx then s.rfb F.TICK_STAT_LOCKED && decide (s.dev = .member ∨ s.dev = .benched) else peer (s.linkTo m)

/-- The set reduced by the links (R307). -/
def reduceSet (up : List Bool) (own : Nat) (b : List Nat) : List Nat :=
  let down := (List.range 3).filter fun k => !(up.getD k false)
  match down with
  | [] => b
  | [k] => b.filter fun m => m != max (k + 1) ((k + 1) % 3 + 1)
  | _ =>
    match (List.range 3).find? fun k => up.getD k false with
    | some k => b.filter fun m => m == k + 1 || m == (k + 1) % 3 + 1
    | none => b.filter fun m => m == own

/-- A peer's vector of the phase, with its commit digest: counted, and no TRIP since (R308). -/
def State.vector (s : State) (m : Nat) : Option (Dword × List Dword) :=
  if m = s.tri.idx then some (s.tri.commit, s.tri.own)
  else if (s.peer (s.linkTo m)).tripped then none
  else (s.peer (s.linkTo m)).digs

/-- The contributors of the phase (R308). -/
def State.contributors (s : State) : List Nat := s.tri.set.filter fun m => (s.vector m).isSome

/-- Whether this member joins and takes part in the exchange: from tick j + 1 on (R315). -/
def State.joins (s : State) : Bool :=
  s.mayJoin && (match s.tri.joinTick with | some j => decide (j < s.n) | none => false)

/-- Whether this member runs the phases of a tick. -/
def State.votes (s : State) : Bool := s.isTriad && (decide (s.dev = .member ∨ s.dev = .benched) || s.joins)

/-! ### Phases (R302) -/

/-- t_dig in ns. -/
def State.tDig (s : State) : Nat :=
  if s.tri.phase = 2 then s.linesOut s.n * 16 / 3 else 0

/-- The start of the phase in ns. -/
def State.phaseStart (s : State) : Nat :=
  (if s.tri.phase = 2 then s.rf F.TICK_PH3_EXEC_END else s.rf F.TICK_PH0_FREEZE_DONE) * s.tb / 1000

/-- The cap of the phase (R301). -/
def State.cap (s : State) : Nat := if s.tri.phase = 2 then s.rf F.TRI_CFG_OUT_MAX else s.rf F.TRI_CFG_IN_MAX

/-- A phase begins: nothing of it counted yet but a digest message that came before the own phase start (R302). -/
def State.beginPhase (s : State) (phase : Nat) (own : List Dword) (commit : Dword) : State :=
  let start (p : Peer) : Peer := { p with
    digs := p.early.bind fun e => if e.1 = phase ∧ e.2.1 = s.n then some e.2.2 else none
    early := none, blocks := [] }
  s.updTri fun t => { t with
    phase := phase, phaseTick := s.n, own := own, commit := commit, formed := false, xset := [], excess := []
    a := start t.a, b := start t.b }

/-- `INPUT_PHASE_START` (R296, R302, R307, R315). -/
def execInputPhaseStart (s : State) : Out :=
  .next (
    if !s.votes || (s.tri.phaseTick == s.n && s.tri.phase != 0) then s
    else
      let up := (List.range 3).map s.linkUp
      let set := reduceSet up s.tri.idx s.setBase
      let s := s.beginPhase 1 (s.phaseDigests true) 0
      let s := (s.wf F.TRI_STAT_SET (set.foldl (fun m i => m + 2 ^ (i - 1)) 0)).wf F.TRI_LINKS_UP
        ((List.range 3).foldl (fun m k => m + b2n (up.getD k false) * 2 ^ k) 0)
      let s := (s.wf F.TRI_STAT_MODE (if s.joins then 0 else match set.length with | 3 => 1 | 2 => 2 | 1 => 3 | _ => 0)).updTri fun t => { t with set := set }
      if set.contains s.tri.idx || s.joins then
        s.sendTriad (s.triFrame 0x31 (beBytes 2 s.nblk ++ beBytes 6 0 ++ s.tri.own.flatMap fun d => beBytes 8 d.toNat))
      else s)

/-- `OUTPUT_PHASE_START` (R45, R296, R302): the overrun check at EX, then the digests. -/
def execOutputPhaseStart (s : State) : Out :=
  .next (
    if !s.votes || (s.tri.phaseTick == s.n && s.tri.phase == 2) then s
    else
      let s := s.deadlineCheck (s.rf F.TICK_PH3_EXEC_END)
      if s.dev = .tripped then s
      else
        let s := s.beginPhase 2 (s.phaseDigests false) s.commitDigest
        if s.tri.set.contains s.tri.idx || s.joins then
          s.sendTriad (s.triFrame 0x33 (beBytes 2 s.nblk ++ beBytes 6 0 ++ beBytes 8 s.tri.commit.toNat ++
            s.tri.own.flatMap fun d => beBytes 8 d.toNat))
        else s)

/-- Whether a message of a phase of the present tick is taken at all. -/
def State.inPhase (s : State) (phase : Nat) (f : Frame) : Bool :=
  s.votes && s.tri.phase == phase && s.tri.phaseTick == s.n && f.tick.toNat == s.n

/-- Whether a digest message is of a phase of the present tick that this member has not begun: its sender is ahead (R298, R302). -/
def State.beforePhase (s : State) (phase : Nat) (f : Frame) : Bool :=
  s.votes && f.tick.toNat == s.n && (s.tri.phaseTick != s.n || decide (s.tri.phase < phase))

/-- Whether a message is of a phase whose bound has passed with it: a later phase or tick has begun (R302, R320). -/
def State.afterPhase (s : State) (phase : Nat) (f : Frame) : Bool :=
  s.votes && (decide (f.tick.toNat < s.n) || (f.tick.toNat == s.n && s.tri.phaseTick == s.n && decide (phase < s.tri.phase)))

/-- A digest message counted if it arrives within P + 9 µs + t_dig (R302); one that comes before P waits for it. -/
def State.takeDigs (s : State) (l : TriLink) (phase : Nat) (f : Frame) (o : Nat) : State :=
  let p := f.payload
  let k := beAt p 0 2
  let v := (BitVec.ofNat 64 (if o = 16 then beAt p 8 8 else 0), (List.range k).map fun i => BitVec.ofNat 64 (beAt p (o + 8 * i) 8))
  if p.length ≠ o + 8 * k ∨ f.memberNo.toNat ≠ peerIdx s.tri.idx l ∨ !s.triUse l then s
  else if s.beforePhase phase f then s.updPeer l fun x => { x with early := some (phase, s.n, v) }
  else if !s.inPhase phase f then (if s.afterPhase phase f then s.inc (F.TL_ERR_LATE (tlIdx l)) else s)
  else if s.phaseStart + 9000 + s.tDig < s.inTick then s.inc (F.TL_ERR_LATE (tlIdx l))
  else s.updPeer l fun x => { x with digs := some v }

/-- `IDIG_RECEIVE` (R302, R308). -/
def execIdigReceive (l : TriLink) (f : Frame) (s : State) : Out :=
  .next (match s.triadErr l f with
    | some e => s.countTriErr l e
    | none => if f.kind ≠ 0x31#8 then s else s.takeDigs l 1 f 8)

/-- `ODIG_RECEIVE` (R302, R308). -/
def execOdigReceive (l : TriLink) (f : Frame) (s : State) : Out :=
  .next (match s.triadErr l f with
    | some e => s.countTriErr l e
    | none => if f.kind ≠ 0x33#8 then s else s.takeDigs l 2 f 16)

/-! ### The exchange set (R301) -/

/-- Whether the vectors differ at a block. -/
def differAt (vs : List (List Dword)) (b : Nat) : Bool :=
  match vs with
  | [] => false
  | v :: t => t.any fun w => w.getD b 0 != v.getD b 0

/-- The joiner's vector: this member's own, or a peer's that joins. -/
def State.joinerVector (s : State) : Option (List Dword) :=
  if s.joins then some s.tri.own
  else [TriLink.a, TriLink.b].findSome? fun l =>
    let p := s.peer l
    if p.joining ∧ p.state = 4 ∧ !p.tripped then p.digs.map (·.2) else none

/-- The exchange set formed (R301): the blocks that differ among the contributors, then those of the joiner only. -/
def State.formSet (s : State) : State :=
  if s.tri.formed then s
  else
    let vs := s.contributors.filterMap fun m => (s.vector m).map (·.2)
    let first := (List.range s.nblk).filter (differAt vs)
    let second := match s.joinerVector, vs with
      | some j, v :: _ => (List.range s.nblk).filter fun b => !first.contains b && j.getD b 0 != v.getD b 0
      | _, _ => []
    let xset := (first ++ second).take s.cap
    let excess := first.drop s.cap
    let miss := decide (s.cap < (first ++ second).length) && !second.isEmpty
    let s := s.inc F.TRI_CNT1_OVERFLOW excess.length
    let s := if s.tri.phase = 2 then s.wf F.TRI_XCH_OUT xset.length else s.wf F.TRI_XCH_IN xset.length
    s.updTri fun t => { t with formed := true, xset := xset, excess := excess, joinMiss := t.joinMiss || miss }

/-- `BLOCK_EXCHANGE_START` (R301, R302): each contributor's copies, in set order. -/
def execBlockExchangeStart (s : State) : Out :=
  .next (
    if !s.votes || s.tri.phaseTick != s.n || s.tri.phase == 0 || s.tri.formed then s
    else
      let s := s.formSet
      if !s.tri.set.contains s.tri.idx then s
      else s.tri.xset.foldl (fun t b => t.sendTriad (t.triFrame (if t.tri.phase = 2 then 0x34 else 0x32)
        (beBytes 2 b ++ beBytes 6 0 ++ (span (1024 * b) 1024).flatMap fun h => beBytes 8 (t.slotF h).word.toNat))) s)

/-- A block copy counted if it arrives within P + 15 µs + t_dig + 8 µs × cap (R302). -/
def State.takeBlock (s : State) (l : TriLink) (phase : Nat) (f : Frame) : State :=
  let p := f.payload
  if p.length ≠ 8200 ∨ f.memberNo.toNat ≠ peerIdx s.tri.idx l ∨ !s.triUse l then s
  else if !s.inPhase phase f then (if s.afterPhase phase f then s.inc (F.TL_ERR_LATE (tlIdx l)) else s)
  else if s.phaseStart + 15000 + s.tDig + 8000 * s.cap < s.inTick then s.inc (F.TL_ERR_LATE (tlIdx l))
  else s.updPeer l fun x => { x with
    blocks := aput (beAt p 0 2) ((List.range 1024).map fun i => BitVec.ofNat 64 (beAt p (8 + 8 * i) 8)) x.blocks }

/-- `IBLK_RECEIVE` (R302, R304). -/
def execIblkReceive (l : TriLink) (f : Frame) (s : State) : Out :=
  .next (match s.triadErr l f with
    | some e => s.countTriErr l e
    | none => if f.kind ≠ 0x32#8 then s else s.takeBlock l 1 f)

/-- `OBLK_RECEIVE` (R302, R304). -/
def execOblkReceive (l : TriLink) (f : Frame) (s : State) : Out :=
  .next (match s.triadErr l f with
    | some e => s.countTriErr l e
    | none => if f.kind ≠ 0x34#8 then s else s.takeBlock l 2 f)

/-! ### The slot vote (R304 to R306) -/

/-- Whether `a` is before `b` in the order of the slot type (R305). -/
def slotBefore (typ : Nat) (a b : Word) : Bool :=
  match typ with
  | 2 => decide (a.toInt < b.toInt)
  | 4 => decide (a.toInt < b.toInt)
  | 5 => (f32.read a.toNat).before (f32.read b.toNat)
  | _ => decide (a.toNat < b.toNat)

/-- Whether |a − b| is within the tolerance: exact for integers, in F64 for F32 (R305). -/
def slotNear (typ : Nat) (a b tol : Word) : Bool :=
  match typ with
  | 5 =>
    let d := f64.add (f32.read a.toNat) (f32.read b.toNat).neg
    let m := d % 2 ^ 63
    f64.le m (f64.write (f32.read tol.toNat))
  | 2 => decide ((a.toInt - b.toInt).natAbs ≤ tol.toInt.toNat)
  | 4 => decide ((a.toInt - b.toInt).natAbs ≤ tol.toInt.toNat)
  | _ => decide (((a.toNat : Int) - b.toNat).natAbs ≤ tol.toNat)

/-- The value of a vote on usable copies (R305): none where the safe value stands. -/
def voteValue (typ : Nat) (tol : Word) (larger : Bool) (vs : List Word) : Option Word :=
  match vs with
  | [a, b, c] =>
    if typ = 0 then some (if a = b ∨ a = c then a else b)
    else
      let lo (x y : Word) : Word := if slotBefore typ x y then x else y
      let hi (x y : Word) : Word := if slotBefore typ x y then y else x
      some (hi (lo a b) (lo (hi a b) c))
  | [a, b] =>
    if a = b then some a
    else if typ = 0 ∨ !slotNear typ a b tol then none
    else if slotBefore typ a b = larger then some b else some a
  | _ => none

/-- A copy is usable (R304). -/
def usable (typ : Nat) (x : Slot) : Bool := qb x.qual 0 && !(typ == 5 && (f32.read x.val.toNat).isNan)

/-- The copies of a slot of an exchanged block: those of the contributors that were counted, this member's own among them
(R304). -/
def State.copies (s : State) (h : Nat) : List Slot :=
  s.contributors.filterMap fun m =>
    if m = s.tri.idx then some (s.slotF h)
    else (aget? (h / 1024) (s.peer (s.linkTo m)).blocks).bind fun b => (b[h % 1024]?).map Slot.ofWord

/-- The safe value of a slot (R299). -/
def State.safeOf (s : State) (r : RangeD) : Word :=
  let v := if r.dir = 1 then r.subst.getD 0 else BitVec.ofNat 32 (s.rf (F.TRI_VD_SAFE_SAFE r.n))
  canonValue r.typ v

/-- Result of a vote: the slot, whether SPLIT was given, whether it is the safe value (R305, R306). -/
def State.voteSlot (s : State) (r : RangeD) (h : Nat) (cs : List Slot) : Slot × Bool × Bool :=
  let us := cs.filter (usable r.typ)
  let own := s.slotF h
  let least (l : List Slot) : Nat := l.foldl (fun a x => min a x.age.toNat) (match l with | [] => own.age.toNat | x :: _ => x.age.toNat)
  let res := voteValue r.typ (BitVec.ofNat 32 (s.rf (F.TRI_VD_TOL_TOL r.n))) (s.rfb (F.TRI_VD_CFG_SIDE r.n)) (us.map (·.val))
  let age := if r.dir = 2 then 0 else least (if res.isSome then us else cs)
  let forced := qb own.qual 2
  match res with
  | some v =>
    let same := us.length == 3 && us.all fun x => x.val == v
    (⟨v, mkQual true (decide (1 ≤ age)) forced (us.foldl (fun q x => q ||| x.qual) 0) (!same), BitVec.ofNat 24 age⟩, !same, false)
  | none => (⟨s.safeOf r, mkQual false (decide (1 ≤ age)) forced 8 true, BitVec.ofNat 24 age⟩, true, true)

/-- A voted slot written where it differs from this member's copy, and counted (R306, R319). -/
def State.putVote (s : State) (input : Bool) (h : Nat) (v : Slot × Bool × Bool) : State :=
  let s := if v.2.1 then (if input then s.inc F.TRI_CNT0_IN_SPLIT else s.inc F.TRI_CNT0_OUT_SPLIT) else s
  let s := if v.2.2 then s.inc F.TRI_CNT2_DISAGREE else s
  if v.1 = s.slotF h then s
  else
    let g := s.gate 53 (bankF + 8 * h) 8 .write
    if g.1 then s.wrSlotF h v.1 else g.2

/-- The books of a phase's vote changed (R504). -/
def State.updVotes (s : State) (input : Bool) (f : Nat × Nat × Nat → Nat × Nat × Nat) : State :=
  { s with books :=
      if input then { s.books with voteIn := f s.books.voteIn } else { s.books with voteOut := f s.books.voteOut } }

/-- The due slots of a block voted, or put to their safe values beyond the cap (R301, R305). -/
def State.voteBlock (s : State) (input : Bool) (b : Nat) (safe : Bool) : State :=
  (blockHandles (s.phaseRuns input s.n) b).foldl (fun t h =>
    match t.rangeOf h with
    | none => t
    | some r =>
      let v := t.voteSlot r h (if safe then [] else t.copies h)
      let t := if safe then t else t.updVotes input fun e => if v.2.2 then (e.1, e.2.1, e.2.2 + 1) else (e.1, e.2.1 + 1, e.2.2)
      t.putVote input h v) s

/-- Copies that a vote does without: digests of the set's other members and, of its other contributors, blocks of the exchange set
(R319; NOTES 145). -/
def State.copiesMissing (s : State) : Nat :=
  let cs := s.contributors
  (s.tri.set.filter fun m => m != s.tri.idx).foldl (fun n m =>
    if !cs.contains m then n + 1
    else n + (s.tri.xset.filter fun b => (aget? b (s.peer (s.linkTo m)).blocks).isNone).length) 0

/-- The vote of a phase. -/
def State.votePhase (s : State) (input : Bool) : State :=
  let s := s.formSet
  let rs := s.phaseRuns input s.n
  let s := s.updVotes input fun _ => (s.tri.xset.foldl (fun n b => n + (blockHandles rs b).length) 0, 0, 0)
  let s := s.inc F.TRI_CNT2_COPYLOSS s.copiesMissing
  let s := s.tri.xset.foldl (fun t b => t.voteBlock input b false) s
  s.tri.excess.foldl (fun t b => t.voteBlock input b true) s

/-- `INPUT_VOTE` (R304 to R306). -/
def execInputVote (s : State) : Out :=
  .next (
    if !s.votes || s.tri.phase != 1 || s.tri.phaseTick != s.n || s.tri.inVoted == some s.n then s
    else (s.votePhase true).updTri fun t => { t with inVoted := some s.n })

/-! ### Majority (R309, R310) -/

/-- Whether member `m` is in majority among the contributors (R309). -/
def State.inMajority (s : State) (m : Nat) : Bool :=
  let cs := s.contributors
  match s.vector m with
  | none => false
  | some v =>
    cs.contains m && cs.any fun k => k != m && (match s.vector k with
      | some w => v.1 == w.1 && (cs.length != 3 || v.2 == w.2)
      | none => false)

/-- `OUTPUT_VOTE` (R304 to R306, R309, R310). -/
def execOutputVote (s : State) : Out :=
  .next (
    if !s.votes || s.tri.phase != 2 || s.tri.phaseTick != s.n || s.tri.outVoted == some s.n then s
    else
      let s := s.votePhase false
      let majs := [1, 2, 3].filter s.inMajority
      let maj := majs.contains s.tri.idx
      let s := (s.wf F.TRI_STAT_MAJ (majs.foldl (fun m i => m + 2 ^ (i - 1)) 0)).updTri fun t => { t with
        outVoted := some s.n, majority := maj, majs := majs }
      if s.dev = .ready then s
      else if maj then
        let s := s.wf F.TRI_STAT_MINCNT 0
        if s.dev = .benched then s.schedule .member else s
      else
        let s := (s.inc F.TRI_STAT_MINCNT).inc F.TRI_CNT1_MINORITY
        if s.dev = .member then s.schedule .benched else s)

/-- `TRIAD_SELF_TRIP` (R310). -/
def execTriadSelfTrip (s : State) : Out :=
  .next (if s.isTriad ∧ (s.dev = .member ∨ s.dev = .benched) ∧ s.tri.outVoted = some s.n ∧
      s.rf F.TRI_CFG_TRIPCNT ≤ s.rf F.TRI_STAT_MINCNT then s.trip 0xC else s)

/-- `VOTE_DEADLINE` (R302): the input vote at IV, the output vote at D. -/
def execVoteDeadline (s : State) : Out :=
  .next (
    if !s.votes then s
    else if (s.tri.phase = 2 ∧ s.tri.phaseTick = s.n) ∨ s.reached (s.rf F.TICK_PH0_DISPATCH) then
      if s.tri.outVoted = some s.n then s else (s.tickFault 1 0).trip 1
    else if s.tri.inVoted = some s.n then s
    else (s.tickFault 2 0).trip 2)

/-! ### Trips and joins (R308, R315, R316) -/

/-- A join begins again: nothing copied counts (R315, R316). -/
def State.joinAgain (s : State) : State :=
  { s with
    flights := []
    eng := tmap {} s.eng fun _ e => { e with cur := none, ready := [] }
    mirr := { s.mirr with rxCopying := false }
    tri := { s.tri with joinTick := none, joinMiss := false } }

/-- A copy that failed: after three in a row the joiner stays in READY (R316). -/
def State.joinFailed (s : State) : State :=
  let s := s.joinAgain.updTri fun t => { t with joinFails := t.joinFails + 1 }
  if 3 ≤ s.tri.joinFails then
    let s := ((s.wfb F.TRI_STAT_JOIN_FAIL true).wfb F.TRI_STAT_JOINING false).updTri fun t => { t with source := none }
    (s.wfb (F.TL_STAT_COPY_RX 0) false).wfb (F.TL_STAT_COPY_RX 1) false
  else s

/-- What the end of a tick does to a join: it ends where the member may not join or no serving peer has been heard in two ticks,
and begins again where its source has left; a START that has passed is void (R314, R315, R397; NOTES 146). -/
def State.joinEnd (s : State) : State :=
  let drop (t : State) : State :=
    ((t.joinAgain.wfb (F.TL_STAT_COPY_RX 0) false).wfb (F.TL_STAT_COPY_RX 1) false).updTri fun t => { t with source := none }
  let serves (l : TriLink) : Bool :=
    ((s.peer l).tick.any fun t => decide (s.n ≤ t + 1)) && decide ((s.peer l).state = 8 ∨ (s.peer l).state = 9)
  if !s.isTriad ∨ s.dev ≠ .ready then s
  else if !s.rfb F.TRI_STAT_JOINING then
    if s.tri.start ≠ 0 ∧ s.tri.start ≤ s.n then s.updTri fun t => { t with start := 0, startFrom := 0 } else s
  else if !s.mayJoin ∨ !(serves .a || serves .b) then
    ((drop s).wfb F.TRI_STAT_JOINING false).updTri fun t => { t with adopted := false }
  else match s.tri.source with
    | some m => if s.triUse (s.linkTo m) ∧ (s.peer (s.linkTo m)).state = 8 then s else drop s
    | none => s

/-- `TRIAD_TRIP_RECEIVE` (R308, R315, R318). -/
def execTriadTripReceive (l : TriLink) (f : Frame) (s : State) : Out :=
  .next (match s.triadErr l f with
    | some e => s.countTriErr l e
    | none =>
      if f.kind ≠ 0x35#8 ∨ !s.isTriad ∨ f.payload.length ≠ 16 ∨ f.memberNo.toNat ≠ peerIdx s.tri.idx l then s
      else
        let s := (s.wf (F.TL_STAT_PEER_STATE (tlIdx l)) 0xA).updPeer l fun x => { x with state := 0xA, tripped := true, maj := false }
        if s.dev = .ready ∧ s.tri.source = some f.memberNo.toNat then
          (s.joinAgain.wfb (F.TL_STAT_COPY_RX (tlIdx l)) false).updTri fun t => { t with source := none }
        else s.triSource)

/-- Whether a frame comes from the joiner's source (R315). -/
def State.fromSource (s : State) (l : TriLink) (f : Frame) : Bool :=
  s.isTriad && s.dev == .ready && s.rfb F.TRI_STAT_JOINING && s.triUse l && s.tri.source == some (peerIdx s.tri.idx l)
    && f.memberNo.toNat == peerIdx s.tri.idx l

/-- `RS_DATA_RECEIVE` (R284, R315): written straight into the regions. -/
def execRsDataReceive (l : TriLink) (f : Frame) (s : State) : Out :=
  .next (match s.triadErr l f with
    | some e => s.countTriErr l e
    | none =>
      let p := f.payload
      let n := beAt p 2 1
      if f.kind ≠ 0x37#8 ∨ !s.fromSource l f ∨ n = 0 ∨ 128 < n ∨ p.length ≠ 4 + 68 * n ∨ !nbit (beAt p 3 1) 0 then s
      else s.copyFrame (beAt p 0 2) (dataEntries p))

/-- `RS_COMMIT_RECEIVE` (R315): the CURRENT record fixes tick j. -/
def execRsCommitReceive (l : TriLink) (f : Frame) (s : State) : Out :=
  .next (match s.triadErr l f with
    | some e => s.countTriErr l e
    | none =>
      let p := f.payload
      let m := s.mirr
      if f.kind ≠ 0x38#8 ∨ !s.fromSource l f ∨ p.length ≠ 32 ∨ !nbit (beAt p 22 1) 0 ∨ s.tri.joinTick.isSome then s
      else if m.rxCopying && m.cpFrames == beAt p 20 2 && m.cpLines == beAt p 16 4 && m.cpDig == BitVec.ofNat 64 (beAt p 24 8) then
        (s.updMirr fun m => { m with rxCopying := false, applied := beAt p 0 8 }).updTri fun t => { t with
          joinTick := some (beAt p 0 8), joinMiss := false }
      else s.joinFailed)

/-- `JOIN_COMPARE` (R316): in tick j + 2^k, against the members in majority. -/
def execJoinCompare (s : State) : Out :=
  .next (match s.tri.joinTick with
    | none => s
    | some j =>
      if !s.joins || s.n != j + s.longest then s
      else
        let ms := s.tri.majs.filter fun m => m != s.tri.idx
        let same := !ms.isEmpty && ms.all fun m => s.vector m == some (s.tri.commit, s.tri.own)
        if same && !s.tri.joinMiss && s.tri.outVoted == some s.n then
          (((s.wfb F.TRI_STAT_JOINING false).wfb (F.TL_STAT_COPY_RX 0) false).wfb (F.TL_STAT_COPY_RX 1) false).schedule .member
        else s.joinFailed)

/-! ### Forces (R317) -/

/-- `TRIAD_FORCE_RECEIVE` (R317). -/
def execTriadForceReceive (l : TriLink) (f : Frame) (s : State) : Out :=
  .next (match s.triadErr l f with
    | some e => s.countTriErr l e
    | none =>
      let p := f.payload
      let op := beAt p 0 1
      if f.kind ≠ 0x36#8 ∨ !s.triOn ∨ p.length ≠ 24 ∨ !(op = 1 ∨ op = 2) ∨ f.memberNo.toNat ≠ peerIdx s.tri.idx l then s
      else s.updTri fun t => { t with forces := t.forces ++ [(beAt p 16 8, op == 1, beAt p 4 4, beAt p 8 4)] })

/-- The FORCE messages of a tick start (R296). -/
def State.sendForces (s : State) : State :=
  let s' := s.tri.fwd.foldl (fun t x => t.sendTriad (t.triFrame 0x36 (beBytes 1 (if x.2.1 then 1 else 2) ++ beBytes 3 0 ++
    beBytes 4 x.2.2.1 ++ beBytes 4 x.2.2.2 ++ beBytes 4 0 ++ beBytes 8 x.1))) s
  if s.tri.fwd.isEmpty then s else s'.updTri fun t => { t with fwd := [] }

end Sys2Proof.Machine
end

