-- ==== Sys2Proof/Machine/Telegrams.lean ====
section
/-!
DEFINITION. Twin telegrams (R153, R354 to R356), writes of the network sequencers, tag errors (R377), debug accesses
(R371, R372), the silence of the field die (R345).
-/
namespace Sys2Proof.Machine

/-! ### Sending (R354, R355) -/

/-- A telegram as it leaves on plant B (`netB`) or plant A. -/
def tgBytes (t : TgDef) (seq : Nat) (netB : Bool) (p : List Byte) : List Byte :=
  let head (fl : Nat) : List Byte := [0xA7, 1, 0x40] ++ beBytes 1 fl ++ beBytes 4 t.connId.toNat ++ beBytes 8 seq ++
    beBytes 2 t.len ++ [0, 0]
  head (b2n netB) ++ p ++ beBytes 8 (crc64 t.key (head 0 ++ p)).toNat

/-- A run read by the network sequencers, line by line through the gate; `b` is its content. -/
def State.netRead (s : State) (a : Nat) (b : List Byte) : List Byte × State :=
  (lineParts a b.length).foldl (fun (r : List Byte × State) p =>
    let g := r.2.gate 49 p.1 p.2 .read
    (r.1 ++ (if g.1 then slice b (p.1 - a) p.2 else List.replicate p.2 0), g.2)) ([], s)

/-- A run written by the network sequencers. -/
def State.netWrite (s : State) (a : Nat) (b : List Byte) : State :=
  (lineParts a b.length).foldl (fun t p =>
    let g := t.gate 49 p.1 p.2 .write
    if g.1 then t.homeWrite p.1 (slice b (p.1 - a) p.2) else g.2) s

/-- Whether the device sends telegrams in this tick (R355). -/
def State.sendsTelegrams (s : State) : Bool :=
  match s.svcMode with
  | .solo => s.dev == .active
  | .pair => s.dev == .active && (s.saw.role == .leased || s.saw.role == .unleased)
  | .triad => (s.dev == .member || s.dev == .benched) && s.tri.outVoted == some s.n && s.tri.majority
  | .none => false

/-- One copy of a telegram on a plant port, from the port that it is sent to (R354; NOTES 164). -/
def State.sendCopy (s : State) (p : PlantPort) (ip : Word) (port : BitVec 16) (b : List Byte) : State :=
  let d := s.plantUdp p ip port port b
  s.sendPlant p d.len (.udp p d)

/-- One connection sent, first on plant A (R355). -/
def State.sendTelegram (s : State) (c : Nat) (b : List Byte) : State :=
  match s.tgDef true c with
  | none => s
  | some t =>
    let r := s.netRead (s.tgAddr t) b
    (r.2.sendCopy .a t.ipA t.port (tgBytes t s.n false r.1)).sendCopy .b t.ipB t.port (tgBytes t s.n true r.1)

/-- The connections whose TGSEND has committed, sent at D. -/
def State.sendTelegrams (s : State) : State :=
  let l := s.tgSend
  let s := { s with tgSend := [] }
  if s.sendsTelegrams then l.foldl (fun t c => if t.dev = .tripped then t else t.sendTelegram c.1 c.2) s else s

/-! ### Receiving (R356) -/

/-- A receive connection changed. -/
def State.updTg (s : State) (c : Nat) (f : TgRx → TgRx) : State := { s with tgRx := tupd {} s.tgRx c f }

/-- A status byte of R153. -/
def tgStatus (valid safe skew : Bool) : Byte := BitVec.ofNat 8 (b2n valid + 2 * b2n safe + 4 * b2n skew)

/-- An open window ends without its second copy: the safe values go in place with SKEW (NOTES 148). -/
def TgRx.late (x : TgRx) (safe : List Byte) : TgRx :=
  { x with openSeq := none, openData := [], lastSeq := x.openSeq.orElse fun _ => x.lastSeq
           write := some (safe, tgStatus (x.status.getLsbD 0) true true), status := tgStatus (x.status.getLsbD 0) true true }

/-- The second copy of an open window (R356); where the two differ, VALID stays as it was (NOTES 148). -/
def TgRx.pair (x : TgRx) (safe p : List Byte) (n : Nat) : TgRx :=
  let same := x.openData == p
  let st := if same then tgStatus true false false else tgStatus (x.status.getLsbD 0) true false
  { x with
    openSeq := none, openData := [], lastSeq := x.openSeq
    write := some (if same then p else safe, st), status := st, acceptTick := if same then n else x.acceptTick }

/-- A valid copy taken (R356). A copy with a higher SEQ than that of an open window ends it without its second copy
(NOTES 42). -/
def TgRx.copy (x : TgRx) (t : TgDef) (net : Bool) (seq : Nat) (p : List Byte) (now n : Nat) : TgRx :=
  let x := if x.openSeq.isSome ∧ x.openAt + 1000 * t.skw < now then x.late t.safe else x
  if x.openSeq = some seq ∧ x.openNet ≠ net then x.pair t.safe p n
  else if x.lastSeq.any (fun l => decide (seq ≤ l)) ∨ x.openSeq.any (fun l => decide (seq ≤ l)) then
    { x with ignored := x.ignored + 1 }
  else
    let x := if x.openSeq.isSome then x.late t.safe else x
    { x with openSeq := some seq, openNet := net, openData := p, openAt := now }

/-- The receive connection that a datagram names, with its parts, if the copy is valid (R356). -/
def State.tgValid (s : State) (net : Bool) (port : BitVec 16) (b : List Byte) : Option (TgDef × Nat × List Byte) :=
  let len := beAt b 16 2
  (s.img.telegrams.find? fun t => !t.send && t.connId.toNat == beAt b 4 4).bind fun t =>
    let p := (b.drop 20).take len
    let head := slice b 0 3 ++ [0] ++ slice b 4 16
    if t.port = port ∧ slice b 0 3 = [0xA7#8, 1#8, 0x40#8] ∧ len = t.len ∧ b.length = 28 + len ∧ b.getD 3 0 = BitVec.ofNat 8 (b2n net)
      ∧ (crc64 t.key (head ++ p)).toNat = beAt b (20 + len) 8 then some (t, beAt b 8 8, p) else none

/-- `TELEGRAM_RECEIVE` (R356). -/
def execTelegramReceive (p : PlantPort) (udpPort : BitVec 16) (payload : List Byte) (s : State) : Out :=
  .next (
    if !s.plantUp p || s.dev ∈ [.booting, .parked, .refused] then s
    else match s.tgValid (p == .b) udpPort payload with
      | none => s
      | some (t, seq, d) => s.updTg t.num fun x => x.copy t (p == .b) seq d s.mono s.n)

/-- `TELEGRAM_SKEW_EXPIRY` (R356). -/
def execTelegramSkewExpiry (conn : Byte) (s : State) : Out :=
  .next (match s.tgDef false conn.toNat with
    | none => s
    | some t => s.updTg t.num fun x => if x.openSeq.isSome ∧ x.openAt + 1000 * t.skw ≤ s.mono then x.late t.safe else x)

/-- `TELEGRAM_WATCHDOG_EXPIRY` (R356). -/
def execTelegramWatchdogExpiry (conn : Byte) (s : State) : Out :=
  .next (match s.tgDef false conn.toNat with
    | none => s
    | some t =>
      let x := tget {} s.tgRx t.num
      let st := tgStatus false true (x.status.getLsbD 2)
      if s.n < x.acceptTick + t.wd then s
      else s.updTg t.num fun x => { x with write := some (t.safe, st), status := st })

/-- Received runs written at a freeze of a device that executes (R153, R269, R356); the status stands from then on. -/
def State.applyTelegrams (s : State) : State :=
  s.img.telegrams.foldl (fun t d =>
    if d.send then t
    else match (tget {} t.tgRx d.num).write with
      | none => t
      | some (b, _) => (t.netWrite (t.tgAddr d) b).updTg d.num fun x => { x with write := none }) s

/-! ### Tag errors (R377) -/

/-- The tag index of an address, none where its line carries no tag. -/
def tagIndex (a : Nat) : Option Nat :=
  if bankL ≤ a ∧ a < bankL + 0x10000000 then some (lineOf a)
  else if 0x20000000 ≤ a ∧ a < 0x20800000 then some (4194304 + (a - 0x20000000) / 64)
  else none

/-- `TAG_ECC_ERROR` (R377). -/
def execTagEccError (addr : Word) (uncorrectable : Bool) (s : State) : Out :=
  .next (match tagIndex addr.toNat with
    | none => s
    | some i =>
      if !uncorrectable then s.inc F.GATE_ECC_CORR
      else
        let s := { s.inc F.GATE_ECC_UNCORR with tagBad := tset false s.tagBad i true }
        if addr.toNat < bankF ∧ bankL ≤ addr.toNat then s else s.trip 0x0B)

/-! ### Debug (R370 to R372) -/

/-- `DEBUG_ACCESS` (R371, R372): context 63; the bytes that a read returns stand in `rbytes`. -/
def execDebugAccess (addr : Word) (size : Nat) (kind : AccKind) (data : List Byte) (s : State) : Out :=
  .next (
    if size = 0 ∨ 256 < size then s
    else
      let a := addr.toNat
      let g := s.gate 63 a size kind
      let old := s.rdBytes a size
      let reads : Bool := kind != .write
      let s := { g.2 with rbytes := if !reads then s.rbytes else if g.1 then old else List.replicate size 0 }
      if g.1 && (kind == .write || kind == .rmw) then s.homeWrite a (slice data 0 size) else s)

/-! ### Field-die silence (R345) -/

/-- Whether the control die expects a status frame in every tick. -/
def State.expectsField (s : State) : Bool := s.rfb F.FIELD_CTRL_EN && s.pdAck 11

/-- `FIELD_DIE_SILENCE` (R345): three consecutive ticks have passed without a status frame. -/
def execFieldDieSilence (s : State) : Out := .next (if s.expectsField ∧ 3 ≤ s.fctl.misses then s.trip 8 else s)

end Sys2Proof.Machine
end

