-- ==== Sys2Proof/Machine/Can.lean ====
section
/-!
DEFINITION. The CAN FD ports (chapter 18): message objects, transmit policies, error states, receive runs.
-/
namespace Sys2Proof.Machine

/-! ### Frames and objects (R446, R447) -/

/-- Bytes that a DLC stands for, in an FD and in a classic frame (ISO 11898-1). -/
def dlcBytes (fdf : Bool) (dlc : Nat) : Nat :=
  if !fdf then min dlc 8 else [0, 1, 2, 3, 4, 5, 6, 7, 8, 12, 16, 20, 24, 32, 48, 64].getD dlc 64

/-- Whether a port takes part in its bus: enabled, no sleep requested or in force, and not bus-off. -/
def State.canOn (s : State) (p : Nat) : Bool :=
  s.rfb (F.CAN_CTRL_EN p) && !s.rfb (F.CAN_CTRL_SLEEP p) && s.rf (F.CAN_STAT_STATE p) < 2

/-- Whether a frame matches receive object k (R447). -/
def State.canMatch (s : State) (p : Nat) (f : CanFrame) (k : Nat) : Bool :=
  let m := s.rf (F.CAN_OBJ_B_MASK p k)
  s.rf (F.CAN_OBJ_A_DIR p k) == 1 && s.rfb (F.CAN_OBJ_A_IDE p k) == f.ide && f.id.toNat &&& m == s.rf (F.CAN_OBJ_A_ID p k) &&& m

/-- The error state from the error counts: passive above 127 (ISO 11898-1). -/
def State.canState (s : State) (p : Nat) : State :=
  if s.rf (F.CAN_STAT_STATE p) < 2 then
    s.wf (F.CAN_STAT_STATE p) (b2n (decide (127 < s.rf (F.CAN_STAT_TEC p) ∨ 127 < s.rf (F.CAN_STAT_REC p))))
  else s

/-- `CAN_FRAME_RECEIVE` (R447): the receive error count falls by one (ISO 11898-1). -/
def execCanFrameReceive (p : Fin 2) (f : CanFrame) (s : State) : Out :=
  .next (
    if !s.canOn p || !f.crcOk then s
    else
      let rec0 := s.rf (F.CAN_STAT_REC p)
      let s := (s.wf (F.CAN_STAT_REC p) (min 127 (rec0 - 1))).canState p
      match (List.range 128).find? (s.canMatch p f) with
      | none => s
      | some k =>
        let b := tget {} (s.can p).buf k
        let s := if b.news = 0 then s else s.inc (F.CAN_ERR1_LOST p)
        s.updCan p fun c => { c with buf := tset {} c.buf k ⟨some f, s.n, b.news + 1⟩ })

/-- The 128 bytes of a receive run (R446). -/
def canRun (f : CanFrame) (tick : Nat) (overrun : Bool) : List Byte :=
  slice f.data 0 64 ++ leBytes 4 (f.id.toNat + b2n f.ide * 2 ^ 31) ++ [BitVec.ofNat 8 f.dlc.toNat] ++
    [BitVec.ofNat 8 (1 + 2 * b2n overrun + 4 * b2n f.fdf), 0, 0] ++ leBytes 8 tick ++ List.replicate 48 0

/-- One receive object at a freeze (R447): its run, where the device keeps its own (NOTES 169), and its buffer without news. -/
def State.canObject (s : State) (p : Nat) (runs : Bool) (k : Nat) : State :=
  let b := tget {} (s.can p).buf k
  let a := varBase + s.rf (F.CAN_OBJ_C_RUN p k)
  let fl := s.rdB (a + 0x45)
  let s := s.updCan p fun c => { c with buf := tupd {} c.buf k fun b => { b with news := 0 } }
  if !runs then s
  else match b.frame with
    | some f =>
      if b.news = 0 ∨ (s.can p).stb then (if fl.toNat % 4 = 0 then s else s.netWrite (a + 0x45) [fl &&& 0xFC#8])
      else s.netWrite a (canRun f b.tick (decide (1 < b.news)))
    | none => if fl.toNat % 4 = 0 then s else s.netWrite (a + 0x45) [fl &&& 0xFC#8]

/-- The receive runs of both ports at a freeze. `runs`: the device keeps its own. -/
def State.canFreeze (s : State) (runs : Bool) : State :=
  (List.range 2).foldl (fun t p =>
    if !t.rfb (F.CAN_CTRL_EN p) then t
    else ((List.range 128).filter fun k => t.rf (F.CAN_OBJ_A_DIR p k) == 1).foldl (fun u k => u.canObject p runs k) t) s

/-! ### Sending (R448 to R450) -/

/-- The order of the bus: the lower identifier, then the lower object number. -/
def CanPend.before (x y : CanPend) : Bool :=
  decide (x.frame.id.toNat < y.frame.id.toNat) || (x.frame.id == y.frame.id && decide (x.obj < y.obj))

/-- The pending frame that the bus takes next. -/
def canNext : List CanPend → Option CanPend
  | [] => none
  | x :: t => match canNext t with
    | some y => if y.before x then some y else some x
    | none => some x

/-- A port with no frame on its bus starts the next pending one. -/
def State.canStart (s : State) (p : Nat) : State :=
  let l := (s.can p).pend
  if !s.canOn p || l.any (·.started) then s
  else match canNext l with
    | none => s
    | some x =>
      (s.send (.can p x.frame)).updCan p fun c => { c with
        pend := (c.pend.erase x) ++ [{ x with started := true }] }

/-- The frame of a send object from its run as committed (R446, R448). -/
def State.canFrameOf (s : State) (p k : Nat) : CanFrame × State :=
  let fdf := s.rfb (F.CAN_OBJ_C_FDF p k)
  let dlc := s.rf (F.CAN_OBJ_C_DLC p k)
  let a := varBase + s.rf (F.CAN_OBJ_C_RUN p k)
  let r := s.netRead a (s.rdBytes a 64)
  (CanFrame.mk (s.rfb (F.CAN_OBJ_A_IDE p k)) (BitVec.ofNat 29 (s.rf (F.CAN_OBJ_A_ID p k))) fdf
    (s.rfb (F.CAN_OBJ_C_BRS p k)) (BitVec.ofNat 4 dlc) true (r.1.take (dlcBytes fdf dlc)), r.2)

/-- A frame of object k put behind the pending ones, unless the read of its run trips the device. -/
def State.canPut (s : State) (p k : Nat) : State :=
  let r := s.canFrameOf p k
  if r.2.dev = .tripped then r.2
  else (r.2.updCan p fun c => { c with pend := c.pend ++ [⟨k, r.1, 0, false⟩] }).wfb (F.CAN_OBJ_D_PEND p k) true

/-- A due object under the port's policy (R449). -/
def State.canDue (s : State) (p k : Nat) : State :=
  let old := (s.can p).pend.filter fun x => x.obj == k
  if old.isEmpty then s.canPut p k
  else if !s.rfb (F.CAN_CTRL_POLICY p) then s.inc (F.CAN_ERR0_SKIPPED p)
  else
    let late := old.any (·.started)
    let s := s.canFilter p fun x => x.obj != k || x.started
    let s := if late then (s.inc (F.CAN_ERR0_TOO_LATE p)).wfb (F.CAN_OBJ_D_TOO_LATE p k) true else s
    s.canPut p k

/-- Whether the device enqueues due objects (R448): in TRIAD only the lowest member in majority. -/
def State.canSends (s : State) : Bool :=
  s.mayDrive && (!s.isTriad || s.tri.majs.all fun i => decide (s.tri.idx ≤ i))

/-- A loss of DRIVE seen at D (R450); an acknowledgement still to come under COMMIT_FIRST is none (NOTES 168). -/
def State.canLoss (s : State) : State := if s.mayDrive then s else s.loseDrive

/-- `CAN_SEND_DUE` (R448 to R450): at D. -/
def execCanSendDue (p : Fin 2) (s : State) : Out :=
  .next (
    if !s.mayDrive then s.loseDrive
    else
    let s := s.updCan p fun c => { c with drive := true }
    if !s.canOn p || !s.canSends then s
    else
      let due := (List.range 128).filter fun k =>
        s.rf (F.CAN_OBJ_A_DIR p k) == 2 && decide (0 < s.rf (F.CAN_OBJ_D_PERIOD p k)) &&
          s.n % s.rf (F.CAN_OBJ_D_PERIOD p k) == 0
      (due.foldl (fun t k => t.canDue p k) s).canStart p)

/-- `CAN_TX_COMPLETE` (R449): the transmit error count falls by one (ISO 11898-1). -/
def execCanTxComplete (p : Fin 2) (s : State) : Out :=
  .next (
    if (s.can p).pend.any (·.started) then
      let s := s.canFilter p fun x => !x.started
      (((s.wf (F.CAN_STAT_TEC p) (s.rf (F.CAN_STAT_TEC p) - 1)).canState p).canStart p).canSettle p
    else s)

/-- Bus-off (R445, R450). -/
def State.canOff (s : State) (p : Nat) : State := ((s.canCancel p).wf (F.CAN_STAT_STATE p) 2).updCan p fun c => { c with off := true }

/-- The frame on the bus after an error (R449): sent again or dropped at the limit; after a trip, a loss of DRIVE, a bus-off or a
requested sleep not sent again (R450, R451). -/
def State.canRetry (s : State) (p : Nat) (x : CanPend) : State :=
  if s.dev = .tripped ∨ s.rfb (F.CAN_CTRL_SLEEP p) ∨ !(s.can p).drive ∨ 2 ≤ s.rf (F.CAN_STAT_STATE p) then s.canFilter p fun y => y != x
  else if s.rfb (F.CAN_CTRL_POLICY p) || s.rfb (F.CAN_CTRL_UNLIM p) || decide (x.tries < s.rf (F.CAN_CTRL_RETRY p)) then
    s.updCan p fun c => { c with
      pend := c.pend.map fun y => if y = x then { y with started := false, tries := y.tries + 1 } else y }
  else
    ((s.canFilter p fun y => y != x).wfb (F.CAN_OBJ_D_FAILED p x.obj) true).inc (F.CAN_ERR1_FAILED p)

/-- `CAN_TX_ERROR` (R445, R449): the transmit error count grows by 8; beyond 255 the port goes bus-off (ISO 11898-1). -/
def execCanTxError (p : Fin 2) (s : State) : Out :=
  .next (
    match (s.can p).pend.find? (·.started) with
    | none => s
    | some x =>
      let tec := s.rf (F.CAN_STAT_TEC p) + 8
      let s := s.wf (F.CAN_STAT_TEC p) (min 255 tec)
      let s := s.canRetry p x
      (if 255 < tec then s.canOff p else (s.canState p).canStart p).canSettle p)

/-- `CAN_BUS_OFF` (R450). -/
def execCanBusOff (p : Fin 2) (s : State) : Out :=
  .next (if s.rfb (F.CAN_CTRL_EN p) && !(s.can p).stb then s.canOff p else s)

/-- `CAN_BUS_OFF_RECOVERY` (R445, R450): the error counts start again at 0 (ISO 11898-1). -/
def execCanBusOffRecovery (p : Fin 2) (s : State) : Out :=
  .next (if s.rf (F.CAN_STAT_STATE p) = 2 ∧ s.rfb (F.CAN_CTRL_ABO p) then
      (((s.wf (F.CAN_STAT_STATE p) 0).wf (F.CAN_STAT_TEC p) 0).wf (F.CAN_STAT_REC p) 0).updCan p fun c => { c with off := false }
    else s)

/-- `CAN_RX_ERROR` (R445). -/
def execCanRxError (p : Fin 2) (s : State) : Out :=
  .next (if s.canOn p then (s.inc (F.CAN_STAT_REC p)).canState p else s)

/-- Whether an event on the bus wakes a port whose sleep is requested or in force (R451). -/
def State.canWakes (s : State) (p : Nat) (ev : WakeEvent) : Bool :=
  s.rfb (F.CAN_CTRL_SLEEP p) && match ev with
  | .dominant ns => s.rf (F.CAN_WAKE_MODE p) == 1 && decide (5000 ≤ ns)
  | .frame f =>
    let im := s.rf (F.CAN_WIDM_MASK p)
    let dm := s.rf (F.CAN_WDM_LO_DMASK p) + 2 ^ 32 * s.rf (F.CAN_WDM_HI_DMASK p)
    let d := s.rf (F.CAN_WD_LO_DATA p) + 2 ^ 32 * s.rf (F.CAN_WD_HI_DATA p)
    s.rf (F.CAN_WAKE_MODE p) == 2 && f.crcOk && f.ide == s.rfb (F.CAN_WAKE_IDE p) &&
      f.id.toNat &&& im == s.rf (F.CAN_WID_ID p) &&& im && leAt f.data 0 8 &&& dm == d &&& dm

end Sys2Proof.Machine
end

