-- ==== Sys2Proof/Machine/Field.lean ====
section
/-!
DEFINITION. Local field I/O (chapter 17): the command and status frames across the barrier, the field die's outputs,
latches, watchdog and hold, its samples and diagnostics, virtual station L.
-/
namespace Sys2Proof.Machine

/-! ### The field die's outputs -/

/-- The field die changed. -/
def State.updField (s : State) (f : FieldDie → FieldDie) : State := { s with field := f s.field }

/-- The control die's side changed. -/
def State.updFctl (s : State) (f : FieldCtl → FieldCtl) : State := { s with fctl := f s.fctl }

/-- Whether the field die is powered and its link runs. -/
def State.fieldOn (s : State) : Bool := s.rfb F.FIELD_CTRL_EN && s.pdAck 11

/-- Diagnostic bit `b` of channel `i` in words 24 and 25 (R431). -/
def diagBit (w i b : Nat) : Bool := nbit w (4 * i + b)

/-- A diagnostic bit set or cleared. -/
def setDiag (w i b : Nat) (on : Bool) : Nat :=
  if on then w ||| 2 ^ (4 * i + b) else if diagBit w i b then w - 2 ^ (4 * i + b) else w

/-- Whether a DO channel is latched off by OVERLOAD or OVERTEMP (R436). -/
def FieldDie.latched (f : FieldDie) (i : Nat) : Bool := diagBit f.w24 i 0 || diagBit f.w24 i 2

/-- Whether a DO switch conducts: commanded, not latched, not in a test off-pulse. -/
def FieldDie.on (f : FieldDie) (i : Nat) : Bool := nbit f.doCmd i && !f.latched i && !tget false f.pulse i

/-- A current in microamperes as an F32 code in milliamperes. -/
def microAmps (n : Nat) : Word := BitVec.ofNat 32 (f32.div (Flt.ofInt n) (Flt.ofInt 1000))

/-- The safe current of an AO (R429, R444). -/
def FieldDie.aoSafe (f : FieldDie) (j : Nat) : Word := microAmps (f.cfg.aoSafe.getD j 0)

/-- Every safe value (R429, R444). -/
def FieldDie.safeValues (f : FieldDie) : FieldDie :=
  { f with
    doCmd := f.cfg.doSafe, aoCur := (List.range 4).map f.aoSafe, heldSt := false, safeSt := true, compl := [], cal := none }

def State.fieldSafeValues (s : State) : State := s.updField FieldDie.safeValues

/-- The supervisor sends the settings across the link (R444); the watchdog starts anew. -/
def State.fieldConfig (s : State) : State :=
  let mask (n : Nat) (f : Nat → Fld) : Nat := (List.range n).foldl (fun m i => m + b2n (s.rfb (f i)) * 2 ^ i) 0
  let all (n : Nat) (f : Nat → Fld) : List Nat := (List.range n).map fun i => s.rf (f i)
  s.updField fun f => { f with
    heardAt := s.mono
    cfg :=
      { wd := s.rf F.FIELD_WD_WD, hold := s.rf F.FIELD_WD_HOLD
        diFilter := all 16 F.FIELD_DI_CFG_FILTER, diWire := mask 16 F.FIELD_DI_CFG_WIRE_EN
        doSafe := s.rf F.FIELD_DO_CFG_SAFE, openEn := s.rf F.FIELD_DO_CFG_OPEN_EN
        pulseEn := s.rf F.FIELD_DO_CFG_PULSE_EN, pulseW := s.rf F.FIELD_DO_CFG_PULSE_W
        aoSafe := all 4 F.FIELD_AO_CFG_SAFE, aoLow := all 4 F.FIELD_AO_ALM_LOW, aoHigh := all 4 F.FIELD_AO_ALM_HIGH
        namur := mask 4 F.FIELD_AI_CFG_NAMUR, aiFilter := all 4 F.FIELD_AI_CFG_FILTER } }

/-- The current that an AO applies for its command and its alarm request, with CLAMPED and ALARM (R439, R443). -/
def FieldDie.aoApply (f : FieldDie) (j : Nat) (cmd : Word) (alarm : Nat) : Word × Bool × Bool :=
  let x := f32.read cmd.toNat
  let low := microAmps (f.cfg.aoLow.getD j 0)
  let r : Word × Bool :=
    if x.isNan then (low, true)
    else if x.cmp (.ofInt 0) = .lt then (0, true)
    else if x.cmp (.ofInt 24) = .gt then (BitVec.ofNat 32 (f32.write (.ofInt 24)), true)
    else (cmd, false)
  if alarm = 1 then (low, r.2, true)
  else if alarm = 2 then (microAmps (f.cfg.aoHigh.getD j 0), r.2, true)
  else (r.1, r.2, false)

/-- The current of AO `j` set; the regulator's headroom count starts again where it changes (R440). -/
def FieldDie.setAo (f : FieldDie) (j : Nat) (c : Word) : FieldDie :=
  let same := f.aoCur.getD j 0 == c
  { f with
    aoCur := (f.aoCur ++ List.replicate (4 - f.aoCur.length) 0).set j c
    w25 := setDiag f.w25 j 1 (same && diagBit f.w25 j 1)
    compl := if same then f.compl else tset false f.compl j false }

/-- One AO channel driven by the outputs applied. -/
def FieldDie.aoDrive (f : FieldDie) (j : Nat) : FieldDie :=
  let r := f.aoApply j (f.outs.getD (8 + j) 0) (bitsOf (f.outs.getD 24 0).toNat (2 * j) 2)
  let f := f.setAo j r.1
  { f with w25 := setDiag (setDiag f.w25 j 3 r.2.1) j 2 r.2.2 }

/-- The latched bits of DO channel `i` cleared but those whose fault stands (R436, R443); a group bit stays while a channel of the
group has OVERLOAD. -/
def FieldDie.resetLatch (f : FieldDie) (i : Nat) : FieldDie :=
  let keep (b : Nat) : Bool := diagBit f.w24 i b && diagBit f.faults i b
  let w := setDiag (setDiag (setDiag f.w24 i 0 (keep 0)) i 2 (keep 2)) i 3 false
  { f with
    w24 := w
    group0 := f.group0 && (span 0 4).any (fun k => diagBit w k 0)
    group1 := f.group1 && (span 4 4).any (fun k => diagBit w k 0) }

/-- The outputs of a DRIVE frame applied (R429, R436, R439). -/
def FieldDie.drive (f : FieldDie) (outs : List Word) : FieldDie :=
  let f := ((List.range 8).filter fun i => nbit (outs.getD (16 + i) 0).toNat 0).foldl FieldDie.resetLatch f
  let d := (List.range 8).foldl (fun m i => m + b2n (nbit (outs.getD i 0).toNat 0) * 2 ^ i) 0
  let f : FieldDie := { f with outs := outs, doCmd := d, k := 0, heldSt := false, safeSt := false, wdSafe := false }
  (List.range 4).foldl FieldDie.aoDrive f

/-- A tick without a DRIVE frame: the outputs are held (R429). -/
def FieldDie.hold (f : FieldDie) : FieldDie := { f with k := f.k + 1, heldSt := !f.safeSt && !f.wdSafe }

/-- AO calibration, item 0x0A (R442; NOTES 170): 4 mA and 20 mA for 200 ms each, then gain and offset are corrected and the channel
returns to its command or its safe current. -/
def State.calStep (s : State) : State :=
  let mA (n : Int) : Word := BitVec.ofNat 32 (f32.write (.ofInt n))
  match s.field.cal with
  | none =>
    match s.fctl.cmdTest.find? fun c => c.1 == 10 with
    | none => s
    | some c => s.updField fun f => { f.setAo c.2 (mA 4) with cal := some (c.2, s.mono) }
  | some (j, t) =>
    if s.mono < t + 200000000 then s.updField fun f => f.setAo j (mA 4)
    else if s.mono < t + 400000000 || s.field.result.isSome then s.updField fun f => f.setAo j (mA 20)
    else
      let g := s.draw
      let o := g.2.draw
      o.2.updField fun f =>
        let f := if f.safeSt || f.wdSafe then f.setAo j (f.aoSafe j) else f.aoDrive j
        { f with cal := none, gain := tset 0 f.gain j g.1, offs := tset 0 f.offs j o.1, result := some (10, j, true) }

/-! ### Commands across the barrier (R428 to R430) -/

/-- `FIELD_COMMAND_SEND` (R428, R429): every output slot as dispatch holds it, DRIVE where the device sends its cue stream
in this tick, SAFE from a trip to the next BOOTING. -/
def execFieldCommandSend (s : State) : Out :=
  .next (
    if !s.fieldOn || s.dev ∈ [.booting, .parked, .refused] then s
    else
      (s.send (.field ⟨true, s.setsDrive, s.fctl.safe, s.fctl.held⟩)).wfb F.FIELD_STAT_DRIVE s.setsDrive)

/-- `FIELD_COMMAND_RECEIVE` (R428 to R430): a valid frame starts the watchdog again. -/
def execFieldCommandReceive (c : FieldCmd) (s : State) : Out :=
  .next (
    if !s.fieldOn then s
    else if !c.crcOk then s.inc F.FIELD_ERR_CRC
    else
      let s := s.updField fun f => { f with cmd := some c, heardAt := s.mono }
      if c.safe then s.fieldSafeValues else s)

/-- `FIELD_APPLY` (R429): a DRIVE frame without SAFE drives the outputs; any other tick counts, and holds outputs that are
not at their safe values. An AO in calibration takes its calibration current. -/
def execFieldApply (s : State) : Out :=
  .next (
    if !s.fieldOn then s
    else
      let drives := s.field.cmd.filter fun x => x.drive && !x.safe
      (s.updField fun f =>
        let f : FieldDie := { f with cmd := none }
        drives.elim f.hold fun x => f.drive x.outs).calStep)

/-- `FIELD_HOLD_EXPIRY` (R229, R429): after H_L ticks without a DRIVE frame. -/
def execFieldHoldExpiry (s : State) : Out :=
  .next (if s.fieldOn ∧ s.field.cfg.hold < s.field.k ∧ !s.field.safeSt then s.fieldSafeValues else s)

/-- `FIELD_WATCHDOG_EXPIRY` (R430): WD ms by an oscillator of ±5 % without a valid command frame; without the control die's power its
clock does not tell the time, and the command alone does. -/
def execFieldWatchdogExpiry (s : State) : Out :=
  .next (if s.pdAck 11 ∧ (s.boot.por ∨ s.field.heardAt + 950000 * s.field.cfg.wd ≤ s.mono) then
      let safe := s.field.safeSt
      s.fieldSafeValues.updField fun f => { f with wdSafe := true, expired := true, safeSt := safe }
    else s)

/-! ### Faults of the outputs (R436 to R440, R443) -/

/-- A diagnostic bit of word 24 set or cleared on a powered field die. -/
def State.doDiag (s : State) (i b : Nat) (on : Bool) : State :=
  if s.pdAck 11 then s.updField fun f => { f with w24 := setDiag f.w24 i b on } else s

/-- A fault that latches (R436): it stands until a sample finds it gone. -/
def State.doFault (s : State) (i b : Nat) : State :=
  if s.pdAck 11 then (s.doDiag i b true).updField fun f => { f with faults := setDiag f.faults i b true } else s

/-- `DO_OVERLOAD` (R436). -/
def execDoOverload (ch : Fin 8) (s : State) : Out := .next (s.doFault ch 0)

/-- `DO_OVERTEMP` (R436). -/
def execDoOvertemp (ch : Fin 8) (s : State) : Out := .next (s.doFault ch 2)

/-- `DO_GROUP_OVERLOAD` (R436). -/
def execDoGroupOverload (g : Fin 2) (s : State) : Out :=
  .next (if s.pdAck 11 then
      ((span (4 * g.val) 4).foldl (fun t i => t.doFault i 0) s).updField fun f =>
        if g = 0 then { f with group0 := true } else { f with group1 := true }
    else s)

/-- `DO_OPEN_WIRE` (R438): on a channel with OPEN_EN that is off. -/
def execDoOpenWire (ch : Fin 8) (present : Bool) (s : State) : Out :=
  .next (
    if !present then s.doDiag ch 1 false
    else if nbit s.field.cfg.openEn ch && !s.field.on ch then s.doDiag ch 1 true
    else s)

/-- Whether a DO channel is eligible for its off-pulse (R438). -/
def State.pulseOk (s : State) (i : Nat) : Bool :=
  nbit s.field.cfg.pulseEn i && s.field.on i && !nbit (s.field.outs.getD 25 0).toNat i

/-- `DO_TEST_PULSE` (R438): when item 0x07 has reached the channel. -/
def execDoTestPulse (ch : Fin 8) (s : State) : Out :=
  .next (if s.fieldOn && s.fctl.cmdTest.contains (7, ch.val) && s.pulseOk ch then
      s.updField fun f => { f with pulse := tset false f.pulse ch true }
    else s)

/-- `DO_PULSE_END` (R438): STUCK where the output did not fall; the field die reports the channel's result. -/
def execDoPulseEnd (ch : Fin 8) (fell : Bool) (s : State) : Out :=
  .next (if tget false s.field.pulse ch then
      (if fell then s else s.doDiag ch 3 true).updField fun f =>
        { f with pulse := tset false f.pulse ch false, result := some (7, ch.val, fell) }
    else s)

/-- `AO_COMPLIANCE` (R440): the regulator has been at its headroom limit for 1 ms; `reached`: the current it reports. -/
def execAoCompliance (ch : Fin 4) (reached : Word) (s : State) : Out :=
  .next (if s.pdAck 11 then s.updField fun f => { f with compl := tset false f.compl ch true, reach := tset 0 f.reach ch reached } else s)

/-- `AO_READBACK_FAULT` (R440): the field die reports one, or its end; the output does not change. -/
def execAoReadbackFault (ch : Fin 4) (present : Bool) (s : State) : Out :=
  .next (if s.pdAck 11 then
      s.updField fun f => { f with rbSet := tset false f.rbSet ch present, w25 := setDiag f.w25 ch 0 present }
    else s)

/-- `L_PLUS_LOW` (R443): outputs keep their commands and nothing trips. -/
def execLPlusLow (low : Bool) (s : State) : Out :=
  .next (if s.pdAck 11 then s.updField fun f => { f with lLow := low } else s)

/-! ### The sample (R428, R431, R432, R434, R435, R441) -/

/-- Quality of a field slot. -/
def fieldQual (valid range wire : Bool) : Byte := BitVec.ofNat 8 (b2n valid + 16 * b2n range + 32 * b2n wire)

/-- A number as a field slot with VALID. -/
def plainSlot (v : Nat) : FieldSlot := ⟨BitVec.ofNat 32 v, fieldQual true false false⟩

/-- Whether a measured current is below `tenths` tenths of a milliampere. -/
def belowTenths (w : Word) (tenths : Int) : Bool :=
  match f32.read w.toNat with
  | .fin neg m e => Flt.cmp (.fin neg (10 * m) e) (.ofInt tenths) == .lt
  | .inf neg => neg
  | .nan => false

/-- Whether it is above. -/
def aboveTenths (w : Word) (tenths : Int) : Bool :=
  match f32.read w.toNat with
  | .fin neg m e => Flt.cmp (.fin neg (10 * m) e) (.ofInt tenths) == .gt
  | .inf neg => !neg
  | .nan => false

/-- Status nibble and quality of an AI current (R441). -/
def aiState (namur : Bool) (w : Word) : Nat × Byte :=
  if namur then
    if belowTenths w 36 then (1, fieldQual false false true)
    else if belowTenths w 38 then (2, fieldQual true true false)
    else if aboveTenths w 210 then (8, fieldQual false true false)
    else if aboveTenths w 205 then (4, fieldQual true true false)
    else (0, fieldQual true false false)
  else if aboveTenths w 240 then (8, fieldQual false true false)
  else (0, fieldQual true false false)

/-! ### The input filters (R434, R435, R441) -/

/-- A debounce filter of `t` µs over runs of its input (R434). -/
def Debounce.over (t : Nat) (f : Debounce) (l : List (Bool × Nat)) : Debounce :=
  l.foldl (fun f r =>
    let held := min t (if r.1 = f.cur then f.held + r.2 else r.2)
    ⟨if t ≤ held then r.1 else f.out, r.1, held⟩) f

/-- A first-order filter over runs of its input (R441): y + k (x − y), and without a filter the input itself. -/
def aiOver (code : Nat) (y : Word) (l : List (Word × Nat)) : Word :=
  l.foldl (fun y r =>
    if code = 0 then r.1
    else
      let rd (w : Word) : Flt := f32.read w.toNat
      let d := f32.add (rd r.1) (rd y).neg
      BitVec.ofNat 32 (f32.add (rd y) (f32.read (f32.mul (rd (Config.aiCoeff code r.2)) (f32.read d))))) y

/-- The filters brought to the sample instant. -/
def FieldDie.filter (f : FieldDie) (x : FieldIn) : FieldDie :=
  let t (i : Nat) : Nat := 100 * f.cfg.diFilter.getD i 0
  { f with
    di := (List.range 16).foldl (fun l i => tupd {} l i fun y => y.over (t i) (x.di.getD i [])) f.di
    wire := (List.range 16).foldl (fun l i => tupd {} l i fun y => y.over (t i) (x.diWire.getD i [])) f.wire
    ai := (List.range 4).foldl (fun l k => tupd 0 l k fun y => aiOver (f.cfg.aiFilter.getD k 0) y (x.ai.getD k [])) f.ai }

/-- A wire break at DI `i` (R435): the current has stayed low for the filter time. -/
def FieldDie.broken (f : FieldDie) (i : Nat) : Bool :=
  let w := tget {} f.wire i
  nbit f.cfg.diWire i && w.cur && decide (100 * f.cfg.diFilter.getD i 0 ≤ w.held)

/-- A DI slot (R434, R435). -/
def FieldDie.diSlot (f : FieldDie) (i : Nat) : FieldSlot :=
  if f.broken i then ⟨0, fieldQual false false true⟩ else plainSlot (b2n (tget {} f.di i).out)

/-- Status nibble and quality of AI `k` (R441). -/
def FieldDie.aiStat (f : FieldDie) (k : Nat) : Nat × Byte := aiState (nbit f.cfg.namur k) (tget 0 f.ai k)

/-- Word 26: WIRE and TEST_FAIL of each DI. -/
def FieldDie.word26 (f : FieldDie) (x : FieldIn) : Nat :=
  (List.range 16).foldl (fun w i => w + b2n (f.broken i) * 2 ^ i) 0 + x.diFail.toNat * 65536

/-- Word 27: the status nibbles of the AIs and REF_FAIL. -/
def FieldDie.word27 (f : FieldDie) (x : FieldIn) : Nat :=
  (List.range 4).foldl (fun w k => w + (f.aiStat k).1 * 16 ^ k) 0 + x.aiFail.toNat * 65536

/-! ### The slots -/

/-- Word 28 (R431). -/
def FieldDie.word28 (f : FieldDie) : Nat :=
  b2n f.lLow + 2 * b2n f.group0 + 4 * b2n f.group1 + 8 * b2n f.wdSafe + 16 * b2n f.heldSt + 32 * b2n f.safeSt

/-- Echo of a DO slot (R432, R436, R438). -/
def FieldDie.doSlot (f : FieldDie) (x : FieldIn) (i : Nat) : FieldSlot :=
  ⟨BitVec.ofNat 32 (b2n (x.doHigh.getLsbD i)), fieldQual true (f.latched i) (diagBit f.w24 i 1)⟩

/-- Echo of an AO slot (R432, R440). -/
def FieldDie.aoSlot (f : FieldDie) (x : FieldIn) (j : Nat) : FieldSlot :=
  ⟨x.aoRead.getD j 0, fieldQual (!diagBit f.w25 j 0) (diagBit f.w25 j 1) false⟩

/-- The 64 slots of station L (R431, R432). -/
def FieldDie.slots (f : FieldDie) (x : FieldIn) : List FieldSlot :=
  (List.range 16).map f.diSlot ++
  (List.range 4).map (fun k => ⟨tget 0 f.ai k, (f.aiStat k).2⟩) ++
  [plainSlot x.lplus.toNat, plainSlot x.temp.toNat, plainSlot 0, plainSlot 0] ++
  [f.w24, f.w25, f.word26 x, f.word27 x, f.word28, 0, 0, 0].map plainSlot ++
  (List.range 8).map (f.doSlot x) ++
  (List.range 4).map (f.aoSlot x) ++ List.replicate 4 (plainSlot 0) ++
  (List.range 8).map (fun i => plainSlot (b2n (f.latched i || diagBit f.w24 i 3))) ++
  [plainSlot (f.outs.getD 24 0).toNat, plainSlot (f.outs.getD 25 0).toNat] ++ List.replicate 6 (plainSlot 0)

/-- Whether a readback is more than 0.24 mA off its target (R440). -/
def aoOff (read target : Word) : Bool :=
  match f32.read read.toNat, f32.read target.toNat with
  | .fin a m e, .fin b n d =>
    let base := min e d
    (Flt.fin false (25 * (scaled a m e base - scaled b n d base).natAbs) base).cmp (.ofInt 6) == .gt
  | _, _ => true

/-- The diagnostics of AO `j` at a sample (R440, R442): COMPLIANCE of a regulator at its limit; READBACK where the readback has been
off its target at three samples in a row, a check has failed or the field die reports a fault (NOTES 171). -/
def FieldDie.aoDiag (x : FieldIn) (f : FieldDie) (j : Nat) : FieldDie :=
  let c := tget false f.compl j
  let target := if c then tget 0 f.reach j else f.aoCur.getD j 0
  let n := if aoOff (x.aoRead.getD j 0) target then min 3 (tget 0 f.rbCnt j + 1) else 0
  { f with
    rbCnt := tset 0 f.rbCnt j n
    w25 := setDiag (setDiag f.w25 j 1 c) j 0 (n == 3 || x.aoFail.getLsbD j || tget false f.rbSet j) }

/-- What a sample brings up to date: the input filters, the standing faults, the AO diagnostics. -/
def FieldDie.sampled (f : FieldDie) (x : FieldIn) : FieldDie :=
  (List.range 4).foldl (FieldDie.aoDiag x) { f.filter x with faults := x.doFault.toNat }

/-- The result of a self-test that the field die has carried out since the last sample (R442); of item 0x07 the pulse end
gives it, and of item 0x0A the end of the calibration. -/
def State.fieldResult (s : State) (x : FieldIn) : Option (Nat × Nat × Bool) :=
  s.field.result.orElse fun _ => s.fctl.cmdTest.findSome? fun (c : Nat × Nat) =>
    match c.1 with
    | 6 => some (6, c.2, !x.diFail.getLsbD c.2)
    | 8 => some (8, c.2, !x.aoFail.getLsbD c.2)
    | 9 => some (9, c.2, !x.aiFail.getLsbD c.2)
    | _ => none

/-- `FIELD_SAMPLE` (R428, R431, R432): the sample, and the status frame that leaves with it. -/
def execFieldSample (x : FieldIn) (s : State) : Out :=
  .next (
    if !s.fieldOn then s
    else
      let s := s.updField fun f => f.sampled x
      let l := s.field.slots x
      (s.send (.fieldStatus { crcOk := true, slots := l, wdExpired := s.field.expired, result := s.fieldResult x })).updField
        fun f => { f with sample := l, expired := false, result := none })

/-! ### Self-test items (R498, R502) -/

/-- An item's record. -/
def State.item (s : State) (k : Nat) : Item := tget {} s.hlth.items k

/-- The health state changed. -/
def State.updHlth (s : State) (f : Hlth → Hlth) : State := { s with hlth := f s.hlth }

/-- An item's record changed. -/
def State.updItem (s : State) (k : Nat) (f : Item → Item) : State :=
  s.updHlth fun h => { h with items := tupd {} h.items k f }

/-- An item's status (R502). -/
def State.setStatus (s : State) (k v : Nat) : State := s.wf (F.HLTH_ITEM_STATUS (k - 1)) v

/-- A pass whose slices have all completed ends (R498, R502, R503). -/
def State.endPass (s : State) (k : Nat) : State :=
  let i := s.item k
  if !i.started || i.left != 0 || !i.chans.isEmpty then s
  else ((s.setStatus k (if i.failed then 4 else 3)).wfb (F.HLTH_ITEM_REQ (k - 1)) false).updItem k fun i => { i with
    pending := false, req := false, started := false, last := some s.mono, bad := i.failed, aged := false }

/-! ### Status frames at the control die (R428, R433, R498) -/

/-- A self-test result of the field die (R498, R500, R503): the channel's slice is complete. -/
def State.testResult (s : State) (r : Nat × Nat × Bool) : State :=
  if !s.fctl.cmdTest.contains (r.1, r.2.1) then s
  else
    let s := s.updFctl fun c => { c with cmdTest := c.cmdTest.filter fun x => x ≠ (r.1, r.2.1) }
    (s.updItem r.1 fun i => { i with failed := i.failed || !r.2.2, left := i.left - 1 }).endPass r.1

/-- The slots of an accepted status frame in bank L, through the gate context of the string sequencers (R63, R369). -/
def State.landField (s : State) (l : List FieldSlot) : State :=
  let b := s.rf F.FIELD_BASE_BASE
  (List.range 8).foldl (fun t line =>
    let g := t.gate 48 (bankL + 8 * (b + 8 * line)) 64 .write
    if g.1 then (List.range 8).foldl (fun u i =>
      let x := l.getD (8 * line + i) ⟨0, 0⟩
      u.putL (b + 8 * line + i) x.value x.qual) t
    else g.2) s

/-- What a status frame leaves in station L's record and the registers (R150, R433, R444). -/
def State.fieldHeard (s : State) (st : FieldStatus) : State :=
  let w28 := (st.slots.getD 28 ⟨0, 0⟩).value
  let b (i : Nat) : Nat := b2n (w28.getLsbD i)
  let s := s.updSta 2048 fun x => { x with
    u := some s.n, admitted := true, status := w28, misfit := x.misfit }
  let s := (s.wf F.FIELD_STAT_FLAGS (b 0 + 2 * b 3 + 4 * b 4 + 8 * b 5)).wf F.FIELD_DIAG_DO (st.slots.getD 24 ⟨0, 0⟩).value.toNat
  if st.wdExpired then s.inc F.FIELD_WDCNT_EXPIRED else s

/-- `FIELD_STATUS_RECEIVE` (R63, R64, R428, R433): a reply of station L; one outside σ to W counts as missing. -/
def execFieldStatusReceive (st : FieldStatus) (s : State) : Out :=
  .next (
    if !s.fieldOn || s.dev ∈ [.booting, .parked, .refused] then s
    else if !st.crcOk then s.inc F.FIELD_ERR_CRC
    else if !s.reached (s.rf F.TICK_PH2_SAMPLE) || decide (s.rf F.TICK_PH1_REPLY_END * s.tb < 1000 * s.inTick) then s
    else
      let t := s.landField st.slots
      if t.dev = .tripped ∧ s.dev ≠ .tripped then t
      else
        let t := (t.fieldHeard st).updFctl fun c => { c with gotTick := some s.n }
        match st.result with
        | none => t
        | some r => t.testResult r)

/-- What a tick boundary does with the field link, `n` the tick that ended (R345, R350, R433, R444); a span of answers begins with
its first tick, and after a trip with the trip. -/
def State.fieldTick (s : State) (n : Nat) : State :=
  if !s.fieldOn then s
  else
    let got := decide (s.fctl.gotTick = some n)
    let s := s.wfb F.FIELD_STAT_LINK got
    if got then
      let since := s.fctl.since.getD (max s.tstart.toNat s.tripTime.toNat)
      s.updFctl fun c => { c with
        misses := 0, since := some since, ok := c.ok || decide (since + 100000000 ≤ s.mono) }
    else
      ((s.inc F.FIELD_ERR_MISS).updSta 2048 fun x => { x with admitted := false }).updFctl fun c =>
        { c with misses := c.misses + 1, since := none }

end Sys2Proof.Machine
end

