-- ==== Sys2Proof/Machine/TwinBay.lean ====
section
/-!
DEFINITION. The twin comparators and their tests (R165 to R170), bay faults, fencing and shedding (R171 to R176), commits
deferred to F_d (R269).
-/
namespace Sys2Proof.Machine

/-! ### Comparisons -/

/-- The first comparator fault since reset (R178): kind, twin, task, segment. -/
def State.comparatorFault (s : State) (t kind task seg : Nat) : State :=
  if s.rf F.TWIN_MISM_A_KIND ≠ 0 then s
  else
    let s := ((s.wf F.TWIN_MISM_A_KIND kind).wf F.TWIN_MISM_A_TWIN t).wf F.TWIN_MISM_A_TASK task
    (s.wf F.TWIN_MISM_B_SEG seg).wf F.TWIN_MISM_C_TICK_LO s.n

/-- The duplicate bank disagrees (R169). -/
def State.dupDisagree (s : State) (t task seg : Nat) : State :=
  ((s.wfb (F.TWIN_STAT_DUP_DIS t) true).comparatorFault t 3 task seg).trip 5

/-- The second comparison of an injection test and the interval started again (R168). -/
def State.injectTest (s : State) (t task seg : Nat) (env : CmpEnv) : State :=
  let k := tget 0 s.sched.injBit t
  let s := { s with sched := { s.sched with
    injDue := s.sched.injDue &&& (0x3F - 2 ^ t), injAt := tset none s.sched.injAt t (some s.mono), injBit := tset 0 s.sched.injBit t ((k + 1) % 64) } }
  let s := s.wf (F.TWIN_STAT_INJ_BIT t) k
  if env.injMatch then ((s.wfb (F.TWIN_STAT_INJ_MISS t) true).comparatorFault t 2 task seg).trip 5
  else { s.inc (F.TWIN_INJ_COUNT t) with hlth := { s.hlth with injPass := satAdd 32 s.hlth.injPass 1 } }

/-- A matching comparison counted (R178, R505). -/
def State.cmpMatch (s : State) (t : Nat) : State :=
  { s.inc (F.TWIN_CMP_COUNT t) with hlth := { s.hlth with cmpPass := satAdd 32 s.hlth.cmpPass 1 } }

/-- Both engines of a twin go on with the next segment; outside the window they are suspended (R41, R165). -/
def State.nextSegs (s : State) (e : Nat) : State :=
  let s := [e, e + 1].foldl (fun s i => (s.updEng i fun g => { g with cur := g.cur.map Act.nextSeg }).engRegs i) s
  if s.sched.execOpen then s else s.settle e

/-- The segment that matched leaves staging (R165); a rehearsal's is dropped and its end is kept to compare (R290). -/
def State.matched (s : State) (t : Nat) (a : Act) : State :=
  let e := 2 * t
  if a.rehearsal then
    if a.done then { s with mirr := { s.mirr with rehOwn := some (a.total, a.digest) } }.freeQueue e
    else s.nextSegs e
  else
    let s := s.commitOrDefer e a
    if s.dev = .tripped then s
    else if a.done then s.freeQueue e
    else s.nextSegs e

/-- `TWIN_COMPARE` (R165, R166, R168, R169): nothing is compared before both engines stand at the same point. With a match
the segment commits before a disagreement of the banks trips (NOTES 19). -/
def execTwinCompare (t : Fin 6) (env : CmpEnv) (s : State) : Out :=
  .next (
    let e := 2 * t.val
    match (s.getEng e).cur, (s.getEng (e + 1)).cur with
    | some a, some b =>
      if !s.twinMode e || !((a.done || a.check) && (b.done || b.check)) then s
      else
        let dup := s.dupRuns || nbit s.sched.injDue t
        let bad := a.digest ≠ b.digest ∨ a.total ≠ b.total ∨ a.done ≠ b.done ∨ (s.getEng e).ecc ∨ (s.getEng (e + 1)).ecc
        if bad then
          let s := ((s.wfb (F.TWIN_STAT_MISMATCH t) true).comparatorFault t 1 a.task a.seg).trip 4
          if dup && env.dupDisagrees then s.dupDisagree t a.task a.seg else s
        else
          let s := s.cmpMatch t
          let due := nbit s.sched.injDue t
          let s := s.matched t a
          let s := if due then s.injectTest t a.task a.seg env else s
          if dup && env.dupDisagrees then s.dupDisagree t a.task a.seg else s
    | _, _ => s)

/-- The injection interval of a twin, and `extra` ns, have elapsed: from the boot's tests or its last test (R168). -/
def State.injElapsed (s : State) (t extra : Nat) : Bool :=
  decide (s.dev ∉ [.booting, .parked, .refused, .tripped]) && s.twinMode (2 * t) &&
  decide ((tget none s.sched.injAt t).getD s.hlth.readyAt + s.rf F.TWIN_CFG_INJ_INT * 1000000000 + extra ≤ s.mono)

/-- `INJECTION_INTERVAL_EXPIRY` (R168). -/
def execInjectionIntervalExpiry (t : Fin 6) (s : State) : Out :=
  .next (if s.injElapsed t 0 then { s with sched := { s.sched with injDue := s.sched.injDue ||| 2 ^ t.val } } else s)

/-- An injection test in a tail: the pair of comparisons on digests the supervisor loads, which the duplicate bank must agree on
(R168, R169). A fault there names task and segment 0 (NOTES 137). -/
def State.tailTest (s : State) (t : Nat) (env : CmpEnv) : State :=
  let s := (s.cmpMatch t).injectTest t 0 0 env
  if env.dupDisagrees then s.dupDisagree t 0 0 else s

/-- `INJECTION_TEST_TAIL` (R168, R169): of a twin without a comparison within 1 s after its interval has elapsed. -/
def execInjectionTestTail (t : Fin 6) (env : CmpEnv) (s : State) : Out :=
  .next (if nbit s.sched.injDue t && s.injElapsed t 1000000000 then s.tailTest t env else s)

/-! ### Bay faults -/

/-- A stage discarded, with the switch that was to apply it (R325, R341): nothing is staged any more. -/
def State.discardStage (s : State) : State :=
  ({ s with chg := { s.chg with staging := none, plan := none, switch := none } } : State).chgPhase

/-- A bay due for fencing; with AUTO 0 none is fenced and the grade is WORN (R171, R341, R503; NOTES 154). -/
def State.bayDue (s : State) (b : Nat) : State :=
  if nbit (s.rf F.SEQ_FENCE_FENCED) b then s
  else
    let s := (s.wf F.SEQ_FENCE_DUE (s.rf F.SEQ_FENCE_DUE ||| 2 ^ b)).discardStage
    if s.rfb F.SEQ_FENCE_CFG_AUTO then s else { s with hlth := { s.hlth with cond := s.hlth.cond ||| 2 } }

/-- A bay marked in retain (R166, R176). -/
def State.bayMark (s : State) (b : Nat) : State := s.wf F.SEQ_FENCE_MARK (s.rf F.SEQ_FENCE_MARK ||| 2 ^ b)

/-- One counted fault event (R171, R177). -/
def State.bayEvent (s : State) (b : Nat) : State :=
  let s := (s.inc (F.SEQ_BAYEVT_COUNT b)).inc (F.SEQ_BAYEVT_TOTAL b)
  if s.rf F.SEQ_FENCE_CFG_LIMIT ≤ s.rf (F.SEQ_BAYEVT_COUNT b) then s.bayDue b else s

/-- `BAY_FAULT_EVENT` (R171). -/
def execBayFaultEvent (b : Fin 3) (k : BayEvent) (s : State) : Out :=
  .next (match k with
    | .bist => s.bayDue b
    | _ => s.bayEvent b)

/-- `BAY_WINDOW_CLEAR` (R171): at the ticks whose number is a multiple of 2^WIN. -/
def execBayWindowClear (s : State) : Out :=
  .next (if s.n % 2 ^ s.rf F.SEQ_FENCE_CFG_WIN = 0 then
      (List.range 3).foldl (fun t b => t.wf (F.SEQ_BAYEVT_COUNT b) 0) s
    else s)

/-- `ENGINE_SRAM_ECC_ERROR` (R166): in TWIN mode the next comparison fails; a SPLIT engine drops the activation it
executes, or with none the next it holds. -/
def execEngineSramEccError (e : Fin 12) (s : State) : Out :=
  .next (
    let g := s.getEng e
    if g.cur.isNone ∧ g.ready.isEmpty then s
    else
      let s := if s.twinMode e then s.updEng e fun g => { g with ecc := true }
        else if g.cur.isSome then (s.updEng e fun g => { g with cur := none }).engRegs e
        else s.updEng e fun g => match s.nextReady g.ready with
          | some a => { g with ready := g.ready.erase a }
          | none => g
      (s.bayMark (e / 4)).bayDue (e / 4))

/-! ### Fencing (R172 to R176) -/

/-- The codes that may take a moved part: twins in TWIN mode, or engines of SPLIT twins, outside the bays of `out`. -/
def State.survivors (s : State) (out : Nat) (twin : Bool) : List Nat :=
  (if twin then (List.range 6).filter fun t => s.twinMode (2 * t)
   else (span 0x10 12).filter fun k => !s.twinMode (k - 0x10)).filter fun k => !nbit out (bayOf k)

/-- Moved parts placed one after another on the first code where R89 and R43 still hold (R172). -/
def State.placeAll (s : State) (g : Image) (out : Nat) : List Placed → List Placed → Option (List Placed)
  | pl, [] => some pl
  | pl, p :: t =>
    match (s.survivors out (decide (p.code < 0x10))).find? fun k => s.placeOk g (pl ++ [{ p with code := k }]) with
    | none => none
    | some k => s.placeAll g out (pl ++ [{ p with code := k }]) t

/-- A part put into task-table and shard order. -/
def insPlaced (x : Placed) : List Placed → List Placed
  | [] => [x]
  | y :: t => if taskKey x.task x.shard ≤ taskKey y.task y.shard then x :: y :: t else y :: insPlaced x t

/-- A placement without the bays of `out` and without the shed tasks (R172): parts elsewhere stay. -/
def State.replace (s : State) (g : Image) (pl : List Placed) (out : Nat) (shed : List Nat) : Option (List Placed) :=
  let pl := pl.filter fun p => p.task ∉ shed
  (s.placeAll g out (pl.filter fun p => !nbit out (bayOf p.code)) (pl.filter fun p => nbit out (bayOf p.code))).map
    fun l => l.foldr insPlaced []

/-- SHEDDABLE tasks in the order they are shed: longest class first, then from the end of the task table (R173). -/
def shedOrder (g : Image) (shed : List Nat) : List Nat :=
  (List.range 8).reverse.flatMap fun c => (List.range g.tasks.length).reverse.filter fun i =>
    i ∉ shed && (g.tasks[i]?).elim false fun t => t.img.shed && t.img.cls == c

/-- The first placement found while shedding one task more at a time (R173). -/
def State.findPlace (s : State) (g : Image) (pl : List Placed) (out : Nat) (shed : List Nat) : Option (List Placed × List Nat) :=
  let order := shedOrder g shed
  (List.range (order.length + 1)).findSome? fun k =>
    (s.replace g pl out (shed ++ order.take k)).map fun q => (q, shed ++ order.take k)

/-- `FENCE_DECISION` (R172, R173, R175): for the lowest-numbered due bay. -/
def execFenceDecision (s : State) : Out :=
  .next (match (List.range 3).find? fun b => nbit (s.rf F.SEQ_FENCE_DUE) b with
    | none => s
    | some b =>
      if s.sched.newPlaced.isSome || !s.rfb F.SEQ_FENCE_CFG_AUTO then s
      else match s.findPlace s.img s.sched.placed (s.rf F.SEQ_FENCE_FENCED ||| 2 ^ b) s.sched.shed with
        | some (pl, shed) =>
          let moved := (s.sched.placed.filter fun p => bayOf p.code == b && !decide (p.task ∈ shed)).map fun p => (p.task, p.shard)
          { s with sched := { s.sched with newPlaced := some (b, pl, shed), moved := s.sched.moved ++ moved } }
        | none =>
          if s.dev = .standby ∨ s.dev = .syncing then
            { (s.wf F.SEQ_FENCE_DUE (s.rf F.SEQ_FENCE_DUE &&& (7 - 2 ^ b))) with hlth := { s.hlth with cond := s.hlth.cond ||| 512 } }
          else { s with sched := { s.sched with fenceTrip := true } })

/-- The output slots of a shed task lose VALID in bank F (R174). -/
def State.shedOutputs (s : State) (task : Nat) : State :=
  match s.img.tasks[task]? with
  | none => s
  | some d => (slotEnts d.img).foldl (fun t w => (span w.1 w.2).foldl (fun t h =>
      let x := t.slotF h
      t.wrSlotF h { x with qual := x.qual &&& 0xFE#8 }) t) s

/-- A fence takes effect (R174, R176). -/
def State.fence (s : State) (b : Nat) (pl : List Placed) (shed : List Nat) : State :=
  let fresh := shed.filter fun i => i ∉ s.sched.shed
  let s := ((s.wf F.SEQ_FENCE_FENCED (s.rf F.SEQ_FENCE_FENCED ||| 2 ^ b)).wf F.SEQ_FENCE_DRAINING
    (s.rf F.SEQ_FENCE_DRAINING ||| 2 ^ b)).wf F.SEQ_FENCE_DUE (s.rf F.SEQ_FENCE_DUE &&& (7 - 2 ^ b))
  let s := s.bayMark b
  let s := if s.rf F.SEQ_SHED_COUNT = 0 then (match shed with | i :: _ => s.wf F.SEQ_SHED_FIRST i | [] => s) else s
  let s := s.wf F.SEQ_SHED_COUNT shed.length
  let s := { s with sched := { s.sched with placed := pl, shed := shed, newPlaced := none } }
  fresh.foldl State.shedOutputs s

/-- `FENCE_EFFECT` (R174, R175): not at a boundary at which a device state transition takes effect. -/
def execFenceEffect (s : State) : Out :=
  .next (match s.sched.newPlaced with
    | none => s
    | some (b, pl, shed) => if s.since = 0 ∨ s.awaitsMove then s else s.fence b pl shed)

/-- `BAY_DRAINED` (R174): the last activation of a fenced bay has committed. -/
def execBayDrained (b : Fin 3) (s : State) : Out :=
  .next (
    let idle := (span (4 * b.val) 4).all fun e => (s.getEng e).cur.isNone && (s.getEng e).ready.isEmpty
    if nbit (s.rf F.SEQ_FENCE_DRAINING) b && idle && s.deferred.all (fun p => p.1 / 4 != b.val) then
      (s.wf F.SEQ_FENCE_DRAINING (s.rf F.SEQ_FENCE_DRAINING &&& (7 - 2 ^ b.val))).pdOffReq (4 + b)
    else s)

/-- A deferred commit put in the order of the engines, those of one engine as they came. -/
def insDeferred (x : Nat × Act) : List (Nat × Act) → List (Nat × Act)
  | [] => [x]
  | y :: t => if x.1 ≤ y.1 then x :: y :: t else y :: insDeferred x t

/-- `DEFERRED_COMMIT` (R152, R269): from F_d on the commits that waited in staging, which fall in one clock. -/
def execDeferredCommit (s : State) : Out :=
  .next (if !s.commitSpan then s
    else (s.deferred.foldr insDeferred []).foldl (fun t p => if t.dev = .tripped then t else t.commitAct p.1 p.2)
      { s with deferred := [] })

end Sys2Proof.Machine
end

