-- ==== Sys2Proof/Machine/Health.lean ====
section
/-!
DEFINITION. Self-test and calibration, the health grade, the books and the health record (chapter 21).
-/
namespace Sys2Proof.Machine

/-! ### Items (R497, R498) -/

/-- Whether self-test runs in a state. -/
def testsRun (d : DevState) : Bool :=
  decide (d ∈ [.ready, .syncing, .standby, .active, .member, .benched, .stopped])

/-- Length of a slice in ns. -/
def sliceNs (k : Nat) : Nat :=
  match k with
  | 1 => 2000 | 2 => 8000 | 3 => 4000 | 4 => 2000 | 5 => 6000 | _ => 1000

/-- The period of an item in ns, none for the item that runs on request only. -/
def State.itemPeriod (s : State) (k : Nat) : Option Nat :=
  let sec := 1000000000
  match k with
  | 1 => some (s.rf F.TWIN_CFG_INJ_INT * sec)
  | 2 | 6 => some (10 * sec)
  | 3 => some (300 * sec)
  | 4 => some (86400 * sec)
  | 5 | 7 | 8 | 9 => some (60 * sec)
  | _ => none

/-- The bound of an item in ns. -/
def State.itemBound (s : State) (k : Nat) : Option Nat :=
  let sec := 1000000000
  match k with
  | 1 => some ((s.rf F.TWIN_CFG_INJ_INT + 2) * sec)
  | 2 | 6 => some (60 * sec)
  | 3 | 7 => some (3600 * sec)
  | 4 => some (93600 * sec)
  | 5 | 8 | 9 => some (600 * sec)
  | _ => none

/-- The age of an item in ns: since its last completed pass, or since an entry into READY after it (R498). -/
def State.itemAge (s : State) (k : Nat) : Nat := s.mono - max ((s.item k).last.getD 0) s.hlth.readyAt

/-- The idle lanes (R17, R498): strings 0 to 15, the pair link 16 and 17, the triad links 18 and 19. -/
def State.idleLanes (s : State) : List Nat :=
  let str := (List.range 16).filter fun k => s.pdAck (if k < 8 then 8 else 9) && !s.rfb (F.STR_CTRL_EN (s.strOf k))
  (str ++ (if s.isPair then [] else [16, 17]) ++ (if s.isTriad then [] else [18, 19])).filter
    fun l => !s.hlth.badLane.contains l

/-- What the slices of a pass cover one by one (R498). -/
def State.targets (s : State) (k : Nat) : List Nat :=
  match k with
  | 1 => (List.range 6).filter fun t => s.twinMode (2 * t) && !nbit (s.rf F.SEQ_FENCE_FENCED) (t / 2)
  | 2 => (List.range 12).filter fun e => !nbit (s.rf F.SEQ_FENCE_FENCED) (e / 4)
  | 5 => s.idleLanes
  | 6 => if s.fieldOn then List.range 16 else []
  | 7 => if s.fieldOn then (List.range 8).filter fun i => nbit (s.rf F.FIELD_DO_CFG_PULSE_EN) i else []
  | 8 | 9 => if s.fieldOn then List.range 4 else []
  | _ => []

/-- Whether AO calibration may run on a channel in service (R442). -/
def State.calOk (s : State) (j : Nat) : Bool := s.rfb (F.FIELD_AO_CFG_CAL_EN j) || decide (s.dev = .standby)

/-- The next AO channel that calibration may take. -/
def State.calChan (s : State) : Option Nat :=
  if s.fieldOn then (List.range 4).findSome? fun i =>
    let j := (s.hlth.calNext + i) % 4
    if s.calOk j then some j else none
  else none

/-! ### Slices (R499, R500) -/

/-- The first slice of a pass: what it covers, status running unless the request has aged. -/
def State.beginPass (s : State) (k : Nat) : State :=
  if (s.item k).started then s
  else
    let ch := s.targets k
    let n := match k with
      | 3 => 20480 | 4 => 65536 | 6 | 7 | 8 | 9 => ch.length | 10 => 1 | _ => 0
    (if s.rf (F.HLTH_ITEM_STATUS (k - 1)) = 5 then s else s.setStatus k 2).updItem k fun i => { i with
      started := true, chans := ch, left := n, failed := false }

/-- A slice of a control-die item failed: on the pass, and what R168, R171 and R500 say. `bay`: where a March slice tests
engine-local SRAM. -/
def State.sliceFails (s : State) (k target : Nat) (bay : Option (Fin 3)) : State :=
  let s := s.updItem k fun i => { i with failed := true }
  match k with
  | 2 => s.bayDue (target / 4)
  | 3 => match bay with
    | some b => s.bayEvent b
    | none => s.updHlth fun h => { h with cond := h.cond ||| 4096 }
  | 5 => s.updHlth fun h => { h with linkErr := satAdd 32 h.linkErr 1, badLane := h.badLane ++ [target] }
  | _ => s

/-- A patrol scrub slice (R500): 64 lines, their single-bit errors corrected and counted (R82; NOTES 176). -/
def State.scrubSlice (s : State) (corrected : Nat) : State :=
  let s := s.inc F.IMG_ECC_CORR corrected
  (s.inc F.HLTH_SCRUB_CORR corrected).updHlth fun h => { h with
    scrub := satAdd 32 h.scrub corrected, scrubLine := (h.scrubLine + 64) % 4194304 }

/-- A field self-test commanded on one channel (R442, R498). -/
def State.fieldTest (s : State) (k ch : Nat) : State :=
  (s.updItem k fun i => { i with chans := i.chans.erase ch }).updFctl fun c => { c with cmdTest := c.cmdTest ++ [(k, ch)] }

/-- The channel that the next slice of a field item takes; of item 0x07 only an eligible one (R438, R443). -/
def State.nextChan (s : State) (k : Nat) : Option Nat :=
  if k = 7 then (s.item 7).chans.find? s.pulseOk else (s.item k).chans.head?

/-- One slice of an item whose pass has begun. `fails`: the slice of this tail fails. -/
def State.runSlice (s : State) (k : Nat) (env : TailEnv) : State :=
  let fails := env.fails.contains k
  let i := s.item k
  if k = 3 ∨ k = 4 then
    let s := s.updItem k fun i => { i with left := i.left - 1 }
    let s := if k = 4 then s.scrubSlice env.scrub else s
    if fails then s.sliceFails k 0 env.marchBay else s
  else if k = 1 then
    match i.chans with
    | [] => s
    | t :: r => (s.updItem 1 fun i => { i with chans := r, failed := i.failed || fails }).tailTest t ⟨fails, env.dup⟩
  else if k = 2 ∨ k = 5 then
    match i.chans with
    | [] => s
    | t :: r =>
      let s := s.updItem k fun i => { i with chans := r }
      if fails then s.sliceFails k t none else s
  else if k = 10 then
    match s.calChan with
    | none => s
    | some j => (s.updHlth fun h => { h with calNext := (j + 1) % 4 }).fieldTest 10 j
  else
    match s.nextChan k with
    | none => s
    | some ch => s.fieldTest k ch

/-- Targets that are no longer to be covered leave the pass: engines and twins of a bay fenced since (R506). -/
def State.trimPass (s : State) (k : Nat) : State :=
  if k = 1 ∨ k = 2 ∨ k = 5 then
    let ok := s.targets k
    s.updItem k fun i => { i with chans := i.chans.filter ok.contains }
  else s

/-- Whether an item has a slice to offer in this tail. -/
def State.offers (s : State) (k : Nat) : Bool :=
  let i := s.item k
  if !i.started then (if k = 10 then s.calChan.isSome else true)
  else if k = 3 ∨ k = 4 then i.left != 0
  else if k = 10 then false
  else if k = 1 ∨ k = 2 ∨ k = 5 then !i.chans.isEmpty
  else (s.nextChan k).isSome

/-- An item offered one slice, with `budget` ns left in the tail (R497, R499). An item with no slice to run has passed. -/
def State.offer (env : TailEnv) (x : Nat × State) (k : Nat) : Nat × State :=
  let s := x.2
  if s.dev = .tripped ∨ !(s.item k).pending then x
  else
    let s := if k = 10 && !(s.item k).started && s.calChan.isNone then s.setStatus 10 6 else s
    if !s.offers k then (x.1, (s.trimPass k).endPass k)
    else if !(s.item k).started && k ∉ [3, 4, 10] && (s.targets k).isEmpty then (x.1, (s.beginPass k).endPass k)
    else if x.1 < sliceNs k then (x.1, s)
    else
      let s := ((s.beginPass k).trimPass k).runSlice k env
      (x.1 - sliceNs k, (s.updHlth fun h => { h with lastItem := k }).endPass k)

/-- The order of R499: requested passes first, then background passes in ascending code after the last item served. -/
def State.offerOrder (s : State) : List Nat :=
  let all := span 1 10
  let l := s.hlth.lastItem
  let req := all.filter fun k => (s.item k).req
  let bg := (all.filter fun k => decide (l < k)) ++ all.filter fun k => decide (k ≤ l)
  req ++ bg.filter fun k => !(s.item k).req

/-- The self-test of one tail (R497, R499). -/
def State.selfTests (s : State) (env : TailEnv) : State :=
  if !testsRun s.dev then s
  else
    let start := max s.inTick (s.rf F.TICK_PH1_COMMIT_END * s.tb / 1000)
    (s.offerOrder.foldl (State.offer env) (s.tb - 2000 - start, s)).2

/-! ### When passes begin and age (R499, R502, R503) -/

/-- `SELFTEST_PASS_DUE` (R499). -/
def execSelftestPassDue (item : Fin 11) (s : State) : Out :=
  .next (
    let k := item.val
    let due := match s.itemPeriod k with | some p => decide (p ≤ s.itemAge k) | none => false
    if testsRun s.dev && s.rfb F.HLTH_CFG_BG_EN && due && !(s.item k).pending then
      s.updItem k fun i => { i with pending := true, req := false, started := false, failed := false, chans := [], left := 0 }
    else s)

/-- `SELFTEST_REQUEST_AGED` (R502): the pass goes on. -/
def execSelftestRequestAged (item : Fin 11) (s : State) : Out :=
  .next (
    let k := item.val
    let i := s.item k
    let late := match s.itemBound k with | some b => decide (i.reqAt + b ≤ s.mono) | none => false
    if i.pending && i.req && late then s.setStatus k 5 else s)

/-- `ITEM_AGED` (R503): AGED counts from the next tick boundary. -/
def execItemAged (item : Fin 11) (s : State) : Out :=
  .next (
    let k := item.val
    let late := match s.itemBound k with | some b => decide (b < s.itemAge k) | none => false
    if late then s.updItem k fun i => { i with aged := true } else s)

/-! ### The grade (R503) -/

/-- The conditions of R503 that hold, as a mask. -/
def State.conditions (s : State) : Nat :=
  let h := s.hlth
  let now :=
    b2n ((span 1 9).any fun k => (s.item k).aged || match s.itemBound k with | some b => decide (b < s.itemAge k) | none => false) +
    8 * b2n ((List.range 16).any fun i => s.rfb (F.STR_STAT_PROP_EXCEED i)) +
    16 * b2n (s.rfb F.RACK_STAT_CHANGED) +
    32 * b2n (s.isPair && s.rfb F.PAIR_STAT_HALF) +
    64 * b2n h.hot + 128 * b2n h.lowRail +
    256 * b2n ([5, 6, 8, 9].any fun k => (s.item k).bad)
  now ||| (h.cond &&& 0x1E06)

/-- The grade at a tick boundary (R503). -/
def State.gradeNow (s : State) : State :=
  let c := s.conditions
  let g := if c / 512 ≠ 0 then 2 else if c ≠ 0 then 1 else 0
  ((s.wf F.HLTH_GRADE_GRADE g).wf F.HLTH_GRADE_REASONS c).updHlth fun h => { h with cond := c }

/-! ### The books (R504) -/

/-- The credits of the requesters of R80: engines, string sequencers, mirror engine, freeze engine, supervisor, network ports,
debug, security engine. -/
def creditSplit : List Nat := [48, 32, 16, 8, 8, 8, 4, 4]

/-- The credits in flight at a boundary, of each requester at most its share: a free value, since the commands' accesses take no time
(R80, NOTES 126). -/
def State.takeCredits (s : State) : State :=
  let (v, s) := s.draw
  let c (i n : Nat) : Nat × Nat := let k := v / 64 ^ i % (n + 1); (n - k, k)
  { s with books := { s.books with cred := creditSplit.zipIdx.map fun x => c x.2 x.1 } }

/-- `IMG_CRED` sampled (R82). -/
def State.sampleCredits (s : State) : State :=
  let s := s.takeCredits
  (s.wf F.IMG_CRED_FREE (s.books.cred.map (·.1)).sum).wf F.IMG_CRED_INFLIGHT (s.books.cred.map (·.2)).sum

/-- Whether the rule of a quantity is broken at the boundary that begins tick `n`. -/
def State.booksBroken (s : State) (n code : Nat) : Bool :=
  let b := s.books
  match code with
  | 1 => s.isPair && s.dev == .active && (s.saw.role == .leased || s.saw.role == .unleased) && 0 < n
      && s.saw.hbSame == some (n - 1)
  | 2 => b.cred.map (fun c => c.1 + c.2) != creditSplit
  | 3 => (s.pdAck 8 && b.descFreeA + b.descUsedA != 4096) || (s.pdAck 9 && b.descFreeB + b.descUsedB != 4096)
  | 4 => s.isPair && (s.dev == .standby || (s.dev == .active && s.saw.role == .relinquished)) && s.mirr.applying.isNone &&
      s.mirr.rxLines.any fun k => s.rf F.MIRR_BOOK1_STAGED != min k 0x1FFFF || s.rf F.MIRR_BOOK2_APPLIED != min k 0x1FFFF
  | 5 => decide (16 < s.plantA.tsq.length ∨ 16 < s.plantB.tsq.length)
  | 6 => (List.range 2).any fun p => s.rfb (F.CAN_CTRL_EN p) &&
      (List.range 128).any fun i => s.rfb (F.CAN_OBJ_D_PEND p i) != (s.can p).pend.any fun x => x.obj == i
  | 7 => (List.range 12).any fun e => match (s.getEng e).cur with | some a => decide (1365 < a.staged.length) | none => false
  | 8 => s.isTriad && (b.voteIn.1 != b.voteIn.2.1 + b.voteIn.2.2 || b.voteOut.1 != b.voteOut.2.1 + b.voteOut.2.2)
  | _ => false

/-- The books check of a boundary (R504). -/
def State.booksCheck (s : State) (n : Nat) : State :=
  let broken := [1, 2, 3, 4, 5, 6, 7, 8].find? (s.booksBroken n)
  let s := s.sampleCredits
  match broken with
  | none => s
  | some c => ((s.wf F.HLTH_BOOKS_CODE c).wf F.HLTH_BOOKS_TICK_LO n).trip 6

/-! ### The health record (R505, R507) -/

/-- Ages of the items in seconds, in their registers. -/
def State.ageRegs (s : State) : State :=
  (span 1 10).foldl (fun t k =>
    let a := if (t.item k).last.isNone then 0xFFFFFF else min 0xFFFFFF (t.itemAge k / 1000000000)
    t.wf (F.HLTH_ITEM_AGE (k - 1)) a) s

/-- What a tail measures, in the registers and conditions (R503, R507). -/
def State.measureTail (s : State) (env : TailEnv) : State :=
  let s := s.wf F.HLTH_TEMP_TJ env.tj.toNat
  let s := if signed 16 (s.rf F.HLTH_TEMP_MAX) < env.tj.toInt then s.wf F.HLTH_TEMP_MAX env.tj.toNat else s
  let low := (List.range 10).foldl (fun (r : Nat × Int) i =>
    let m := (env.margins.getD i 0x7FFF#16).toInt
    if m < r.2 then (i, m) else r) (0, (env.margins.getD 0 0x7FFF#16).toInt)
  let s := (s.wf F.HLTH_MARGIN_MIN (wrapTo 16 low.2)).wf F.HLTH_MARGIN_RAIL low.1
  let hot := if (1200 : Int) ≤ env.tj.toInt then true else if env.tj.toInt < 1150 then false else s.hlth.hot
  let rail := if low.2 ≤ 10 then true else if (20 : Int) < low.2 then false else s.hlth.lowRail
  s.updHlth fun h => { h with hot := hot, lowRail := rail }

/-- The 128 bytes of the health record (R505). -/
def State.healthRecord (s : State) (env : TailEnv) : List Byte :=
  let h := s.hlth
  let age (k : Nat) : Nat := if (s.item k).last.isNone then 0xFFFFFFFF else min 0xFFFFFFFF (s.itemAge k / 1000000000)
  beBytes 1 (s.rf F.HLTH_GRADE_GRADE) ++ beBytes 1 (devCode s.dev) ++ beBytes 2 (s.rf F.HLTH_GRADE_REASONS) ++ beBytes 4 0 ++
  beBytes 8 s.n ++ beBytes 4 h.cmpPass ++ beBytes 4 h.injPass ++ beBytes 4 h.scrub ++ beBytes 4 h.linkErr ++
  beBytes 4 (if s.isPair then s.rf F.MIRR_STAT_LAG else 0) ++ beBytes 2 h.rehPass ++ beBytes 2 h.rehFail ++
  beBytes 2 h.sweeps ++ beBytes 2 h.resent ++ beBytes 4 0 ++
  (span 1 10).flatMap (fun k => beBytes 4 (age k)) ++
  (span 1 10).flatMap (fun k => beBytes 1 (s.rf (F.HLTH_ITEM_STATUS (k - 1)))) ++
  beBytes 2 env.tj.toNat ++ beBytes 2 env.tfield.toNat ++
  (List.range 10).flatMap (fun i => beBytes 2 (env.margins.getD i 0).toNat) ++
  beBytes 1 (s.rf F.HLTH_BOOKS_CODE) ++ beBytes 5 0

/-- The violation queue read record by record and written into the event journal; each read latches words 1 to 3 (R373, R379). -/
def State.journalViols (s : State) : State :=
  s.viol.foldl (fun t v => (t.readLatch 0x40030020).journalDev 0xF070 ([v.w0, v.w1, v.w2, v.w3].flatMap fun w => leBytes 4 w.toNat)) s

end Sys2Proof.Machine
end

