-- ==== Sys2Proof/Machine/Slots.lean ====
section
/-!
DEFINITION. The NOR flash, its two slots, the signed components a slot holds (R380 to R383, R474 to R479), and the records of the
retain NVM (R458, R492, R493).
-/
namespace Sys2Proof.Machine

/-! ### The flash (R475) -/

/-- `n` bytes of the NOR flash from `a`; erased bytes read 0xFF. -/
def State.norBytes (s : State) (a n : Nat) : List Byte := (List.range n).map fun i => tget 0xFF#8 s.nor (a + i)

/-- Bytes put into an NVM table from `a` on. -/
def nvmPut : Tab Byte → Nat → List Byte → Tab Byte
  | m, _, [] => m
  | m, a, b :: t => nvmPut (tset 0xFF#8 m a b) (a + 1) t

/-- Bytes programmed into the NOR flash. -/
def State.norWrite (s : State) (a : Nat) (l : List Byte) : State := { s with nor := nvmPut s.nor a l }

/-- An area of the NOR flash erased. -/
def State.norErase (s : State) (a n : Nat) : State := { s with nor := tclear s.nor fun k => decide (a ≤ k ∧ k < a + n) }

/-- The `n` low bytes of a digest, first byte most significant. -/
def hashBytes (h : BitVec 384) : List Byte := beBytes 48 h.toNat

/-- The SHA-384 of bytes, as 48 bytes (R381, R383). -/
def sha (l : List Byte) : List Byte := hashBytes (sha384 l)

/-! ### Slots (R477 to R479) -/

/-- Where slot A and slot B begin. -/
def slotBase (k : Nat) : Nat := k * 0x3000000

/-- The commit word (R477, R478, R492). -/
def commitWord : Nat := 0x600D5EA1

/-! ### The retain record (R458, R492, R493) -/

/-- `l` put into a table from key `base` on, in place of what stood there. -/
def spliceTab (d : Byte) (t : Tab Byte) (base : Nat) (l : List Byte) : Tab Byte :=
  (t.filter fun (e : Nat × Byte) => decide (e.1 < base)) ++
    (((List.range l.length).map (base + ·)).zip l).filter (fun (e : Nat × Byte) => e.2 != d) ++
    t.filter fun (e : Nat × Byte) => decide (base + l.length ≤ e.1)

/-- Whether the retain NVM is MRAM-class (R458). -/
def State.mramClass (s : State) : Bool := s.rfb F.SYS_PWR_MRAM

/-- The length of the retain record. -/
def State.retSpan (s : State) : Nat := if s.mramClass then 0x100000 else 0x10000

/-- The place of record or area `k` in its NVM. -/
def State.recBase (s : State) (k : Nat) : Nat := if s.mramClass then k * 0x100000 else 0x7000000 + k * 0x10000

/-- Bytes of the retain NVM in use. -/
def State.retNvm (s : State) (k o n : Nat) : List Byte :=
  (List.range n).map fun i => if s.mramClass then tget 0 s.mram (s.recBase k + o + i) else tget 0xFF#8 s.nor (s.recBase k + o + i)

/-- Bytes written into record or area `k`. -/
def State.retPut (s : State) (k o : Nat) (l : List Byte) : State :=
  if s.mramClass then { s with mram := spliceTab 0 s.mram (s.recBase k + o) l }
  else { s with nor := spliceTab 0xFF#8 s.nor (s.recBase k + o) l }

/-- Milliseconds of password lock left (R359, R492). -/
def State.lockLeft (s : State) : Nat := (s.pwd.lockEnd.getD 0 - s.mono) / 1000000

/-- A record is valid: COMMIT and SPAN are correct (R493). -/
def State.recValid (s : State) (k : Nat) : Bool :=
  ofLe (s.retNvm k (s.retSpan - 4) 4) == commitWord && ofLe (s.retNvm k (s.retSpan - 8) 4) == s.retSpan

/-- GEN of a record. -/
def State.recGen (s : State) (k : Nat) : Nat := ofLe (s.retNvm k (s.retSpan - 64) 8)

/-- The record that is used (R493). -/
def State.recChoice (s : State) : Option Nat :=
  match s.recValid 0, s.recValid 1 with
  | true, true => some (if s.recGen 0 < s.recGen 1 then 1 else 0)
  | true, false => some 0
  | false, true => some 1
  | false, false => none

/-! ### Directories (R477, R478) -/

/-- A component entry of the directory (R477): kind, offset, size with the signature block. -/
structure CompEnt where
  kind : Nat
  off : Nat
  size : Nat
deriving DecidableEq, Repr

/-- The component entries of slot `k`. -/
def State.slotComps (s : State) (k : Nat) : List CompEnt :=
  (List.range 6).map fun i =>
    let e := s.norBytes (slotBase k + 0x10 + 16 * i) 16
    ⟨leAt e 0 1, leAt e 4 4, leAt e 8 4⟩

/-- The commit word of a slot is present (R478). -/
def State.committed (s : State) (k : Nat) : Bool := ofLe (s.norBytes (slotBase k + 0xFFC) 4) == commitWord

/-- SEQ of a slot (R477). -/
def State.slotSeq (s : State) (k : Nat) : Nat := ofLe (s.norBytes (slotBase k + 8) 4)

/-- A slot is a candidate (R479). -/
def State.candidateSlot (s : State) (k : Nat) : Bool :=
  s.committed k && ofLe (s.norBytes (slotBase k) 4) == 0x544F4C53

/-- Entries that neither overlap nor reach past `len`, as (offset, size). -/
def apart (len : Nat) (l : List (Nat × Nat)) : Bool :=
  l.all (fun e => decide (e.1 + e.2 ≤ len)) &&
  (List.range l.length).all fun i => (List.range i).all fun j =>
    !meets (l.getD i (0, 0)).1 (l.getD i (0, 0)).2 (l.getD j (0, 0)).1 (l.getD j (0, 0)).2

/-- The directory of a slot meets R477. -/
def State.dirOk (s : State) (k : Nat) : Bool :=
  let b := s.norBytes (slotBase k) 4096
  let c := s.slotComps k
  let slen := leAt b 0xC 4
  leAt b 4 2 == 1 && leAt b 6 2 == 6 && decide (1 ≤ leAt b 8 4 ∧ leAt b 8 4 ≤ 0xFFFFFFFE ∧ slen ≤ 0x3000000) &&
  c.map (·.kind) == [1, 2, 3, 4, 5, 6] &&
  (List.range 6).all (fun i => leAt b (0x11 + 16 * i) 3 == 0 && leAt b (0x1C + 16 * i) 4 == 0) &&
  c.all (fun e => e.off % 4096 == 0 && decide (4096 ≤ e.off ∧ 224 ≤ e.size)) && apart slen (c.map fun e => (e.off, e.size)) &&
  ((b.drop 0x70).take 3980).all (· == 0)

/-- The slots in the order of R479; `named`: the slot a RESTART named. -/
def State.slotOrder (s : State) (named : Option Nat) : List Nat :=
  let c := [0, 1].filter s.candidateSlot
  let c := match c with
    | [a, b] => if s.slotSeq a < s.slotSeq b then [b, a] else [a, b]
    | l => l
  match named with
  | some k => if k ∈ c then k :: c.filter (· != k) else c
  | none => c

/-! ### Components (R382, R383) -/

/-- A component of a slot: its bytes to LENGTH, and its signature block. -/
structure Comp where
  bytes : List Byte
  sig : List Byte
deriving DecidableEq, Repr

/-- Component `i` of slot `k`. -/
def State.compOf (s : State) (k i : Nat) : Comp :=
  let e := (s.slotComps k).getD i ⟨0, 0, 0⟩
  let len := e.size - 208
  ⟨s.norBytes (slotBase k + e.off) len, s.norBytes (slotBase k + e.off + len) 208⟩

/-- The hash of a component (R383). -/
def Comp.hash (c : Comp) : List Byte := sha c.bytes

/-- The rollback counter that a kind names (R382). -/
def ctrOf (kind : Nat) : Nat := if kind = 1 then 0 else if kind = 5 then 2 else if kind = 6 then 3 else 1

/-- The security version. -/
def Comp.sv (c : Comp) : Nat := leAt c.bytes 6 1

/-- The header and the signature block of a component hold what R382 lays down. -/
def Comp.formOk (c : Comp) (kind : Nat) : Bool :=
  let b := c.bytes
  leAt b 0 4 == 0x31534356 && leAt b 4 1 == kind && leAt b 5 1 == ctrOf kind && leAt b 6 1 ≤ 128 && leAt b 7 1 == 0 &&
  leAt b 8 4 == b.length && b.length % 64 == 0 && leAt b 12 4 == 0 &&
  leAt c.sig 0 4 == 0x4B424953 && leAt c.sig 4 1 ≤ 3 && leAt c.sig 5 3 == 0 && leAt c.sig 0x69 7 == 0

/-- The key slot a component names. -/
def Comp.slot (c : Comp) : Nat := leAt c.sig 4 1

/-- A key slot serves a purpose bit (R381). -/
def State.keyServes (s : State) (k bit : Nat) : Bool :=
  let x := tget {} s.otp.keys k
  x.present && !x.revoked && nbit x.purpose bit

/-- The device key signs a digest (R390); the per-message number is a free value, and so is what a device without a usable key would
sign with. -/
def State.sign (s : State) (h : BitVec 384) : List Byte × State :=
  let (k, s) := s.draw
  let (d, s) := if s.otp.unwraps then (s.otp.key, s) else s.draw
  (ecdsaSign d (k % (p384N - 1) + 1) h, s)

/-- The device's public key: that of its key, or what its certificate holds once the key is gone (R390). -/
def State.devicePub (s : State) : List Byte := if s.otp.unwraps then pubKey s.otp.key else Config.certKey s.otp.cert

/-- The failure reason of a component (R383, R384): 0 passed, 2 key, 3 signature, 4 rollback. A header that breaks R382 is
reported with the signature's code (NOTES 30). -/
def State.compCheck (s : State) (c : Comp) (kind : Nat) : Nat :=
  let pub := slice c.sig 8 97
  if !c.formOk kind then 3
  else if (tget {} s.otp.keys c.slot).hash ≠ sha pub ∨ !s.keyServes c.slot (if kind = 6 then 1 else 0) then 2
  else if !ecdsaVerify pub (sha384 c.bytes) (slice c.sig 0x70 96) then 3
  else if c.sv < tget 0 s.otp.ctr (ctrOf kind) then 4
  else 0

/-! ### The manifest (R338, R389), whose layout the spec does not give (NOTES 31) -/

/-- The combination of SF, EM, PS and FF of a slot, by hash. -/
def State.combination (s : State) (k : Nat) : List (List Byte) := (List.range 4).map fun i => (s.compOf k i).hash

/-- The REVOKE byte of a manifest leaves a slot serving FIRMWARE and one serving IMAGE, and does not name its signer
(R389). -/
def State.revokeOk (s : State) (m : Comp) : Bool :=
  let r := Config.manifestRevoke m.bytes
  let left (bit : Nat) : Bool := (List.range 4).any fun k => s.keyServes k bit && !nbit r k
  !nbit r m.slot && left 0 && left 1

end Sys2Proof.Machine
end

