-- ==== Sys2Proof/Machine/Sections.lean ====
section
/-!
DEFINITION. The configuration image read from the bytes of its component: header and sections (R84 to R87, R480 to
R490, R510), with every rule of R477 to R490 that the bytes alone decide.
-/
namespace Sys2Proof.Machine

/-! ### The program section (R84 to R87, R138) -/

/-- The entries of a section of a task image, `n` of `sz` bytes each. -/
def entriesAt (b : List Byte) (off n sz : Nat) : List (List Byte) := (List.range n).map fun i => slice b (off + sz * i) sz

/-- A directory entry of a task image: kind, offset, count (R85). -/
structure DirEnt where
  kind : Nat
  off : Nat
  cnt : Nat
  zero : Nat
deriving DecidableEq, Repr

/-- Entry size and largest count of a section kind (R86). -/
def kindSize (kind : Nat) : Nat × Nat :=
  if kind = 1 then (4, 40960) else if kind = 2 then (8, 256) else if kind = 3 then (8, 8192) else if kind = 4 then (8, 1024)
  else if kind = 5 then (8, 256) else if kind = 6 then (8, 4096) else if kind = 7 then (8, 256) else if kind = 8 then (8, 64)
  else (8, 1)

/-- The channel-array descriptor (R138). A reserved field that is not 0 gives no records, which check 0x11 refuses. -/
def arrdOf (b : List Byte) : Arrd :=
  let objs := entriesAt b 0x20 (leAt b 0x1A 1) 8
  let zero := leAt b 0x17 1 == 0 && leAt b 0x1B 1 == 0 && leAt b 0x10 4 < 2 ^ 23 && objs.all fun o => leAt o 3 5 == 0
  { rectab := leAt b 0 4
    nrec := if zero then leAt b 4 4 else 0
    recsz := leAt b 8 2
    blkrec := leAt b 0xA 2
    mask := if leAt b 0xC 4 = 0xFFFFFFFF then none else some (leAt b 0xC 4)
    swinBase := leAt b 0x10 4 % 2 ^ 23
    swinStride := leAt b 0x14 2
    swinCount := leAt b 0x16 1
    pro := if leAt b 0x18 1 = 0xFF then none else some (leAt b 0x18 1)
    epi := if leAt b 0x19 1 = 0xFF then none else some (leAt b 0x19 1)
    key := leAt b 0x1C 4
    objs := objs.map fun o => (leAt o 0 2, leAt o 2 1) }

/-- Length of a section of a task image; an ARRD section of no entry holds nothing. -/
def dirLen (b : List Byte) (e : DirEnt) : Nat :=
  if e.kind = 9 ∧ e.cnt ≠ 0 then 0x20 + 8 * leAt b (e.off + 0x1A) 1 else (kindSize e.kind).1 * e.cnt

/-- The directory of a task image (R85). -/
def taskDir (b : List Byte) : List DirEnt :=
  (entriesAt b 0x30 (leAt b 0xF 1) 12).map fun e => ⟨leAt e 0 2, leAt e 4 4, leAt e 8 4, leAt e 2 2⟩

/-- The entries of the section of one kind. -/
def sectionOf (b : List Byte) (d : List DirEnt) (kind : Nat) : List (List Byte) :=
  match d.find? fun e => e.kind == kind with
  | some e => entriesAt b e.off e.cnt (kindSize kind).1
  | none => []

/-- FUNC entries ascending from word 0, within CODE (R87). -/
def funcsOk (f : List (List Byte)) (code : Nat) : Bool :=
  let e := f.map fun x => leAt x 0 4
  e.head? == some 0 && (e.zip (e.drop 1)).all (fun p => decide (p.1 < p.2)) && e.all (fun x => decide (x < code)) &&
  f.all (fun x => leAt x 6 2 == 0) && ((f.headD []).drop 4).all (· == 0)

/-- Check 0x01 (R113): header and directory meet R85 to R87, reserved fields are 0. -/
def check01 (b : List Byte) (d : List DirEnt) : Bool :=
  let fl := leAt b 0xD 1
  let sh := leAt b 0xE 1
  leAt b 0 4 == 0x54575A41 && leAt b 4 2 == 1 && leAt b 8 4 != 0 && leAt b 0xC 1 ≤ 7 && fl < 8 &&
  decide (1 ≤ sh ∧ sh ≤ 6) && (nbit fl 1 || sh == 1) && decide (2 ≤ d.length ∧ d.length ≤ 9) &&
  leAt b 0x1C 4 == b.length && b.length % 64 == 0 && (slice b 0x20 16).all (· == 0) &&
  d.all (fun e => decide (1 ≤ e.kind ∧ e.kind ≤ 9) && e.zero == 0 && e.off % 8 == 0 && e.cnt ≤ (kindSize e.kind).2) &&
  (d.map (·.kind)).eraseDups.length == d.length && d.any (·.kind == 1) && d.any (·.kind == 2) &&
  (nbit fl 1 || !d.any (·.kind == 9)) &&
  apart b.length (((0, 0x30 + 12 * d.length)) :: d.map fun e => (e.off, dirLen b e)) &&
  funcsOk (sectionOf b d 2) (sectionOf b d 1).length &&
  (sectionOf b d 5).all (fun e => leAt e 0 4 % 64 == 0 && leAt e 4 4 % 64 == 0) &&
  (sectionOf b d 6).all (fun e => leAt e 5 3 == 0) &&
  (sectionOf b d 7).all (fun e => bitsOf (leAt e 0 4) 26 4 == 0 && decide (1 ≤ bitsOf (leAt e 0 4) 30 2 ∧ bitsOf (leAt e 0 4) 30 2 ≤ 2)) &&
  (sectionOf b d 8).all (fun e => leAt e 0 4 < 2 ^ 23)

/-- A gather-list entry (R74); reserved bits that are not 0 give a count that check 0x08 refuses. -/
def gathOf (e : List Byte) : GathRun :=
  let w := leAt e 0 8
  ⟨bitsOf w 0 23, nbit w 23, if bitsOf w 24 8 = 0 ∧ bitsOf w 47 17 = 0 then bitsOf w 32 15 else 0⟩

/-- A task image (R85, R86). -/
def taskImg (b : List Byte) : TaskImg :=
  let d := taskDir b
  let fl := leAt b 0xD 1
  { taskId := leAt b 8 4
    level := leAt b 6 2
    cls := leAt b 0xC 1
    safety := nbit fl 0
    array := nbit fl 1
    shed := nbit fl 2
    shards := leAt b 0xE 1
    wcetDecl := leAt b 0x10 8
    readCol := leAt b 0x18 2
    writeCol := leAt b 0x1A 2
    code := (sectionOf b d 1).map fun e => BitVec.ofNat 32 (ofLe e)
    funcs := (sectionOf b d 2).map fun e => ⟨leAt e 0 4, leAt e 4 1, leAt e 5 1⟩
    pool := (sectionOf b d 3).map fun e => BitVec.ofNat 64 (ofLe e)
    gath := (sectionOf b d 4).map gathOf
    vars := (sectionOf b d 5).map fun e => (leAt e 0 4, leAt e 4 4)
    objs := (sectionOf b d 6).map fun e => (leAt e 0 4, leAt e 4 1)
    wset := (sectionOf b d 7).map fun e => ⟨bitsOf (leAt e 0 4) 30 2 == 2, bitsOf (leAt e 0 4) 0 26, leAt e 4 4⟩
    indr := (sectionOf b d 8).map fun e => (leAt e 0 4, leAt e 4 4)
    arrd := (d.find? fun e => e.kind == 9 && e.cnt != 0).map fun e => arrdOf (b.drop e.off)
    bad := if check01 b d then 0 else 1 }

/-- The task images of a program, from file offset `o` on (R84): each starts where the one before it ends. One whose IMG_LEN reaches
past the file is what the file holds of it, which check 0x01 refuses. -/
def taskImgs (b : List Byte) : Nat → Nat → List TaskImg
  | 0, _ => []
  | n + 1, o =>
    let len := leAt b (o + 0x1C) 4
    taskImg ((b.drop o).take len) :: taskImgs b n (o + max 64 (len / 64 * 64))

/-- The `.azc` file (R84): its Azwin level and its task images, none where its header breaks R84. A TASK_ID that is not unique
fails check 0x01 of every task that carries it (R85, R113). -/
def azcFile (b : List Byte) : Option (Nat × List TaskImg) :=
  let n := leAt b 6 2
  let ts := taskImgs b n 64
  if leAt b 0 4 = 0x31435A41 ∧ 1 ≤ n ∧ n ≤ 1024 ∧ leAt b 8 4 = b.length ∧ leAt b 12 4 = 0 then
    some (leAt b 4 2, ts.map fun t =>
      if (ts.filter fun u => u.taskId == t.taskId).length = 1 then t else { t with bad := 1 })
  else none

/-! ### The other sections (R482 to R490) -/

/-- A section table entry (R480). -/
structure Sect where
  typ : Nat
  off : Nat
  len : Nat
  cnt : Nat
deriving DecidableEq, Repr

/-- The section table. -/
def sectTable (b : List Byte) : List Sect :=
  (entriesAt b 0x80 (leAt b 0x13 1) 16).map fun e => ⟨leAt e 0 2, leAt e 4 4, leAt e 8 4, leAt e 12 4⟩

/-- Fixed entry size (0: variable), largest count, whether required, whether a count of 0 is allowed (R481). -/
def sectRule (typ : Nat) : Option (Nat × Nat × Bool × Bool) :=
  match typ with
  | 1 => some (8, 4096, true, false)
  | 2 => some (8, 1024, false, true)
  | 3 => some (0, 2048, true, true)
  | 4 => some (0, 1, true, false)
  | 5 => some (16, 1024, true, false)
  | 6 => some (16, 4096, true, false)
  | 7 => some (8, 4096, false, true)
  | 8 => some (32, 4096, false, true)
  | 9 => some (0, 256, false, true)
  | 10 => some (84, 1, true, false)
  | 11 => some (496, 1, false, true)
  | _ => none

/-- The section table meets R480 and R481. -/
def sectsOk (b : List Byte) (t : List Sect) : Bool :=
  (entriesAt b 0x80 (leAt b 0x13 1) 16).all (fun e => leAt e 2 2 == 0) &&
  t.all (fun x => x.off % 64 == 0 && match sectRule x.typ with
    | some (sz, top, _, zero) => decide (x.cnt ≤ top ∧ sz * x.cnt ≤ x.len) && (zero || x.cnt != 0)
    | none => false) &&
  (t.map (·.typ)).eraseDups.length == t.length &&
  [1, 3, 4, 5, 6, 10].all (fun k => t.any (·.typ == k)) &&
  apart b.length ((0, 0x80 + 16 * t.length) :: t.map fun x => (x.off, x.len))

/-- The bytes of a section, and its count. -/
def sectBytes (b : List Byte) (t : List Sect) (typ : Nat) : List Byte × Nat :=
  match t.find? fun x => x.typ == typ with
  | some x => (slice b x.off x.len, x.cnt)
  | none => ([], 0)

/-- The entries of a section of fixed entry size. -/
def sectEntries (b : List Byte) (t : List Sect) (typ sz : Nat) : List (List Byte) :=
  let x := sectBytes b t typ
  entriesAt x.1 0 x.2 sz

/-- Entries of variable length: `len` says how long the next one is, 0 where it breaks a rule. -/
def walkEntries (len : List Byte → Nat) : Nat → List Byte → Option (List (List Byte))
  | 0, _ => some []
  | n + 1, b =>
    let l := len b
    if l = 0 ∨ b.length < l then none else (walkEntries len n (b.drop l)).map (b.take l :: ·)

/-- A STATIONS entry (R484), without the layout rules, and whether its fixed fields meet R484 and R198. -/
def staDefOf (e : List Byte) : StaDef × Bool :=
  let nrun := leAt e 0x1A 1
  let nh := leAt e 0x20 2
  let ho := 0x28 + 4 * nrun
  let so := ho + 8 * nh
  let sl := leAt e 0x22 2
  let ws := (List.range nrun).map fun i => leAt e (0x28 + 4 * i) 4
  let hs := (List.range nh).map fun i => leAt e (ho + 8 * i) 8
  let pick (d : Nat) : List (Nat × Nat) := (hs.filter fun w => bitsOf w 30 2 == d).map fun w => (bitsOf w 0 23, bitsOf w 32 32)
  ({ str := leAt e 2 1, pos := leAt e 3 1
     typ := BitVec.ofNat 32 (leAt e 4 4), serial := BitVec.ofNat 64 (leAt e 8 8)
     fwMin := BitVec.ofNat 32 (leAt e 0x10 4), fwMax := BitVec.ofNat 32 (leAt e 0x14 4)
     caps := leAt e 0x18 1, h := leAt e 0x19 1, ack := nbit (leAt e 0x1B 1) 0, alpha := leAt e 0x1C 4
     runs := ws.map RunDef.ofWord, ins := pick 1, outs := pick 2, safe := slice e so sl },
   leAt e 2 1 ≤ 15 && leAt e 3 1 ≤ 127 && 1 ≤ leAt e 0x19 1 && decide (1 ≤ nrun ∧ nrun ≤ 32) && leAt e 0x1B 1 ≤ 1 &&
   leAt e 0x24 4 == 0 && decide (so + sl ≤ e.length) && (e.drop (so + sl)).all (· == 0) &&
   ws.all (fun w => bitsOf w 13 13 == 0 && decide (1 ≤ bitsOf w 30 2 ∧ bitsOf w 30 2 ≤ 2 ∧ bitsOf w 26 3 ≤ 5 ∧
     1 ≤ bitsOf w 0 13 ∧ bitsOf w 0 13 ≤ 4096)) &&
   hs.all (fun w => bitsOf w 23 7 == 0 && decide (1 ≤ bitsOf w 30 2 ∧ bitsOf w 30 2 ≤ 2)))

/-- A TELEGRAMS entry (R488) and whether its fields meet R488 but for VARKEY. -/
def tgDefOf (e : List Byte) : TgDef × Bool :=
  let dir := leAt e 1 1
  let len := leAt e 0x12 2
  ({ num := leAt e 0 1, send := dir == 1, connId := BitVec.ofNat 32 (leAt e 4 4)
     ipA := BitVec.ofNat 32 (leAt e 8 4), ipB := BitVec.ofNat 32 (leAt e 12 4), port := BitVec.ofNat 16 (leAt e 16 2)
     len := len, varkey := leAt e 0x14 4, wd := leAt e 0x18 2, skw := leAt e 0x1A 2
     key := BitVec.ofNat 64 (leAt e 0x20 8), safe := if dir = 2 then slice e 0x28 len else [] },
   decide (1 ≤ dir ∧ dir ≤ 2 ∧ 1 ≤ len ∧ len ≤ 1024) && leAt e 2 2 == 0 && leAt e 0x1C 4 == 0 &&
   (dir == 2 || (leAt e 0x18 2 == 0 && leAt e 0x1A 2 == 0)) && (e.drop (0x28 + len)).all (· == 0))

/-- Length of a TELEGRAMS entry: padded to a multiple of 8. -/
def tgLen (b : List Byte) : Nat := 40 + (if leAt b 1 1 = 2 then cdiv (leAt b 0x12 2) 8 * 8 else 0)

/-- A waveform of R510 as its level codes over NF frames, and whether its codes and NF are allowed (R511). -/
def waveOf (e : List Byte) : Wave × Bool :=
  let nf := leAt e 0 1
  let w := leAt e 4 12
  let cs := (List.range (min nf 48)).map fun f => bitsOf w (2 * f) 2
  (cs, decide (1 ≤ nf ∧ nf ≤ 48) && leAt e 1 3 == 0 && cs.all (· != 3))

/-- A waveform of the always-on segments as level codes (R510). -/
def aonWaveOf (e : List Byte) : Wave × Bool :=
  let nf := leAt e 0 1
  ((List.range (min nf 12)).map fun f => if nbit (leAt e 2 2) f then 1 else 2, decide (1 ≤ nf ∧ nf ≤ 12) && leAt e 1 1 == 0)

/-- The signed level sum of a waveform (R511). -/
def levelSum (w : Wave) : Int := w.foldl (fun n c => n + (if c = 1 then 1 else if c = 2 then -1 else 0)) 0

/-- The PANEL section and whether it meets R510 and R511. -/
def panelOf (b : List Byte) : PanelSec × Bool :=
  let lut := (entriesAt b 0x28 16 16).map waveOf
  let aon := (entriesAt b 0x128 16 4).map aonWaveOf
  let clr := (entriesAt b 0x168 8 16).map waveOf
  let bands := (List.range 7).map fun i => signed 16 (leAt b (2 * i) 2)
  let pair (l : List (Wave × Bool)) : Bool := (List.range 8).all fun i =>
    levelSum (l.getD (2 * i) ([], true)).1 + levelSum (l.getD (2 * i + 1) ([], true)).1 == 0
  let thr := (List.range 4).map fun i => leAt b (0x10 + 4 * i) 4
  ({ bands := bands, tofs := signed 16 (leAt b 0xE 2), thr := thr, base := leAt b 0x20 4, lut := lut.map (·.1)
     aon := aon.map (·.1), clear := clr.map (·.1), init := BitVec.ofNat 64 (leAt b 0x1E8 8) },
   (lut ++ aon ++ clr).all (·.2) && pair lut && pair aon && clr.all (fun w => levelSum w.1 == 0) && leAt b 0x24 4 == 0 &&
   leAt b 0x1E8 2 == 0 && (bands.zip (bands.drop 1)).all (fun p => decide (p.1 < p.2)) &&
   (thr.zip (thr.drop 1)).all fun p => decide (p.1 < p.2))

/-- A password record: sequence number, ITER, SALT, DK (R489, R358). -/
def pwOf (b : List Byte) : PwRec := { seq := 0, iter := leAt b 0 4, salt := slice b 4 32, dk := slice b 36 48 }

/-- A TASKS entry with the task image of its TASK_ID (R486), and whether the entry meets R486 beside its placement
codes. -/
def taskDefOf (ts : List TaskImg) (e : List Byte) : TaskDef × Bool :=
  match ts.find? fun t => t.taskId == leAt e 0 4 with
  | none => ({}, false)
  | some t =>
    let n := leAt e 5 1
    ({ img := t, set := leAt e 4 1, place := (slice e 8 (min n 6)).map (·.toNat) },
     leAt e 4 1 ≤ 3 && n == t.shards && leAt e 6 2 == 0 && leAt e 14 2 == 0 && decide (n ≤ 6) &&
     ((slice e 8 6).drop n).all (· == 0xFF))

/-- The TASKS entries in order, each with a task image of its own. -/
def taskDefs : List TaskImg → List (List Byte) → List (TaskDef × Bool)
  | _, [] => []
  | ts, e :: t => taskDefOf ts e :: taskDefs (ts.erase (taskDefOf ts e).1.img) t

/-- A VARMAP entry and whether it meets R487 by itself. -/
def varRunOf (e : List Byte) : VarRun × Bool :=
  let fl := leAt e 13 1
  ({ key := leAt e 0 4, off := leAt e 4 4, len := leAt e 8 4, typ := leAt e 12 1, service := nbit fl 0, telegram := nbit fl 1
     can := nbit fl 2 },
   leAt e 0 4 != 0 && leAt e 4 4 % 64 == 0 && leAt e 8 4 % 64 == 0 && decide (leAt e 4 4 + leAt e 8 4 ≤ 0x03FFC000) &&
   leAt e 12 1 ≤ 12 && fl < 8 && leAt e 14 2 == 0)

/-- Runs of which no two overlap. -/
def disjoint (l : List (Nat × Nat)) : Bool :=
  (List.range l.length).all fun i => (List.range i).all fun j =>
    !meets (l.getD i (0, 0)).1 (l.getD i (0, 0)).2 (l.getD j (0, 0)).1 (l.getD j (0, 0)).2

/-- No element twice. -/
def noDup {α : Type} [BEq α] (l : List α) : Bool := l.eraseDups.length == l.length

/-- The colour map entries and whether they meet R483 by themselves. -/
def colourOfEntry (e : List Byte) : (Nat × Nat × Nat) × Bool :=
  let w := leAt e 0 8
  let c := bitsOf w 24 4
  ((bitsOf w 0 22, bitsOf w 32 32, c),
   (c == 1 || c == 4 || (6 ≤ c && c ≤ 12)) && bitsOf w 22 2 == 0 && bitsOf w 28 4 == 0 &&
   (c != 1 || within (bitsOf w 0 22) (bitsOf w 32 32) (lineOf varBase) 0xFFF00))

/-- One byte of UTF-8 (R489): how many continuation bytes are still due, with the range of the next one; none where the text
is no UTF-8. -/
def utf8Step (st : Option (Nat × Nat × Nat)) (b : Byte) : Option (Nat × Nat × Nat) :=
  let c := b.toNat
  match st with
  | none => none
  | some (0, _, _) =>
    if c < 0x80 then some (0, 0, 0)
    else if 0xC2 ≤ c ∧ c ≤ 0xDF then some (1, 0x80, 0xBF)
    else if 0xE0 ≤ c ∧ c ≤ 0xEF then some (2, if c = 0xE0 then 0xA0 else 0x80, if c = 0xED then 0x9F else 0xBF)
    else if 0xF0 ≤ c ∧ c ≤ 0xF4 then some (3, if c = 0xF0 then 0x90 else 0x80, if c = 0xF4 then 0x8F else 0xBF)
    else none
  | some (n + 1, lo, hi) => if lo ≤ c ∧ c ≤ hi then some (n, 0x80, 0xBF) else none

/-- A name in UTF-8, padded with 0 (R489). -/
def nameOk (l : List Byte) : Bool :=
  (l.foldl utf8Step (some (0, 0, 0))).any (fun st => st.1 == 0) && (l.dropWhile (· != 0)).all (· == 0)

/-- MEMBERS or SPARES as a list, without the places that 0xFF marks unused (R480). -/
def addrList (l : List Byte) : List Nat := (l.filter (· != 0xFF)).map (·.toNat)

/-- The service mode of a header. -/
def svcOf (b : List Byte) : SvcMode :=
  match leAt b 0x12 1 with
  | 1 => .solo
  | 2 => .pair
  | 3 => .triad
  | _ => .none

/-- The header meets R480, and the modes R26 and R27. -/
def headerOk (b : List Byte) (telegrams : Bool) : Bool :=
  let svc := svcOf b
  let mode := leAt b 0x14 4
  let mem := addrList (slice b 0x25 3)
  let spr := addrList (slice b 0x28 2)
  let dbg (o : Nat) : Bool := leAt b o 2 &&& 0xE001 == 0
  leAt b 0x10 2 == 1 && svc != .none && decide (4 ≤ leAt b 0x13 1 ∧ leAt b 0x13 1 ≤ 16) && leAt b 0x18 8 != 0 &&
  leAt b 0x24 1 < 4 && mem.length == (match svc with | .pair => 2 | .triad => 3 | _ => 1) &&
  noDup (mem ++ spr) && dbg 0x2A && dbg 0x2C && leAt b 0x2E 2 == 0 && (slice b 0x60 32).all (· == 0) &&
  mode &&& 0xC0C0 == 0 && (svc == .pair || (!nbit mode 0 && !nbit mode 2)) &&
  (match svc with | .solo => nbit mode 1 | .triad => !nbit mode 1 && decide (2 ≤ bitsOf mode 4 2) | _ => true) &&
  !(nbit mode 3 && telegrams)

/-- The image as its bytes give it, none where they break a rule of chapter 20 that they decide (R480 to R490). -/
def parseImage (b : List Byte) : Option Image :=
  let t := sectTable b
  if !sectsOk b t then none
  else
    let pr := sectBytes b t 4
    let st := sectBytes b t 3
    let tg := sectBytes b t 9
    match azcFile pr.1, walkEntries (fun x => if leAt x 0 2 % 8 = 0 then leAt x 0 2 else 0) st.2 st.1,
      walkEntries tgLen tg.2 tg.1 with
    | some (lv, ts), some se, some te =>
      let tasks := taskDefs ts (sectEntries b t 5 16)
      let vars := (sectEntries b t 6 16).map varRunOf
      let stas := se.map staDefOf
      let tgs := te.map tgDefOf
      let cols := (sectEntries b t 2 8).map colourOfEntry
      let ret := sectEntries b t 7 8
      let jr := sectEntries b t 8 32
      let pan := if t.any (fun x => x.typ == 11 && x.cnt != 0) then some (panelOf (sectBytes b t 11).1) else none
      let pw := pwOf (sectBytes b t 10).1
      let ok := headerOk b (!tgs.isEmpty) && tasks.all (·.2) && tasks.length == ts.length && vars.all (·.2) && noDup (vars.map (·.1.key)) &&
        disjoint (vars.map fun v => (v.1.off, v.1.len)) && stas.all (·.2) && tgs.all (·.2) &&
        noDup (tgs.map (·.1.num)) && noDup (tgs.map fun x => (x.1.connId, x.1.send)) && cols.all (·.2) &&
        disjoint (cols.map fun c => (c.1.1, c.1.2.1)) &&
        ret.all (fun e => decide (1 ≤ leAt e 0 1 ∧ leAt e 0 1 ≤ 2) && leAt e 1 3 == 0) &&
        jr.all (fun e => leAt e 0 2 ≤ 0xEFFF && leAt e 2 2 == 0 && nameOk (slice e 4 28)) &&
        pan.all (·.2) && decide (100000 ≤ pw.iter ∧ pw.iter ≤ 10000000)
      if !ok then none
      else some {
        hash := sha b, svc := svcOf b, mode := BitVec.ofNat 32 (leAt b 0x14 4), pairId := BitVec.ofNat 64 (leAt b 0x18 8)
        azwin := leAt b 0x20 2, azcLevel := lv, mlayout := leAt b 0x22 2, failover := nbit (leAt b 0x24 1) 0
        retainMram := nbit (leAt b 0x24 1) 1, members := addrList (slice b 0x25 3), spares := addrList (slice b 0x28 2)
        dbgRead := leAt b 0x2A 2, dbgWrite := leAt b 0x2C 2, prev := slice b 0x30 48
        regload := (sectEntries b t 1 8).map fun e => (leAt e 0 4, BitVec.ofNat 32 (leAt e 4 4))
        colours := cols.map (·.1), stations := stas.map (·.1), tasks := tasks.map (·.1), varmap := vars.map (·.1)
        retain := ret.map fun e => (leAt e 0 1, leAt e 4 4), journal := jr.map fun e => leAt e 0 2
        telegrams := tgs.map (·.1), password := pw, panel := pan.map (·.1) }
    | _, _, _ => none

end Sys2Proof.Machine
end

