-- ==== Sys2Proof/Machine/LoadCheck.lean ====
section
/-!
DEFINITION. The registers that an image loads (R27, R54, R482), and the load checks and admission of R384 step 7: what the
chapters refuse in an image.
-/
namespace Sys2Proof.Machine

/-! ### Register load (R482) -/

/-- The blocks that REGLOAD may name (R482). -/
def loadBlock (a : Nat) : Bool :=
  (0x40010000 ≤ a && a < 0x40030000) || (0x40040000 ≤ a && a < 0x40090000) || (0x400C0000 ≤ a && a < 0x400F0000) ||
  (0x40100000 ≤ a && a < 0x40150000) || (0x40200000 ≤ a && a < 0x40330000)

/-- A REGLOAD entry stands at an RWL register of those blocks, with LOCK at 0 (R482). -/
def loadEntryOk (e : Nat × Word) : Bool :=
  loadBlock e.1 && match findReg e.1 with
    | some (b, i, r) => r.fields.any (fun f => f.acc == .rwl) && !(b.lock && e.1 == b.base + b.stride * i && nbit e.2.toNat 31)
    | none => false

/-- REGLOAD meets R482 and R54. -/
def regloadOk (g : Image) : Bool :=
  g.regload.all loadEntryOk && noDup (g.regload.map (·.1)) &&
  g.regload.all fun e => e.1 != F.TICK_CFG_TB.addr || bitsOf e.2.toNat F.TICK_CFG_TB.lo 2 == bitsOf g.mode.toNat 4 2

/-- `SYS_MODE`, T_b and the REGLOAD entries loaded (R27, R54, R482). A restart into a slot whose image has another SVC takes its
mode (R1 against R321; NOTES 138). -/
def State.loadRegs (s : State) (g : Image) : State :=
  let s := (s.setReg 0x40000004 g.mode).wf F.TICK_CFG_TB (bitsOf g.mode.toNat 4 2)
  let s := { s with svcMode := g.svc }
  g.regload.foldl (fun t e => t.storeReg e.1 e.2) s

/-! ### Field ranges of the chapters -/

/-- A field lies in a range. -/
def State.fieldIn (s : State) (f : Fld) (lo hi : Nat) : Bool := decide (lo ≤ s.rf f ∧ s.rf f ≤ hi)

/-- CAN bit timing within the limits of R445 and R452. -/
def canTiming (w : Nat) (least : Nat) : Bool :=
  let brp := bitsOf w 0 8
  let t1 := bitsOf w 8 8
  let t2 := bitsOf w 16 7
  let sjw := bitsOf w 24 7
  decide (1 ≤ brp ∧ 1 ≤ t1 ∧ 1 ≤ t2 ∧ 1 ≤ sjw ∧ sjw ≤ t2 ∧ least ≤ brp * (1 + t1 + t2))

/-- A CAN port's registers (R445 to R452). -/
def State.canOk (s : State) (g : Image) (p : Nat) : Bool :=
  canTiming (s.reg (F.CAN_NBT_BRP p).addr).toNat 80 && canTiming (s.reg (F.CAN_DBT_ALL p).addr).toNat 10 &&
  s.rf (F.CAN_WAKE_MODE p) != 3 &&
  (List.range 128).all fun k =>
    let d := s.rf (F.CAN_OBJ_A_DIR p k)
    let run := s.rf (F.CAN_OBJ_C_RUN p k)
    d == 0 || (d != 3 && run % 64 == 0 && (d == 1 || s.rf (F.CAN_OBJ_D_PERIOD p k) != 0) &&
      g.varmap.any fun v => v.can && decide (v.off ≤ run ∧ run + (if d = 1 then 128 else 64) ≤ v.off + v.len))

/-- The field registers (R438, R444). -/
def State.fieldRegsOk (s : State) : Bool :=
  s.fieldIn F.FIELD_WD_WD 2 100 && s.fieldIn F.FIELD_WD_HOLD 1 255 && s.fieldIn F.FIELD_DO_CFG_PULSE_W 5 15 &&
  decide (20000 * s.rf F.FIELD_DO_CFG_PULSE_W + 40000 ≤ s.tb) &&
  (List.range 16).all (fun n => s.fieldIn (F.FIELD_DI_CFG_FILTER n) 1 200) &&
  (List.range 4).all fun n => s.fieldIn (F.FIELD_AO_CFG_SAFE n) 0 24000

/-- Registers whose chapters give them a range (R7, R17, R54, R159, R168, R177, R178, R266, R270, R293, R303, R320, R402,
R426). -/
def State.regRanges (s : State) (g : Image) : Bool :=
  s.phaseOk && s.fieldIn F.SAW_CFG_LEASE 2 8 && s.fieldIn F.SAW_CFG_START_WIN 16 255 && s.fieldIn F.SAW_CFG_HOVR_LEAD 2 15 &&
  s.fieldIn F.TWIN_CFG_INJ_INT 1 60 && (List.range 6).all (fun t => s.fieldIn (F.TWIN_STAG_STAGGER t) 256 8192) &&
  s.fieldIn F.SEQ_FENCE_CFG_LIMIT 1 255 && s.fieldIn F.SEQ_FENCE_CFG_WIN 16 28 &&
  (!(s.isPair || g.regload.any fun e => e.1 == F.MIRR_CFG_START.addr) ||
    s.fieldIn F.MIRR_CFG_START (s.rf F.TICK_PH0_FREEZE_DONE) (s.rf F.TICK_PH0_DISPATCH)) &&
  s.fieldIn F.MIRR_CFG_SWEEP 10 255 && s.fieldIn F.MIRR_REH_INTERVAL 100 65535 &&
  s.fieldIn F.TRI_CFG_TRIPCNT 1 15 && s.fieldIn F.TRI_CFG_IN_MAX 0 30 && s.fieldIn F.TRI_CFG_OUT_MAX 1 30 &&
  s.fieldIn F.TRI_CFG1_START_WIN 16 255 && s.fieldIn F.SVC_CFG_IDLE 1 255 && s.fieldRegsOk && s.canOk g 0 && s.canOk g 1 &&
  (s.isPair || !s.rfb F.PAIR_CTRL_EN) && (s.isTriad || (!s.rfb (F.TL_CTRL_EN 0) && !s.rfb (F.TL_CTRL_EN 1))) &&
  (!s.rfb F.SYS_MODE_PLANT || [0, 1].all fun x => s.rf (F.PL_CTRL_LINE x) != 3)

/-! ### Ranges, stations and strings -/

/-- The range descriptors in use meet R57, R60, R61 and R83 (NOTES 178). -/
def State.rangesOk (s : State) : Bool :=
  let all := (List.range 64).map s.rangeD
  all.all (fun r => r.dir == 0 || (r.dir != 3 && r.start % 8 == 0 && r.len % 8 == 0 && r.typ ≤ 5 &&
    decide (1 ≤ r.len ∧ r.start + r.len ≤ slotCount) && r.subst.all fun v => r.dir == 1 && canonValue r.typ v == v)) &&
  disjoint (s.ranges.map fun r => (r.start, r.len))

/-- Lines frozen at a tick (R38). -/
def State.linesFrozen (s : State) (n : Nat) : Nat :=
  (s.ranges.filter fun r => r.dir == 1 && s.dueAt n r.cls).foldl (fun k r => k + r.len / 8) 0

/-- Every run of a station lies in ranges of its direction, its type and one class (R61, R219, R485). -/
def State.runsOk (s : State) (d : StaDef) : Bool :=
  d.slots.all fun r => r.2.all fun h => match s.rangeOf h, r.2.head?.bind s.rangeOf with
    | some x, some y => x.dir == r.1.dir && x.typ == r.1.typ && x.cls == y.cls
    | _, _ => false

/-- A station entry beside the order of entries (R198, R229, R299, R484, R485). -/
def State.stationOk (s : State) (d : StaDef) : Bool :=
  let cnt (dir : Nat) : Nat := (d.runs.filter fun r => r.dir == dir).foldl (fun n r => n + r.count) 0
  let outs := d.slots.filter fun r => r.1.dir == 2
  (handlesOf d.ins).length == cnt 1 && (handlesOf d.outs).length == cnt 2 && decide (cnt 1 + cnt 2 ≤ 4096) &&
  decide (16 + replyLen d.slots ≤ 9150 ∧ 8 + valueLen outs ≤ 9150) && s.runsOk d && d.safe.length == valueLen outs &&
  decide (2 * d.alpha ≤ s.tb) && (!s.isPair || decide (s.rf F.SAW_CFG_LEASE + 1 + 2 ≤ d.h)) && (!s.isTriad || nbit d.caps 2) &&
  s.rfb (F.STR_CTRL_EN d.str)

/-- The entries run in ascending string and position, without a gap (R485), and no handle is carried twice (R61). -/
def stationsOrder (l : List StaDef) (field : List (Nat × Nat)) : Bool :=
  (l.zip (l.drop 1)).all (fun p => if p.1.str = p.2.str then p.2.pos == p.1.pos + 1 else p.1.str < p.2.str && p.2.pos == 0) &&
  l.head?.all (fun d => d.pos == 0) && disjoint ((l.flatMap fun d => d.ins ++ d.outs) ++ field)

/-- r_end of R223 in 1/10 ns. -/
def State.rEnd (s : State) (k : Nat) : Nat :=
  match (s.stasOf k).getLast? with
  | some d => 10 * s.replyAt d + s.occ d + 640
  | none => 10 * (s.rf F.TICK_PH2_SAMPLE * s.tb / 1000 + 10000)

/-- The string load check of R223 at one residue, times in 1/10 ns. -/
def State.loadOk (s : State) (k n : Nat) : Bool :=
  let b := s.byteTime k
  let c := s.cueLen k n * b
  let p := 10 * s.rf (F.STR_PROP_PROP k)
  let at' := 10 * s.rf (F.STR_CUE_CUE_AT k)
  let t := 10 * s.tb
  let point (f : Fld) : Nat := s.rf f * s.tb / 100
  let x := if s.rfb (F.STR_CTRL_RELAY_EN k) ∧ !s.loop k then 200000 else 0
  let alpha := ((s.stasOf k).map (·.alpha)).min?.getD 0
  let replies := (s.stasOf k).foldl (fun m d => m + 102 + replyLen (s.dueRuns d n)) 0
  decide (s.rEnd k + c + p + 20000 ≤ point F.TICK_PH1_REPLY_END) &&
  (if s.isPair ∧ s.rfb F.SYS_MODE_COMMIT then decide (point F.TICK_PH1_COMMIT_END + 10000 ≤ at')
   else decide (point F.TICK_PH0_DISPATCH ≤ at' ∧ at' + c ≤ point F.TICK_PH1_COMMIT_END)) &&
  decide (at' + x + c + (s.rEnd k - at') + p + 20000 + 100000 ≤ t + 10 * alpha) &&
  decide ((replies + s.cueLen k n) * b * 100 ≤ 72 * t)

/-- The settings of an enabled string (R223, R238, R241, R244). -/
def State.stringOk (s : State) (k : Nat) : Bool :=
  (!s.rfb (F.STR_CTRL_LOOP k) || (s.isSolo && k % 2 == 0 && !nbit (s.rf F.SYS_MODE_RATE1000) k && !s.rfb (F.STR_CTRL_EN (k + 1)))) &&
  (!s.rfb (F.STR_CTRL_EN k) || (List.range 128).all (s.loadOk k)) && (!s.isPair || decide (s.rf (F.STR_CUE_CUE_AT k) + 10000 ≤ s.tb))

/-- Station L, where the image declares it (R229, R429, R431, R433). -/
def State.stationLOk (s : State) : Bool :=
  !s.rfb F.FIELD_CTRL_EN ||
  (!s.isPair || decide (s.rf F.SAW_CFG_LEASE + 1 + 2 ≤ s.rf F.FIELD_WD_HOLD)) &&
  (let b := s.rf F.FIELD_BASE_BASE
   let at' := s.rf F.FIELD_CMD_CMD_AT
   let point (f : Fld) : Nat := s.rf f * s.tb / 1000
   b % 8 == 0 &&
   (List.range 8).all (fun i => match s.rangeOf (b + 8 * i) with
     | some r => r.dir == (if i < 4 then 1 else 2) && r.typ == [0, 0, 5, 3, 0, 5, 0, 3].getD i 0
     | none => false) &&
   decide (2 * s.tb ≤ 1000000 * s.rf F.FIELD_WD_WD ∧ at' + 20000 ≤ s.tb) &&
   (if s.isPair ∧ s.rfb F.SYS_MODE_COMMIT then decide (point F.TICK_PH1_COMMIT_END + 1000 ≤ at')
    else decide (point F.TICK_PH0_DISPATCH ≤ at' ∧ at' ≤ point F.TICK_PH1_COMMIT_END)))

/-! ### Tasks, gathers, variables, colours, retain -/

/-- A task entry: placement codes, shards and the parts of its WSET, SAFETY beside SHEDDABLE, forbidden colours (R141, R156,
R158, R368). -/
def State.taskOk (s : State) (d : TaskDef) : Bool :=
  d.place.length == d.img.shards && noDup d.place &&
  (slotEnts d.img ++ d.img.arrd.elim [] (outEnts d.img)).all (fun e => e.2 % d.img.shards == 0) &&
  d.place.all (fun c => s.twinCode c ||
    (0x10 ≤ c && c < 0x1C && nbit (s.rf F.SYS_MODE_SPLIT) ((c - 0x10) / 2))) &&
  !(d.img.safety && d.img.shed) && d.img.readCol &&& 0xE001 == 0 && d.img.writeCol &&& 0xE02F == 0

/-- Gather time of one part in 1/3 ns (R77, R90). -/
def gatherTime (t : TaskImg) (shard : Nat) : Nat :=
  let m := maskRun t shard
  300 * (t.gath.length + t.vars.length + t.objs.length + b2n m.isSome) +
  48 * (t.gath.foldl (fun n r => n + (linePieces r.start r.count).length) 0 + t.vars.foldl (fun n v => n + v.2 / 64) 0 +
    t.objs.length + m.elim 0 fun r => r.2 / 64)

/-- T_x(n) of R302 in 1/3 ns, without t_dig. -/
def txTime (n : Nat) : Nat := 48000 + 24000 * n

/-- The freeze and gather check of R38, R77 and R303 at one residue, times in 1/3 ns. -/
def State.freezeOk (s : State) (g : Image) (pl : List Placed) (n : Nat) : Bool :=
  let fd := s.rf F.TICK_PH0_FREEZE_DONE
  let span3 (a b : Nat) : Nat := 3 * (b - a) * s.tb / 1000
  let frozen := 16 * s.linesFrozen n
  let part (b : Nat) (p : Placed) : Nat := match g.tasks[p.task]? with
    | some t => if bayOf p.code = b ∧ s.dueAt n t.img.cls then gatherTime t.img p.shard else 0
    | none => 0
  let bays := (List.range 3).foldl (fun m b => max m (pl.foldl (fun k p => k + part b p) 0)) 0
  let rhs := if s.isTriad then span3 fd (s.rf F.TICK_PH3_IVOTE_END) - txTime (s.rf F.TRI_CFG_IN_MAX) else span3 0 fd
  decide (frozen ≤ span3 0 fd ∧ frozen + bays ≤ rhs)

/-- What TRIAD asks of an image (R299, R303). -/
def State.triadOk (s : State) (g : Image) : Bool :=
  let span3 (a b : Nat) : Nat := 3 * (b - a) * s.tb / 1000
  let ex := s.rf F.TICK_PH3_EXEC_END
  let outLines (n : Nat) : Nat :=
    (s.ranges.filter fun r => r.dir == 2 && s.deadlineAt n r.cls).foldl (fun k r => k + r.len / 8) 0
  s.ranges.all (fun r => decide (r.start + r.len ≤ 262144) && (r.dir != 1 || r.subst.isSome)) && g.retain.isEmpty &&
  decide (s.rf F.TRI_CFG_IN_MAX + s.rf F.TRI_CFG_OUT_MAX ≤ 30) &&
  decide (txTime (s.rf F.TRI_CFG_IN_MAX) ≤ span3 (s.rf F.TICK_PH0_FREEZE_DONE) (s.rf F.TICK_PH3_IVOTE_END)) &&
  (span 128 128).all fun n => decide (txTime (s.rf F.TRI_CFG_OUT_MAX) + 16 * outLines n ≤ span3 ex (s.rf F.TICK_PH0_DISPATCH))

/-- Variable runs of the tasks inside the map, VARKEY runs of the telegrams (R487, R488). -/
def varsOk (g : Image) : Bool :=
  let iv := g.varmap.map fun v => (v.off, v.len)
  g.tasks.all (fun d => d.img.vars.all (fun v => covers iv v.1 v.2) && (varEnts d.img).all (fun w => covers iv w.1 w.2) &&
    d.img.arrd.all fun a => covers iv a.rectab (a.nrec * a.recsz)) &&
  g.telegrams.all fun t => g.varmap.any fun v => v.key == t.varkey && v.telegram && decide (t.len ≤ v.len)

/-- A receive connection's watchdog time is 2 ticks or more, its skew window 10 µs to half a tick (R356). -/
def State.telegramOk (s : State) (t : TgDef) : Bool :=
  t.send || decide (2 ≤ t.wd ∧ 10 ≤ t.skw ∧ 2000 * t.skw ≤ s.tb)

/-- The colour map covers only lines that R483 allows. -/
def State.coloursOk (s : State) (g : Image) : Bool :=
  let outs := rangeIv s.ranges fun r => r.dir == 2
  g.colours.all fun c =>
    within c.1 c.2.1 (lineOf varBase) 0xFFF00 ||
    (within c.1 c.2.1 (lineOf bankF) 0xA0000 && covers outs (8 * (c.1 - lineOf bankF)) (8 * c.2.1))

/-- Whether a commit, a telegram or a CAN port writes the line of a variable run at offset `a` (R141, R356, R446). -/
def State.lineWritten (s : State) (g : Image) (ws : List (Nat × Nat)) (v : VarRun) (a : Nat) : Bool :=
  ws.any (fun w => meets a 64 w.1 w.2) ||
  (v.telegram && g.telegrams.any fun t => !t.send && t.varkey == v.key && decide (a < v.off + t.len)) ||
  (v.can && [0, 1].any fun p => (List.range 128).any fun k =>
    s.rf (F.CAN_OBJ_A_DIR p k) == 1 && meets a 64 (s.rf (F.CAN_OBJ_C_RUN p k)) 128)

/-- Lines of retained items that two consecutive ticks can dirty (R459; NOTES 77): a task can commit in any tick, so all that it
writes; of the other lines of service-writable runs those that 16 WRITEs in each tail can reach, 24 lines each. -/
def State.retainDirt (s : State) (g : Image) : Nat :=
  let ws := g.tasks.flatMap fun d => varEnts d.img
  let n := g.retain.foldl (fun n r =>
    if r.1 = 1 then (n.1 + 1, n.2)
    else match g.varmap.find? fun v => v.key == r.2 with
      | some v =>
        let w := ((List.range (v.len / 64)).filter fun i => s.lineWritten g ws v (v.off + 64 * i)).length
        (n.1 + w, if v.service then n.2 + (v.len / 64 - w) else n.2)
      | none => n) (0, 0)
  n.1 + min n.2 768

/-- The retain list (R136, R458, R459, R476, R490). `mram`: chip select 1 qualifies. -/
def State.retainOk (s : State) (g : Image) (mram : Bool) : Bool :=
  let ws := retainWalk g (retBase + 64) g.retain
  let stop := if g.retainMram then 0x8F8FFF80 else 0x8F80FF80
  g.retain.all (fun r => if r.1 = 1 then g.sotKeys.any fun o => o.1 == r.2 && decide (5 < o.2.1)
    else g.varmap.any fun v => v.key == r.2) &&
  ws.all (fun w => decide (w.2.2 + w.2.1 ≤ stop)) && (!g.retainMram || mram) &&
  (!g.retainMram || decide (s.retainDirt g ≤ 1024))

/-- Chip select 1 reports at least 16 Mbit (R458). -/
def State.cs1Ok (s : State) : Bool := decide (21 ≤ s.ret.mramLog2)

/-! ### The whole check -/

/-- The load checks of an image, in a state whose registers it has loaded, verification and admission apart. -/
def State.imageOk (s : State) (g : Image) : Bool :=
  let pl := placement g
  let field := if s.rfb F.FIELD_CTRL_EN then [(s.rf F.FIELD_BASE_BASE, 64)] else []
  regloadOk g && s.regRanges g && s.rangesOk && g.stations.all s.stationOk && stationsOrder g.stations field &&
  (List.range 16).all s.stringOk && s.stationLOk && g.tasks.all s.taskOk && (List.range 128).all (s.freezeOk g pl) &&
  (!s.isTriad || s.triadOk g) && varsOk g && g.telegrams.all s.telegramOk && s.coloursOk g && s.retainOk g s.cs1Ok &&
  decide ((g.sotKeys.map (·.1)).eraseDups.length ≤ 229376)

/-- The image verified and admitted (R113, R384 step 7), none where a check fails. `bays`: fenced bays, which carry
nothing (R176); the placement, shed tasks and image that then hold. -/
def State.admitImage (s : State) (g : Image) (bays : Nat) (lo hi : Nat) : Option (Image × List Placed × List Nat) :=
  let t := { s.loadRegs g with img := g }
  if !t.imageOk g then none
  else
    let v := t.verify g t.ranges (placement g) lo hi
    if !v.verified then none
    else if bays = 0 then (if t.placeOk v (placement g) then some (v, placement g, []) else none)
    else match t.findPlace v (placement g) bays [] with
      | some (pl, shed) => some (v, pl, shed)
      | none => none

/-- The load report of an image (R114): what the verification finds in every task, with the placement that it is admitted with,
or the one it names. -/
def State.makeReport (s : State) (g : Image) (bays lo hi : Nat) : List LoadEnt :=
  let t := { s.loadRegs g with img := g }
  let v := t.verify g t.ranges (placement g) lo hi
  let pl := (s.admitImage g bays lo hi).elim (placement g) (·.2.1)
  (v.tasks.zip (List.range v.tasks.length)).map fun p =>
    ⟨p.1.img.taskId, p.1.img.wcet, p.1.img.wcetDecl, (pl.filter fun q => q.task == p.2).map (·.code),
      incoherent ⟨v, t.ranges, t.classOff, t.lockedMasks⟩ p.1.img, p.1.img.bad⟩

end Sys2Proof.Machine
end

