-- ==== Sys2Proof/Machine/System.lean ====
section
/-!
DEFINITION. System instructions (R108, R109, R150 to R155): the clock, staged effects, station objects.
-/
namespace Sys2Proof.Machine

/-- Whether the image declares a station; station L while the field die is enabled (R150, R431). -/
def State.declares (s : State) (k : Nat) : Bool := s.listed.contains k || (k == 2048 && s.rfb F.FIELD_CTRL_EN)

/-- Field `i` of a station object (R150), `f` the freeze tick; field 5 holds the code of R209 (NOTES 156). -/
def Sta.field (t : Sta) (f : Nat) (i : Nat) : Dword :=
  match i with
  | 0 => BitVec.ofNat 64 (b2n t.admitted)
  | 1 => t.status.setWidth 64
  | 2 => BitVec.ofNat 64 (ageAt t.u f)
  | 3 => BitVec.ofNat 64 t.prob
  | 4 => t.epochSeen.setWidth 64
  | 5 => BitVec.ofNat 64 t.misfit
  | 6 => t.typ.setWidth 64
  | 7 => t.fw.setWidth 64
  | 8 => t.serial
  | 9 => BitVec.ofNat 64 (b2n t.ack)
  | _ => 0

/-- The 64-byte journal record of a program (R152). -/
def X.jrnlRecord (x : X) (code : Nat) (vb : Nat) : List Byte :=
  leBytes 8 x.a.f.toNat ++ leBytes 4 x.t.taskId ++ leBytes 2 code ++ [BitVec.ofNat 8 x.a.shard, 1] ++
    (List.range 6).flatMap fun i => leBytes 8 (x.v (vb + i)).toNat

/-- `CLOCK` (R108, R134). -/
def execClock (e : Fin 12) (d : Dst) (s : State) : Out :=
  azwin (opsCheck false [] (some d)) e (1 + d.words) (fun x => x.wr d x.a.tf) s

/-- `TICKN` (R108). -/
def execTickn (e : Fin 12) (d : Dst) (s : State) : Out :=
  azwin (opsCheck false [] (some d)) e (1 + d.words) (fun x => x.wr d x.a.f) s

/-- `JRNL` (R108, R152): a code that is a device's or that the image does not declare is dropped with FAULT. -/
def execJrnl (e : Fin 12) (a : Src) (vb : Fin 64) (s : State) : Out :=
  azwin (opsCheck false [a] none <|> checkIf 0x04 (decide (vb.val + 5 ≤ 63))) e (1 + a.words) (fun x =>
    let p := x.rd a
    let code := p.1.toNat
    if 0xF000 ≤ code ∨ code ∉ x.s.img.journal then p.2.fault 9
    else
      let r := p.2.jrnlRecord code vb
      p.2.effect 1 ((List.range 8).map fun i => BitVec.ofNat 64 (leAt r (8 * i) 8)) (.jrnl r)) s

/-- `TGSEND` (R108, R153). -/
def execTgsend (e : Fin 12) (a : Src) (s : State) : Out :=
  azwin (opsCheck false [a] none) e (1 + a.words) (fun x =>
    let p := x.rd a
    if x.s.img.telegrams.any fun t => t.send && t.num == p.1.toNat then p.2.effect 2 [p.1] (.tgsend p.1.toNat)
    else p.2.fault 9) s

/-- `STREQ` (R108, R154). -/
def execStreq (e : Fin 12) (a : Src) (s : State) : Out :=
  azwin (opsCheck false [a] none) e (1 + a.words) (fun x =>
    let p := x.rd a
    if 1 ≤ p.1.toNat ∧ p.1.toNat ≤ 10 then p.2.effect 3 [p.1] (.streq p.1.toNat) else p.2.fault 9) s

/-- `PANEL` (R108, R155): bits of the always-on area are ignored with FAULT. -/
def execPanel (e : Fin 12) (a b : Src) (s : State) : Out :=
  azwin (opsCheck false [a, b] none) e (1 + a.words + b.words) (fun x =>
    let p := x.rd a
    let q := p.2.rd b
    let m := p.1 &&& 0xFFFFFFFFFFFF0000#64
    (if m = p.1 then q.2 else q.2.fault 9).effect 4 [m, q.1] (.panel m q.1)) s

/-- `STOBJ` (R108, R109, R150): the station as it stood at the freeze. -/
def execStobj (e : Fin 12) (d : Dst) (a b : Src) (s : State) : Out :=
  azwin (opsCheck false [a, b] (some d)) e (words2 d a b) (fun x =>
    let p := x.rd a
    let q := p.2.rd b
    if x.s.declares p.1.toNat ∧ q.1.toNat ≤ 9 then
      q.2.wr d ((tget {} x.a.snap.sta p.1.toNat).field x.a.f.toNat q.1.toNat)
    else (q.2.fault 8).wr d 0) s

/-- `STACK` (R108, R151). -/
def execStack (e : Fin 12) (a : Src) (s : State) : Out :=
  azwin (opsCheck false [a] none) e (1 + a.words) (fun x =>
    let p := x.rd a
    if x.s.declares p.1.toNat then p.2.effect 5 [p.1] (.stack p.1.toNat) else p.2.fault 8) s

end Sys2Proof.Machine
end

