-- ==== Sys2Proof/Machine/Service.lean ====
section
/-!
DEFINITION. The change log (R360 to R362), the maintenance password (R357 to R359), the service channel's queue, session
and responses (R416 to R423), and the operations that read, write and force (R71 to R73, R419 to R422).
-/
namespace Sys2Proof.Machine

/-! ### The change log -/

/-- Where entry `seq` lies (R360). -/
def logAt (seq : Nat) : Nat := 0x6020000 + 256 * (seq % 65024)

/-- The commit word of change-log entries and password records (R358, R360). -/
def logCommit : Nat := 0x1060C0DE

/-- TIME of an entry and its FLAGS (R360). -/
def State.logTime (s : State) : Nat × Nat := if s.rfb F.TIME_STAT_SYNC then (s.plantNs s.mono, 1) else (s.mono, 0)

/-- 24 bytes of OLD or NEW: the digest of the object's bytes, a free value where the spec does not say what the object
is (NOTES 36). -/
def State.logDigest (s : State) (o : Option (List Byte)) : List Byte × State :=
  match o with
  | some b => ((sha b).take 24, s)
  | none => let (v, s) := s.draw; (beBytes 24 v, s)

/-- One entry written at the next position, its commit word last (R360). -/
def State.logPut (s : State) (kind result : Nat) (actor : List Byte) (obj : Nat) (old new : List Byte) : State :=
  let body := leBytes 4 s.logSeq ++ leBytes 2 kind ++ leBytes 1 result ++ leBytes 1 s.logTime.2 ++ leBytes 8 s.logTime.1 ++
    actor ++ leBytes 4 obj ++ leBytes 4 0 ++ old ++ new
  let chain := sha ((if s.logSeq = 0 then List.replicate 48 0 else s.chain) ++ body)
  let (sig, s) := s.sign (sha384 (body ++ chain))
  { s.norWrite (logAt s.logSeq) (body ++ chain ++ sig ++ List.replicate 28 0 ++ leBytes 4 logCommit) with
    logSeq := s.logSeq + 1, chain := chain }

/-- The actor field of the device itself (R360). -/
def selfActor : List Byte := [0, 0, 0, 0, 0, 0, 3, 0]

/-- An ARCHIVE entry before the one that would find no free position, and the oldest sector erased (R361). -/
def State.logRoom (s : State) : State :=
  if s.logSeq % 256 = 255 ∧ 65024 ≤ s.logSeq + 1 then
    let (d, s) := s.logDigest none
    (s.logPut 0xF0 0 selfActor (s.logSeq + 1 - 65024) d d).norErase (logAt (s.logSeq + 1)) 0x10000
  else s

/-- A request logged (R361); without a NOR flash that can be written nothing is. -/
def State.log (s : State) (kind result : Nat) (actor : List Byte) (obj : Nat) (old new : Option (List Byte)) : State :=
  if !s.ret.norOk then s
  else
    let s := s.logRoom
    let (o, s) := s.logDigest old
    let (n, s) := s.logDigest new
    s.logPut kind result actor obj o n

/-- The actor of a service request. -/
def SvcReq.actor (r : SvcReq) : List Byte := leBytes 4 r.ip.toNat ++ leBytes 2 r.port.toNat ++ leBytes 1 r.iface.val ++ [0]

/-! ### Responses -/

/-- A response kept and sent (R417, R423, R426). -/
def State.respond (s : State) (r : SvcRsp) : State :=
  let s := s.inc F.SVC_CNT_REQUESTS
  let s := if r.status = 0 ∨ r.status = 0xA then s else s.inc F.SVC_CNT_REFUSED
  { s.sendSvc r with svc := { s.svc with kept := (s.svc.kept ++ [r]).drop (s.svc.kept.length + 1 - 8) } }

/-- The response to a request. -/
def SvcReq.rsp (r : SvcReq) (status detail : Nat) (body : List Byte) : SvcRsp :=
  ⟨r.iface, r.ip, r.port, r.reqId, r.op, r.session, status, detail, body⟩

/-- A request answered. -/
def State.answer (s : State) (r : SvcReq) (status : Nat) (detail : Nat := 0) (body : List Byte := []) : State :=
  s.respond (r.rsp status detail body)

/-- The change-log KIND and OBJECT of a password request, none for a request that is not logged (R362, R420, R423). -/
def SvcReq.logKind (r : SvcReq) : Option (Nat × Nat) :=
  let b (n : Nat) : Nat := beAt r.body 0 n
  match r.op with
  | 0x01 => some (0x42, 0)
  | 0x03 => some (0x40, 0)
  | 0x11 => some (3, b 4)
  | 0x12 => some (1, b 4)
  | 0x13 => some (2, b 4)
  | 0x20 => some (0x10, b 1)
  | 0x21 => some (0x10 + max 1 (min 4 (b 1)), beAt r.body 1 1)
  | 0x22 => some (0x30, b 1)
  | 0x23 => some (0x20, 0)
  | 0x24 => some (0x60, b 1)
  | 0x25 => some (0x61, b 1)
  | 0x26 => some (0x31, b 1)
  | _ => none

/-- A request turned away at its reception with status `st`: a password request is logged first (R361, R423). -/
def State.logAway (s : State) (r : SvcReq) (st : Nat) : State :=
  match r.logKind with
  | some (k, o) => s.log k st r.actor o none none
  | none => s

/-- A busy answer at once: the request is not acted on, and not kept (R423). -/
def State.busy (s : State) (r : SvcReq) : State :=
  (((s.logAway r 8).inc F.SVC_CNT_REQUESTS).inc F.SVC_CNT_REFUSED).sendSvc (r.rsp 8 0 [])

/-- A kept response sent again; a refusal counts again (R423, R426). -/
def State.sendKept (s : State) (k : SvcRsp) : State :=
  let s := s.inc F.SVC_CNT_REQUESTS
  (if k.status = 0 ∨ k.status = 0xA then s else s.inc F.SVC_CNT_REFUSED).sendSvc k

/-- The operations of R420. -/
def svcOps : List Nat :=
  [0x01, 0x02, 0x03, 0x10, 0x11, 0x12, 0x13, 0x20, 0x21, 0x22, 0x23, 0x24, 0x25, 0x26, 0x30, 0x31, 0x32]

/-- Whether the SF, or the boot ROM under R386, carries an operation out in the present state (R348, R386, R420). -/
def State.opAllowed (s : State) (op : Nat) : Bool :=
  if s.dev = .refused ∧ s.rfb F.SEC_BOOT_ROM_ONLY then decide (op ∈ [0x20, 0x22, 0x30, 0x32])
  else if s.dev = .tripped ∨ s.dev = .refused then decide (op ∈ [0x02, 0x10, 0x20, 0x22, 0x26, 0x30, 0x31, 0x32])
  else if op = 0x11 ∨ op = 0x12 ∨ op = 0x13 then decide (s.dev = .active ∨ s.dev = .member)
  else if op = 0x22 then decide (s.dev = .stopped)
  else if op = 0x23 then decide (s.dev = .active)
  else if op = 0x24 ∨ op = 0x25 then decide (s.dev = .ready ∨ s.dev = .stopped)
  else true

/-! ### Reception -/

/-- The service channel runs on an interface (R416, R426). -/
def State.svcOn (s : State) (i : Fin 3) : Bool :=
  if i = 0 then s.rfb F.SVC_CFG_EN else if i = 1 then s.rfb F.SVC_CFG_PLANT_A else s.rfb F.SVC_CFG_PLANT_B

/-- An interface that is no plant port, or a plant port that runs and is up (R399). -/
def State.ifaceUp (s : State) (i : Fin 3) : Bool :=
  i == 0 || (s.rfb (F.PL_CTRL_EN (i.val - 1)) && s.rfb (F.PL_STAT_UP (i.val - 1)))

/-- A frame discarded on a plant port (R400). -/
def State.svcDiscard (s : State) (i : Fin 3) : State := if i = 0 then s else s.inc (F.PL_ERR_DISCARD (i.val - 1))

/-- A datagram taken apart (R417): the request, whether its header and its inline password are well-formed. -/
def svcParse (d : SvcDatagram) (tick : Nat) : SvcReq × Bool :=
  let b := d.bytes
  let fl := beAt b 3 1
  let body := b.drop 20
  let n := beAt body 0 1
  let inl := nbit fl 1
  ({ iface := d.iface, ip := d.ip, port := d.port, reqId := BitVec.ofNat 32 (beAt b 4 4), op := beAt b 2 1
     pw := if inl then some ((body.drop 1).take n) else none
     session := BitVec.ofNat 64 (beAt b 8 8), body := if inl then body.drop (1 + n) else body, tick := tick },
   beAt b 0 1 == 0xA7 && beAt b 1 1 == 1 && (fl == 0 || fl == 2) && beAt b 16 2 == body.length && beAt b 18 2 == 0 &&
   (!inl || (decide (1 ≤ n ∧ n ≤ 64 ∧ 1 + n ≤ body.length))))

/-- The open session that a request carries, from the place that opened it (R419). -/
def State.inSession (s : State) (r : SvcReq) : Bool :=
  s.svc.session.any fun x => x.num == r.session && x.ip == r.ip && x.port == r.port && x.iface == r.iface

/-- `SERVICE_REQUEST_RECEIVE` (R400, R416, R417, R423): a repeated request gets the kept response again. A malformed header or an
unknown operation is answered at once (NOTES 37). -/
def execServiceRequestReceive (d : SvcDatagram) (s : State) : Out :=
  .next (
    if !s.ifaceUp d.iface then s
    else if s.dev = .parked ∨ s.boot.held ∨ !s.svcOn d.iface then s.svcDiscard d.iface
    else if !d.sumOk ∨ d.sumZero ∨ d.bytes.length < 20 ∨ 1472 < d.bytes.length then s.svcDiscard d.iface
    else
      let p := svcParse d s.n
      let r := p.1
      match s.svc.kept.find? fun k => k.ip == r.ip && k.port == r.port && k.reqId == r.reqId with
      | some k => s.sendKept k
      | none =>
        if s.dev = .booting then s.busy r
        else if !p.2 then (s.logAway r 2).answer r 2
        else if r.op ∉ svcOps then s.answer r 1
        else if 16 ≤ s.svc.queue.length then s.busy r
        else
          let sess := if s.inSession r then s.svc.session.map fun x => { x with last := s.mono } else s.svc.session
          { s with svc := { s.svc with queue := s.svc.queue ++ [r], session := sess } })

/-- The operation at the front of the queue handled, if it is `op`; in BOOTING none is. -/
def State.serve (s : State) (op : Nat) (f : SvcReq → State → State) : State :=
  match s.svc.queue with
  | [] => s
  | r :: t => if r.op = op then f r { s with svc := { s.svc with queue := t } } else s

/-! ### The password (R357 to R359) -/

/-- A password record of the NOR flash: its SEQ with the record, if its commit word and signature are valid (R358). -/
def State.pwRecord (s : State) (a : Nat) : Option PwRec :=
  let b := s.norBytes a 256
  if leAt b 0xFC 4 = logCommit ∧ ecdsaVerify s.devicePub (sha384 (b.take 0x80)) (slice b 0x80 96) then
    some ⟨leAt b 0 4, leAt b 4 4, slice b 8 32, slice b 0x28 48⟩
  else none

/-- The record in force and whether it is record A, record B or that of the image (R358). -/
def State.pwInForce (s : State) : PwRec × Option Nat :=
  match s.pwRecord 0x6000000, s.pwRecord 0x6010000 with
  | some a, some b => if b.seq ≤ a.seq then (a, some 0) else (b, some 1)
  | some a, none => (a, some 0)
  | none, some b => (b, some 1)
  | none, none => (s.img.password, none)

/-- The retain record's share of the password state follows PD0 (R359, R492). -/
def State.pwLocked (s : State) : Bool := s.pwd.lockEnd.any fun t => decide (s.mono < t)

/-- In REFUSED, where no generation is written, the password state goes into the record in use itself (R359, R492; NOTES 44). -/
def State.keepPwd (s : State) : State :=
  if s.dev ≠ .refused then s
  else match s.recChoice with
    | none => s
    | some k => (s.retPut k (s.retSpan - 126) [BitVec.ofNat 8 (min 255 s.pwd.fails)]).retPut k (s.retSpan - 112) (leBytes 4 s.lockLeft)

/-- One check of a password (R357, R359): 0 right, 5 wrong, 6 locked. The fifth consecutive failure, and each one after a
lock has ended, locks for 10 minutes. -/
def State.pwCheck (s : State) (pw : List Byte) : Nat × State :=
  if s.pwLocked then (6, s)
  else
    let r := s.pwInForce.1
    if r.dk.length = 48 ∧ pbkdf2 pw r.salt r.iter = r.dk then
      (0, ({ s with pwd := { fails := 0, lockEnd := none, locked := false } } : State).keepPwd)
    else
      let n := s.pwd.fails + 1
      if 5 ≤ n then
        (5, ({ s with pwd := { fails := n, lockEnd := some (s.mono + 600000000000), locked := true } } : State).keepPwd.log
          0x41 0 selfActor 0 none none)
      else (5, ({ s with pwd := { s.pwd with fails := n } } : State).keepPwd)

/-- `PASSWORD_LOCK_EXPIRY` (R359): the failure count stands. -/
def execPasswordLockExpiry (s : State) : Out :=
  .next (match s.pwd.lockEnd with
    | some t => if t ≤ s.mono then { s with pwd := { s.pwd with lockEnd := none, locked := false } } else s
    | none => s)

/-- Password requests are refused on this interface (R419). -/
def State.pwBarred (s : State) (i : Fin 3) : Bool := i != 0 && !s.rfb F.SVC_CFG_PLANT_AUTH

/-- The inline password of a request, where it has one (R357, R359, R419): status 0 where nothing speaks against the request. -/
def State.inlineCheck (s : State) (r : SvcReq) : Nat × State :=
  match r.pw with
  | some pw => if s.pwBarred r.iface then (3, s) else s.pwCheck pw
  | none => (0, s)

/-- The status of a request that needs the password and has none inline: every such request is refused during a lock (R359). -/
def State.sessionStatus (s : State) (r : SvcReq) : Nat := if s.pwLocked then 6 else if s.inSession r then 0 else 4

/-- The authorisation of a request that needs the password (R359, R418, R419): status 0 where it holds. -/
def State.authorise (s : State) (r : SvcReq) : Nat × State :=
  if r.pw.isSome then s.inlineCheck r else (s.sessionStatus r, s)

/-- A request that needs no password carried out; one with an inline password is checked all the same (R419, R420). -/
def State.openReq (s : State) (r : SvcReq) (act : State → State) : State :=
  if !s.opAllowed r.op then s.answer r 3
  else
    let (st, s) := s.inlineCheck r
    if st ≠ 0 then s.answer r st else act s

/-- A password request carried out: state, password, a flash that takes its log entry, then `act`; a refusal is logged
(R361, R420, R423). -/
def State.guarded (s : State) (r : SvcReq) (kind obj : Nat) (act : State → State) : State :=
  let refuse (st : Nat) (s : State) : State := (s.log kind st r.actor obj none none).answer r st
  if !s.opAllowed r.op then refuse 3 s
  else
    let (st, s) := s.authorise r
    if st ≠ 0 then refuse st s
    else if !s.ret.norOk then s.answer r 7
    else act s

/-- A refusal by an operation: logged with its refusal code, or its status where it has none (R360), then answered. -/
def State.refuse (s : State) (r : SvcReq) (kind obj status detail : Nat) : State :=
  (s.log kind (if status = 7 ∧ detail ≠ 0 then detail else status) r.actor obj none none).answer r status detail

/-! ### Sessions (R419) -/

/-- A session ends. -/
def State.endSession (s : State) : State := { s with svc := { s.svc with session := none } }

/-- `LOGIN` (R419). -/
def execLogin (s : State) : Out :=
  .next (s.serve 0x01 fun r s =>
    let n := beAt r.body 0 1
    let no (st : Nat) (s : State) : State := (s.log 0x42 st r.actor 0 none none).answer r st
    if !s.opAllowed 0x01 ∨ s.pwBarred r.iface then no 3 s
    else if r.body.length ≠ 1 + n ∨ n = 0 ∨ 64 < n then no 2 s
    else if s.svc.session.isSome then no 8 s
    else
      let (st, s) := s.inlineCheck r
      let (st, s) := if st ≠ 0 then (st, s) else s.pwCheck (r.body.drop 1)
      if st ≠ 0 then no st s
      else if !s.ret.norOk then s.answer r 7
      else
        let (v, s) := s.drawRandom
        let num : Dword := v.setWidth 64
        let s := s.log 0x42 0 r.actor 0 none none
        { s with svc := { s.svc with session := some ⟨num, r.iface, r.ip, r.port, s.mono⟩ } }.respond
          { r.rsp 0 0 [] with session := num })

/-- `LOGOUT` (R419). -/
def execLogout (s : State) : Out :=
  .next (s.serve 0x02 fun r s => s.openReq r fun s => (if s.inSession r then s.endSession else s).answer r 0)

/-- `SESSION_IDLE_TIMEOUT` (R419). -/
def execSessionIdleTimeout (s : State) : Out :=
  .next (if s.svc.session.any fun x => decide (x.last + s.rf F.SVC_CFG_IDLE * 10000000000 ≤ s.mono) then s.endSession else s)

/-- A password record written with its commit word last, over the record not in force (R358); ITER as before (NOTES 38). -/
def State.writePassword (s : State) (pw : List Byte) : State :=
  let f := s.pwInForce
  let (v, s) := s.drawRandom
  let salt := beBytes 32 v.toNat
  let body := leBytes 4 (f.1.seq + 1) ++ leBytes 4 f.1.iter ++ salt ++ pbkdf2 pw salt f.1.iter ++
    List.replicate 40 0
  let (sig, s) := s.sign (sha384 body)
  let a := if f.2 = some 0 then 0x6010000 else 0x6000000
  (s.norErase a 0x10000).norWrite a (body ++ sig ++ List.replicate 28 0 ++ leBytes 4 logCommit)

/-- `PASSWORD` (R358, R419): the old password is inline. -/
def execPassword (s : State) : Out :=
  .next (s.serve 0x03 fun r s =>
    let n := beAt r.body 0 1
    if r.pw.isNone ∧ s.opAllowed 0x03 then
      s.refuse r 0x40 0 (if s.pwBarred r.iface then 3 else if s.pwLocked then 6 else 4) 0
    else s.guarded r 0x40 0 fun s =>
      if r.body.length ≠ 1 + n ∨ n = 0 ∨ 64 < n then s.refuse r 0x40 0 2 0
      else (((s.log 0x40 0 r.actor 0 none none).writePassword (r.body.drop 1)).endSession).answer r 0)

/-! ### Reading (R421, R360, R505) -/

/-- Consecutive registers read, with the side effects of each read (R5, R421). -/
def State.readRegs (s : State) (a : Nat) : Nat → List Byte × State
  | 0 => ([], s)
  | n + 1 =>
    let p := s.busRead a
    let q := p.2.readRegs (a + 4) n
    (leBytes 4 p.1.toNat ++ q.1, q.2)

/-- The bytes of the load report (R114; NOTES 32). -/
def State.reportBytes (s : State) : List Byte :=
  Config.loadReportBytes (s.loadReport.map fun e => (e.task, e.wcet, e.decl, e.place, e.incoherent, e.code)) s.forceDropped

/-- Memory read for the service channel: line by line through the gate under the supervisor's context, and no line of colour 14
(R369, R371, R421; NOTES 81). -/
def State.svcBytes (s : State) (a n : Nat) : List Byte × State :=
  (lineParts a n).foldl (fun (r : List Byte × State) p =>
    let g := r.2.gate 55 p.1 p.2 .read
    (r.1 ++ (if g.1 && r.2.colourOf p.1 != 14 then r.2.rdBytes p.1 p.2 else List.replicate p.2 0), g.2)) ([], s)

/-- The state blocks of `n` objects from index `i` on. -/
def State.svcBlocks (s : State) (i n : Nat) : List Byte × State :=
  (List.range n).foldl (fun (r : List Byte × State) j =>
    let p := r.2.svcBytes (objBase + 64 * (i + j)) 32
    (r.1 ++ p.1, p.2)) ([], s)

/-- What a READ returns, none where the address is out of range (R421). -/
def State.readSpace (s : State) (space a n : Nat) : Option (List Byte × State) :=
  let mem (b : Bool) (from' len : Nat) : Option (List Byte × State) := if b then some (s.svcBytes from' len) else none
  match space with
  | 1 => mem (decide (a + n ≤ slotCount)) (bankF + 8 * a) (8 * n)
  | 2 => mem (decide (a + n ≤ slotCount)) (bankL + 8 * a) (8 * n)
  | 3 => mem (decide (a + n ≤ 0x4000000)) (varBase + a) n
  | 4 =>
    let l := sotList s.img
    let i := s.img.sotIndex a
    if l.any (fun o => o.1 == a) ∧ i + n ≤ l.length then some (s.svcBlocks i n) else none
  | 5 =>
    if a % 4 = 0 ∧ (List.range n).all (fun i => (findBlock (a + 4 * i)).isSome) then some (s.readRegs a n) else none
  | 6 =>
    if (List.range n).all fun i => s.declares (a + i) then
      some ((List.range n).flatMap fun i => (List.range 10).flatMap fun f =>
        leBytes 8 ((s.getSta (a + i)).field s.n f).toNat, s) else none
  | 7 => mem (decide (a + n ≤ 524288)) (jrnlBase + 64 * a) (64 * n)
  | 8 => if a + n ≤ s.reportBytes.length then some ((s.reportBytes.drop a).take n, s) else none
  | _ => none

/-- Bytes of one unit of a space (R421). -/
def spaceUnit (space : Nat) : Nat := [0, 8, 8, 1, 32, 4, 80, 64, 1].getD space 0

/-- `READ` (R421). -/
def execRead (s : State) : Out :=
  .next (s.serve 0x10 fun r s =>
    let sp := beAt r.body 0 1
    let n := beAt r.body 8 4
    s.openReq r fun s =>
    if r.body.length ≠ 12 ∨ beAt r.body 1 3 ≠ 0 ∨ 1452 < n * spaceUnit sp then s.answer r 2
    else match s.readSpace sp (beAt r.body 4 4) n with
      | some (b, s) => s.answer r 0 0 b
      | none => s.answer r 9)

/-- `LOG_READ` (R360): entries that are no longer, or not yet, in the log end the list. -/
def execLogRead (s : State) : Out :=
  .next (s.serve 0x31 fun r s =>
    let q := beAt r.body 0 4
    let n := beAt r.body 4 1
    let has (k : Nat) : Bool :=
      let b := s.norBytes (logAt k) 256
      leAt b 0xFC 4 == logCommit && leAt b 0 4 == k && decide (k < s.logSeq)
    s.openReq r fun s =>
    if r.body.length ≠ 5 ∨ n = 0 ∨ 5 < n then s.answer r 2
    else if !has q then s.answer r 9
    else s.answer r 0 0 (((span q n).takeWhile has).flatMap fun k => s.norBytes (logAt k) 256))

/-- The health record as the last tail left it; before the first tail since a reset it is made at once, and what no tail has measured
yet is a free value (R505; NOTES 163). -/
def State.healthNow (s : State) : List Byte × State :=
  if s.hlth.record ≠ [] then (s.hlth.record, s)
  else
    let (v, s) := s.draw
    (s.healthRecord { tj := BitVec.ofNat 16 v, tfield := BitVec.ofNat 16 (v / 2 ^ 16)
                      margins := (List.range 10).map fun i => BitVec.ofNat 16 (v / 2 ^ (32 + 16 * i)), fails := [], scrub := 0 }, s)

/-- `HEALTH` (R505). -/
def execHealth (s : State) : Out :=
  .next (s.serve 0x32 fun r s => s.openReq r fun s =>
    if !r.body.isEmpty then s.answer r 2
    else
      let (b, s) := s.healthNow
      s.answer r 0 0 b)

/-! ### Writing and forcing -/

/-- Whether bytes lie inside one service-writable run (R422). -/
def writable (g : Image) (o n : Nat) : Bool := g.varmap.any fun v => v.service && decide (v.off ≤ o ∧ o + n ≤ v.off + v.len)

/-- `WRITE` (R422): accepted for the tick after this one, or refused with 0x09. -/
def execWrite (s : State) : Out :=
  .next (s.serve 0x11 fun r s =>
    let o := beAt r.body 0 4
    let d := r.body.drop 4
    s.guarded r 3 o fun s =>
      if r.body.length < 5 then s.refuse r 3 o 2 0
      else if !writable s.img o d.length then s.refuse r 3 o 9 0
      else
        let s := s.log 3 0 r.actor o (some (s.rdBytes (varBase + o) d.length)) (some d)
        { s with svc := { s.svc with writes := s.svc.writes ++ [(o, d, s.n)] } }.answer r 0)

/-- Every accepted write of an earlier tick applied, in the order of acceptance (R269, R422). -/
def State.applyWrites (s : State) : State :=
  (s.svc.writes.filter fun w => decide (w.2.2 < s.n)).foldl (fun t w => t.homeWrite (varBase + w.1) w.2.1)
    { s with svc := { s.svc with writes := s.svc.writes.filter fun w => decide (s.n ≤ w.2.2) } }

/-- `VARIABLE_WRITE_APPLY` (R269, R422): between F_d and D. -/
def execVariableWriteApply (s : State) : Out := .next (if s.commitSpan then s.applyWrites else s)

/-- Force-table entries in use once every accepted request has been applied, as handles (R72, R73). -/
def State.forcedHandles (s : State) : List Nat :=
  let now := (List.range 1024).filterMap fun i => (s.forceEntry i).map (·.1)
  let pend := s.svc.forces.map (fun r => (r.1, r.2.1)) ++ s.tri.forces.map fun r => (r.2.1, r.2.2.1)
  pend.foldl (fun l r => if r.1 then (if r.2 ∈ l then l else l ++ [r.2]) else l.erase r.2) now

/-- A force or unforce accepted (R72, R317): for the next boundary, in TRIAD for tick a + 8 with a message to the others. -/
def State.acceptForce (s : State) (on : Bool) (h v : Nat) : State :=
  if s.isTriad then
    let e := (s.n + 8, on, h, v)
    { s with tri := { s.tri with forces := s.tri.forces ++ [e], fwd := s.tri.fwd ++ [e] } }
  else { s with svc := { s.svc with forces := s.svc.forces ++ [(on, h, v)] } }

/-- The force-table entry of a handle, for the log. -/
def forceBytes (h : Nat) (v : Option Word) : List Byte :=
  match v with
  | some v => leBytes 4 h ++ leBytes 4 v.toNat ++ leBytes 4 1 ++ leBytes 4 0
  | none => List.replicate 16 0

/-- A force or unforce request (R72, R73, R317, R341). -/
def State.forceReq (s : State) (r : SvcReq) (on : Bool) : State :=
  let kind := if on then 1 else 2
  let h := beAt r.body 0 4
  let v : Word := BitVec.ofNat 32 (beAt r.body 4 4)
  if s.dev = .stopped then
    let (st, s) := s.authorise r
    if st = 0 then s.refuse r kind h 7 0xB else s.refuse r kind h st 0
  else s.guarded r kind h fun s =>
    if r.body.length ≠ (if on then 8 else 4) then s.refuse r kind h 2 0
    else if slotCount ≤ h ∨ (s.rangeOf h).isNone then s.refuse r kind h 9 0
    else if s.isTriad ∧ s.tri.set.length ≠ 3 then s.refuse r kind h 7 8
    else if on ∧ h ∉ s.forcedHandles ∧ 1024 ≤ s.forcedHandles.length then s.refuse r kind h 7 0
    else
      let old := forceBytes h (s.forced h)
      (((s.log kind 0 r.actor h (some old) (some (forceBytes h (if on then some v else none)))).acceptForce on h v.toNat)).answer r 0

/-- `FORCE` (R72, R73). -/
def execForce (s : State) : Out := .next (s.serve 0x12 fun r s => s.forceReq r true)

/-- `UNFORCE` (R72, R73). -/
def execUnforce (s : State) : Out := .next (s.serve 0x13 fun r s => s.forceReq r false)

/-- `SERVICE_LINK_UP` (R426). -/
def execServiceLinkUp (s : State) : Out := .next (s.wfb F.SVC_STAT_UP true)

/-- `SERVICE_LINK_DOWN` (R426). -/
def execServiceLinkDown (s : State) : Out := .next (s.wfb F.SVC_STAT_UP false)

/-- `HANDOVER` (R260): the request writes `SAW_HOVR.START`. -/
def execHandover (s : State) : Out :=
  .next (s.serve 0x23 fun r s => s.guarded r 0x20 0 fun s =>
    if !r.body.isEmpty then s.refuse r 0x20 0 2 0
    else
      let s := s.log 0x20 0 r.actor 0 none none
      { s with saw := { s.saw with hovrReq := true } }.answer r 0xA)

/-! ### Slot writes (R420, R494) -/

/-- The slot that the device runs from. -/
def State.runningSlot (s : State) (k : Nat) : Bool := s.boot.slot == k && s.img.hash != []

/-- The busy mark of the NVM controller. -/
def State.nvmBusy (s : State) : State := s.wfb F.NVM_STAT_BUSY (!s.ret.ops.isEmpty)

/-- The SEQ registers of both slots (R496). -/
def State.slotRegs (s : State) : State :=
  let seq (k : Nat) : Nat := if s.committed k then s.slotSeq k else 0
  (s.wf F.NVM_SEQA_SEQ (seq 0)).wf F.NVM_SEQB_SEQ (seq 1)

/-- A chunk put in the queue of NVM operations, after the erase of each sector that it is the first to touch. -/
def State.queueChunk (s : State) (k o : Nat) (d : List Byte) (rsp : SvcRsp) : State :=
  let secs := (span (o / 65536) ((o + d.length - 1) / 65536 - o / 65536 + 1)).filter fun i => (k, i) ∉ s.svc.erased
  let ers := secs.map fun i => NvmOp.mk (slotBase k + 65536 * i) 65536 [] none
  { s with
    ret := { s.ret with ops := s.ret.ops ++ ers ++ [NvmOp.mk (slotBase k + o) 0 d (some rsp)] }
    svc := { s.svc with erased := s.svc.erased ++ secs.map fun i => (k, i), written := s.svc.written ++ [(k, o, d.length)] } }.nvmBusy

/-- Every byte of the slot's declared length but this chunk has been written (R420). -/
def State.slotFull (s : State) (k o : Nat) (n : Nat) : Bool :=
  let mine := (s.svc.written.filter fun w => w.1 == k).map (·.2)
  let slen := ofLe (s.norBytes (slotBase k + 0xC) 4)
  decide (4096 ≤ slen ∧ slen ≤ 0x3000000) && covers (((o, n) :: mine).foldr insIv []) 0 slen

/-- The directory's first bytes have been programmed, not only queued, so that SLEN is known. -/
def State.slotIdle (s : State) (k : Nat) : Bool :=
  s.ret.ops.all fun p => !meets p.addr (p.bytes.length + p.erase) (slotBase k) 4096

/-- `SLOT_WRITE` (R420): the response leaves when the chunk is programmed (R423). -/
def execSlotWrite (s : State) : Out :=
  .next (s.serve 0x20 fun r s =>
    let k := beAt r.body 0 1
    let o := beAt r.body 4 4
    let d := r.body.drop 8
    s.guarded r 0x10 k fun s =>
      if r.body.length < 9 ∨ 1024 < d.length ∨ beAt r.body 1 3 ≠ 0 then s.refuse r 0x10 k 2 0
      else if 2 ≤ k ∨ 0x3000000 < o + d.length then s.refuse r 0x10 k 9 0
      else if s.runningSlot k then s.refuse r 0x10 k 7 0
      else if meets o d.length 0xFFC 4 ∧ ¬(s.slotIdle k ∧ s.slotFull k o d.length) then s.refuse r 0x10 k 7 0
      else (s.log 0x10 0 r.actor k (some (s.norBytes (slotBase k + o) d.length)) (some d)).queueChunk k o d (r.rsp 0 0 []))

/-- A program or erase that fails (R496): it is counted and begun again; what it leaves in its area is a free value (NOTES 186). -/
def State.nvmFails (s : State) (p : NvmOp) : State :=
  let (v, s) := s.draw
  let l := (List.range (max p.erase p.bytes.length)).map fun i => BitVec.ofNat 8 (v / 256 ^ i)
  ((s.norWrite p.addr l).inc F.NVM_ERR_FAIL).slotRegs.nvmBusy

/-- `NVM_OPERATION_COMPLETE` (R494, R496): the operation in progress lands, or fails by a free value, and the next one goes on; a flush that suspended an erase
leaves it suspended until its own commit word. A slot whose commit word has been written begins a new set of chunks. -/
def execNvmOperationComplete (s : State) : Out :=
  .next (
    if s.ret.suspended then s
    else match s.ret.ops with
      | [] => s
      | p :: t =>
        let (v, s) := s.draw
        if v % 2 = 1 then s.nvmFails p
        else
        let s := if p.erase ≠ 0 then s.norErase p.addr p.erase else s.norWrite p.addr p.bytes
        let s := { s with ret := { s.ret with ops := t, fallErased := s.ret.fallErased || decide (0x7000000 ≤ p.addr) } }
        let k := p.addr / 0x3000000
        let done := p.bytes != [] && meets p.addr p.bytes.length (slotBase k + 0xFFC) 4 && decide (k < 2)
        let s := if done then
            { s with svc := { s.svc with written := s.svc.written.filter (·.1 != k), erased := s.svc.erased.filter (·.1 != k) } }
          else s
        let s := match p.rsp with | some x => s.respond x | none => s
        s.slotRegs.nvmBusy)

end Sys2Proof.Machine
end

