-- ==== Sys2Proof/Machine/Change.lean ====
section
/-!
DEFINITION. Changing program and configuration (R321 to R342): staging and its checks, the switch, complete, the
VERSION messages of a pair.
-/
namespace Sys2Proof.Machine

/-! ### Parts of an image (R321, R322) -/

/-- Two images differ only in parts that the path of R322 allows without a restart of the plant. `fw`: the firmware is the
same. -/
def State.pathAllows (s : State) (g : Image) (fw : Bool) : Bool :=
  framePart s.img == framePart g && (s.isPair || (s.img.mode == g.mode && fw))

/-- Bytes of code of a program in the shared code store: words, FUNC entries, constants (R12, R89). -/
def codeBytes (g : Image) : Nat :=
  g.tasks.foldl (fun n d => n + 4 * d.img.code.length + 8 * d.img.funcs.length + 8 * d.img.pool.length) 0

/-! ### Checks of a slot (R325, R338, R384) -/

/-- The first reason of R384 steps 3 to 6 that the components of slot `k` fail, with the step's component; 0 for none. -/
def State.slotReason (s : State) (k : Nat) : Nat :=
  let c (i : Nat) : Comp := s.compOf k i
  let chk (i : Nat) : Nat := s.compCheck (c i) (i + 1)
  let first (l : List Nat) : Nat := (l.find? (· != 0)).getD 0
  let man := (c 4).bytes
  if !s.dirOk k then 3
  else if chk 0 ≠ 0 then chk 0
  else if chk 4 ≠ 0 then chk 4
  else if !Config.manifestStep man s.otp.step ∨ !s.revokeOk (c 4) then 5
  else if first [chk 1, chk 2, chk 3] ≠ 0 then first [chk 1, chk 2, chk 3]
  else if !Config.manifestTested man (s.combination k) then 6
  else if chk 5 ≠ 0 then chk 5
  else 0

/-- The image in a slot, read without its signature. -/
def State.slotImage (s : State) (k : Nat) : Option Image := parseImage (s.compOf k 5).bytes

/-- The image's levels lie in the manifest's (R384 step 6). -/
def State.levelsOk (s : State) (k : Nat) (g : Image) : Bool :=
  let man := (s.compOf k 4).bytes
  let r := Config.manifestAzwin man
  decide (r.1 ≤ g.azwin ∧ g.azwin ≤ r.2) && Config.manifestMlayout man == g.mlayout

/-- Components of slot `k` that verified before the first failure, by kind (R384). -/
def State.passed (s : State) (k : Nat) : List Nat :=
  let ok (kind : Nat) : Bool := s.compCheck (s.compOf k (kind - 1)) kind == 0
  if !s.dirOk k then []
  else
    let l := [1, 5, 2, 3, 4, 6].takeWhile ok
    let man := s.compOf k 4
    if !(Config.manifestStep man.bytes s.otp.step && s.revokeOk man) then l.take 2
    else if Config.manifestTested man.bytes (s.combination k) then l else l.take 5

/-- What those components are (R337, R391): kind, key slot, SV, hash. -/
def State.bootComps (s : State) (k : Nat) : List (Nat × Nat × Nat × List Byte) :=
  (s.passed k).map fun kind => (kind, (s.compOf k (kind - 1)).slot, (s.compOf k (kind - 1)).sv, (s.compOf k (kind - 1)).hash)

/-- The running component hashes of a list of kinds. -/
def State.running (s : State) (kinds : List Nat) : List (List Byte) :=
  kinds.map fun k => (s.boot.comps.find? fun c => c.1 == k).elim [] (·.2.2.2)

/-- T_b in µs. -/
def State.tbUs (s : State) : Nat := s.tb / 1000

/-- The stop length Z (R331). -/
def State.stopLen (s : State) (m : Nat) : Nat := max 1 (cdiv (12800 + m) (64 * s.tbUs))

/-- A change of this device can be a function restart: in PAIR the active's with no partner in SYNCING or STANDBY (R322, R330). -/
def State.mayRestartHere (s : State) : Bool :=
  !s.isPair || (s.dev == .active && !(s.rfb F.PAIR_STAT_PEER && decide (s.saw.partner = 5 ∨ s.saw.partner = 6)))

/-- What a stage of slot `k` comes to (R325, R340): a refusal code, or the plan; the load report beside it. -/
def State.stageResult (s : State) (k : Nat) : (Nat × Option Plan) × List LoadEnt :=
  let no (c : Nat) : (Nat × Option Plan) × List LoadEnt := ((c, none), s.loadReport)
  let r := if s.candidateSlot k then s.slotReason k else 1
  if r = 6 then no 2
  else if r ≠ 0 then no 1
  else match s.slotImage k with
    | none => ((4, none), [])
    | some g =>
      let lv := Config.manifestAzwin (s.compOf k 4).bytes
      if !s.levelsOk k g then no 1
      else if !s.pathAllows g (s.combination k == s.running [1, 2, 3, 4]) then no 5
      else if g.prev ≠ s.img.hash then no 0xA
      else
        let rep := s.makeReport g (s.rf F.SEQ_FENCE_FENCED) lv.1 lv.2
        match s.admitImage g (s.rf F.SEQ_FENCE_FENCED) lv.1 lv.2 with
        | none => ((4, none), rep)
        | some (v, pl, shed) =>
          if s.isPair ∧ s.saw.pLevels.any (· != (g.azwin, g.mlayout)) then ((3, none), rep)
          else if s.mayRestartHere ∧ 0x800000 < codeBytes s.img + codeBytes g then ((7, none), rep)
          else
            let m := planLines s.img g
            ((0, some { img := v, slot := k, hash := hashBytes (Config.planHash s.img.hash g.hash), lines := m
                        z := s.stopLen m, created := createdCount s.img g, freed := freedCount s.img g
                        placed := pl, shed := shed, comps := s.bootComps k
                        revoke := Config.manifestRevoke (s.compOf k 4).bytes }), rep)

/-! ### The requests (R323, R420) -/

/-- The CHANGE request at the front of the queue handled, if its STEP is `step`. -/
def State.serveChange (s : State) (step kind : Nat) (f : SvcReq → State → State) : State :=
  match s.svc.queue with
  | r :: _ =>
    let st := beAt r.body 0 1
    let mal : Bool := r.body.length != 12 || beAt r.body 3 1 != 0 || st == 0 || 4 < st
    if st = step ∨ (mal ∧ step = 1) then
      s.serve 0x21 fun r s => s.guarded r kind (beAt r.body 1 1) fun s =>
        if mal then s.refuse r kind (beAt r.body 1 1) 2 0 else f r s
    else s
  | [] => s

/-- A refused step: its code in `SYS_CHG.REASON` and in the log; the response says that the outcome is there. -/
def State.chgRefuse (s : State) (r : SvcReq) (kind code : Nat) : State :=
  ((s.wf F.SYS_CHG_REASON code).log kind code r.actor (beAt r.body 1 1) none none).answer r 0xA

/-- A change is in progress (R340 code 0xB). -/
def State.changing (s : State) : Bool := s.chg.staging.isSome || s.chg.switch.isSome || s.chg.stopEnd.isSome

/-- The device serves, or shadows what serves (NOTES 40). -/
def State.inService (s : State) : Bool := decide (s.dev = .active ∨ s.dev = .member ∨ s.dev = .benched ∨ s.dev = .standby)

/-- The common refusal 0xB of R340. -/
def State.chgBusy (s : State) : Bool := s.changing || s.rf F.SEQ_FENCE_DRAINING != 0 || !s.inService

/-- `CHANGE_STAGE` (R325, R341): the slot must not be the running one. -/
def execChangeStage (s : State) : Out :=
  .next (s.serveChange 1 0x11 fun r s =>
    let k := beAt r.body 1 1
    if s.chgBusy ∨ s.saw.hovrLive ∨ s.saw.hovrReq ∨ s.saw.hbHandover ≠ 0 then s.chgRefuse r 0x11 0xB
    else if 2 ≤ k ∨ k = s.boot.slot then s.chgRefuse r 0x11 1
    else
      let s := s.log 0x11 0 r.actor k none none
      (({ s with chg := { s.chg with staging := some (k, r.actor) } } : State).chgPhase).answer r 0xA)

/-- `STAGE_COMPLETE` (R325, R340, R342): a refusal leaves what was staged before and is logged (NOTES 41). -/
def execStageComplete (s : State) : Out :=
  .next (match s.chg.staging with
    | none => s
    | some (k, actor) =>
      let x := s.stageResult k
      let s := { s with loadReport := x.2, chg := { s.chg with staging := none } }
      match x.1.2 with
      | none => (((s.log 0x11 x.1.1 actor k none none).wf F.SYS_CHG_PHASE 3).wf F.SYS_CHG_REASON x.1.1).chgPhase
      | some p => (({ s with chg := { s.chg with plan := some p } } : State).wf F.SYS_CHG_REASON 0).chgPhase)

/-- The smallest H of the admitted stations, station L among them (R332, R433). -/
def State.smallestH (s : State) : Nat :=
  let hs := (s.img.stations.filter fun d => (s.getSta (128 * d.str + d.pos)).admitted).map (·.h)
  let hs := if s.rfb F.FIELD_CTRL_EN ∧ (s.getSta 2048).admitted then s.rf F.FIELD_WD_HOLD :: hs else hs
  hs.min?.getD (2 ^ 32)

/-- Whether every other member reports STAGED with an equal plan hash, which no message of R296 carries: a free value (R333; NOTES 151). -/
def State.peersStaged (s : State) : Bool := s.draw.1 % 2 == 1

/-- The first refusal of a switch request (R330, R332, R333, R340), 0 for none; one without a staged plan, or that names a
tick too near, is refused with 0xB; a standby's switch is the stop before its restart (R336; NOTES 40). `staged`: the other
members of the triad report STAGED with an equal plan hash. -/
def State.switchRefusal (s : State) (p : Option Plan) (allow staged : Bool) (tick : Nat) : Nat :=
  match p with
  | none => 0xB
  | some p =>
    if s.changing ∨ s.rf F.SEQ_FENCE_DRAINING ≠ 0 ∨ !(s.dev = .active ∨ s.dev = .member ∨ s.dev = .standby) then 0xB
    else if s.isPair ∧ s.dev = .active ∧ (p.img.mode ≠ s.img.mode ∨ s.combination p.slot ≠ s.running [1, 2, 3, 4]) then 5
    else if !s.isTriad ∧ tick < s.n + 8 then 0xB
    else if !allow ∧ s.dev ≠ .standby ∧ s.smallestH < p.z + 1 then 6
    else if s.isTriad ∧ (s.tri.set.length ≠ 3 ∨ !staged) then 8
    else if s.isPair ∧ s.rfb F.PAIR_STAT_PEER ∧ (s.saw.partner = 5 ∨ s.saw.partner = 6) then 9
    else 0

/-- The payload of a SWITCH message (R333). -/
def switchPayload (p : Plan) (tick : Nat) : List Byte :=
  slice p.img.hash 0 16 ++ slice p.hash 0 8 ++ beBytes 1 p.z ++ beBytes 7 0 ++ beBytes 8 tick

/-- A switch fixed for tick `t` (R332, R342). -/
def State.fixSwitch (s : State) (t : Nat) (allow : Bool) : State :=
  let s := (s.wfb F.SYS_CHG_ALLOW_SAFE allow).wf F.SYS_CHG_SW_TICK_LO (t % 2 ^ 32)
  ({ s with chg := { s.chg with switch := some t } } : State).chgPhase

/-- `CHANGE_SWITCH` (R332, R333). -/
def execChangeSwitch (s : State) : Out :=
  .next (s.serveChange 2 0x12 fun r s =>
    let allow := nbit (beAt r.body 2 1) 0
    let c := s.switchRefusal s.chg.plan allow s.peersStaged (beAt r.body 4 8)
    let s := s.draw.2
    match s.chg.plan with
    | none => s.chgRefuse r 0x12 c
    | some p =>
      if c ≠ 0 then s.chgRefuse r 0x12 c
      else
        let t := if s.isTriad then s.n + 8 else beAt r.body 4 8
        let s := s.log 0x12 0 r.actor (t % 2 ^ 32) none none
        let s := (s.wf F.SYS_CHG_REASON 0).fixSwitch t allow
        (if s.isTriad then s.sendTriad (s.frame 0x39 0 s.tri.idx 0xFF 0 (switchPayload p t)) else s).answer r 0xA)

/-- `SWITCH_MESSAGE_RECEIVE` (R333): a member switches at s if the message names its own staged plan. -/
def execSwitchMessageReceive (l : TriLink) (f : Frame) (s : State) : Out :=
  .next (match s.triadErr l f with
    | some e => s.countTriErr l e
    | none =>
      if f.kind ≠ 0x39#8 ∨ !s.isTriad ∨ !(s.dev = .member ∨ s.dev = .benched) ∨ s.chg.switch.isSome then s
      else match s.chg.plan with
        | some p =>
          let t := beAt f.payload 32 8
          if !s.changing ∧ f.payload = switchPayload p t ∧ s.n < t then s.fixSwitch t false else s
        | none => s)

/-! ### Complete (R337, R387 to R389) -/

/-- The value a rollback counter takes: the smallest SV of the running components that name it, never lower than it is. -/
def State.burnTo (s : State) (c : Nat) : Nat :=
  let now := tget 0 s.otp.ctr c
  match ((s.boot.comps.filter fun x => ctrOf x.1 == c).map fun x => x.2.2.1).min? with
  | some v => max now (min 128 v)
  | none => now

/-- The fuses of an accepted complete request: counters, and the REVOKE bytes the manifest names. -/
def State.completeFuses (s : State) : State :=
  let ctr := (List.range 4).foldl (fun t c => tset 0 t c (s.burnTo c)) s.otp.ctr
  let keys := (List.range 4).foldl (fun t k =>
    if nbit s.boot.revoke k then tupd {} t k fun x => { x with revoked := true } else t) s.otp.keys
  { s with otp := { s.otp with ctr := ctr, keys := keys, old := some (s.otp.ctr, s.otp.keys) } }

/-- `CHANGE_COMPLETE` (R336, R337, R340): in PAIR the images of both members must be equal. -/
def execChangeComplete (s : State) : Out :=
  .next (s.serveChange 4 0x14 fun r s =>
    if s.chgBusy then s.chgRefuse r 0x14 0xB
    else if s.isPair ∧ s.imagesDiffer then s.chgRefuse r 0x14 0xA
    else (((s.log 0x14 0 r.actor 0 none none).wf F.SYS_CHG_REASON 0).completeFuses).answer r 0xA)

/-! ### VERSION (R334 to R336) -/

/-- `VERSION_SEND` (R334). -/
def execVersionSend (s : State) : Out :=
  .next (if s.isPair && decide (s.dev = .syncing ∨ s.dev = .standby ∨ s.dev = .active) then
      s.sendPair (s.frame 0x14 0 0 0xFF 0 (slice s.img.hash 0 48 ++ slice s.img.prev 0 48 ++ beBytes 2 s.img.azwin ++
        beBytes 2 s.img.mlayout ++ beBytes 1 (s.rf F.SYS_CHG_PHASE) ++ beBytes 3 0))
    else s)

/-- Whether the member, while it follows its partner, translates or back-translates against it (R334, R342). -/
def State.judgeVersion (s : State) : State :=
  match s.saw.version with
  | none => s
  | some (h, frm, _, _) =>
    let shadow : Bool := decide (s.dev = .ready ∨ s.dev = .syncing ∨ s.dev = .standby ∨ s.saw.role = .relinquished)
    let tr : Bool := shadow && h != s.img.hash && s.translates h
    let bk : Bool := shadow && h != s.img.hash && frm == s.img.hash
    ({ s with chg := { s.chg with translating := tr, back := bk } } : State).chgPhase

/-- `VERSION_RECEIVE` (R335). -/
def execVersionReceive (f : Frame) (s : State) : Out :=
  .next (match s.pairErr f with
    | some e => s.countPairErr e
    | none =>
      let p := f.payload
      if f.kind ≠ 0x14#8 ∨ !s.isPair ∨ p.length ≠ 104 then s
      else
        let lv := (beAt p 96 2, beAt p 98 2)
        { s with saw := { s.saw with
          version := some (p.take 48, (p.drop 48).take 48, lv.1, lv.2), versionAt := some s.n, pLevels := some lv } }.judgeVersion)

end Sys2Proof.Machine
end

