-- ==== Sys2Proof/Machine/Power.lean ====
section
/-!
DEFINITION. The retain store (R458 to R461, R491 to R493), the monitors of supplies and clocks (R455, R532), the rack chain
and parked spares (R463 to R468).
-/
namespace Sys2Proof.Machine

/-! ### The retain record (R458, R492) -/

/-- The pending panel record of 20 bytes (R515). -/
def panelBytes (r : Option PanRec) : List Byte :=
  let x := r.getD {}
  leBytes 8 x.new.toNat ++ leBytes 8 x.old.toNat ++ leBytes 1 x.pstate ++ leBytes 1 x.band ++ [0, 0]

/-- The last two lines of a record with generation `gen`: the hash is that of the image whose layout its lines had when they were
taken (R329, R492); the failures saturate. -/
def State.retTail (s : State) (gen : Nat) : List Byte :=
  leBytes 1 s.ret.cause ++ leBytes 1 (s.rf F.SEQ_FENCE_MARK) ++ leBytes 1 (min 255 s.pwd.fails) ++ [0] ++
  leBytes 2 (s.rf F.TUMB_COUNT_TRIPS) ++ leBytes 2 0 ++ leBytes 8 s.ret.tripTick.toNat ++ leBytes 4 s.lockLeft ++
  panelBytes s.pan.record ++ leBytes 8 0 ++ leBytes 8 0 ++ leBytes 8 0 ++
  leBytes 8 gen ++ slice s.ret.layout 0 48 ++ leBytes 4 s.retSpan ++ leBytes 4 commitWord

/-- Retain from memory: the whole span but its last two lines. -/
def State.retAll (s : State) (k : Nat) : State :=
  let base := s.recBase k
  let n := s.retSpan - 128
  if s.mramClass then
    let cells := (s.mem.filter fun (e : Nat × Byte) => decide (retBase ≤ e.1 ∧ e.1 < retBase + n)).map
      fun (e : Nat × Byte) => (base + (e.1 - retBase), e.2)
    { s with mram := (s.mram.filter fun (e : Nat × Byte) => decide (e.1 < base)) ++ cells ++
        s.mram.filter fun (e : Nat × Byte) => decide (base + n ≤ e.1) }
  else s.retPut k 0 (s.rdBytes retBase n)

/-- The lines that the next generation holds: those dirtied since its area's last one, in fallback all (R459, R492). -/
def State.retLines (s : State) (k : Nat) : State :=
  let all := !s.mramClass || (if k = 0 then s.ret.allA else s.ret.allB)
  let dirty := if k = 0 then s.ret.dirtyA else s.ret.dirtyB
  let s := if s.mramClass then s.retPut k (s.retSpan - 4) [0, 0, 0, 0] else s
  let s := if all then s.retAll k
    else dirty.foldl (fun t (e : Nat × Bool) =>
      if e.1 * 64 + 128 < s.retSpan + 1 then t.retPut k (64 * e.1) (t.rdBytes (retBase + 64 * e.1) 64) else t) s
  { s with ret := if k = 0 then { s.ret with dirtyA := [], allA := false, layout := s.img.hash }
                  else { s.ret with dirtyB := [], allB := false, layout := s.img.hash } }

/-- The area or record that the next generation goes into (R459). -/
def State.retNext (s : State) : Nat := 1 - s.ret.area

/-- Whether retain is written: from READY on (R461). -/
def State.retOn (s : State) : Bool := decide (s.dev ∉ [.booting, .parked, .refused])

/-- The generation of a tail begun (R459). -/
def State.retainTail (s : State) : State :=
  if s.retOn && s.mramClass && !s.ret.writing && !s.ret.flushing then
    let t := s.retLines s.retNext
    { t with ret := { t.ret with writing := true } }
  else s

/-- The commit word of a generation, the last thing written (R459, R460). -/
def State.retCommit (s : State) : State :=
  let k := s.retNext
  let t := (s.retPut k 0 (s.rdBytes retBase 64)).retPut k (s.retSpan - 128) (s.retTail (s.ret.gen + 1))
  let t := { t with ret := { t.ret with gen := t.ret.gen + 1, area := k, writing := false, flushing := false }
                    pan := { t.pan with recIn := true } }
  t.wf F.SYS_PWR_GEN t.ret.gen

/-- `RETAIN_GENERATION_COMMIT` (R459). -/
def execRetainGenerationCommit (s : State) : Out := .next (if s.ret.writing then s.retCommit else s)

/-! ### The flush (R460, R461, R472, R494) -/

/-- A flush begun, joined by a generation that was being written. -/
def State.startFlush (s : State) : State :=
  if !s.retOn || s.ret.flushing then s
  else
    let s := s.retLines s.retNext
    let s := (s.wfb F.SYS_PWR_FLUSHING true).wfb F.SYS_PWR_FLUSH_OK false
    let cut : Bool := !s.mramClass && s.ret.ops.head?.any fun (p : NvmOp) => p.erase != 0
    let s := if cut then (s.wfb F.NVM_STAT_SUSPENDED true).inc F.NVM_ERR_SUSP else s
    { s with ret := { s.ret with writing := false, flushing := true, suspended := !s.mramClass && !s.ret.ops.isEmpty } }

/-- `PWR_FAIL_ASSERT` (R460, R461): service goes on; a second fall during a flush has no further effect. -/
def execPwrFailAssert (s : State) : Out := .next ((s.wfb F.SYS_PWR_PWR_FAIL true).startFlush)

/-- `PWR_FAIL_RELEASE` (R461). -/
def execPwrFailRelease (s : State) : Out := .next (s.wfb F.SYS_PWR_PWR_FAIL false)

/-- The end of a flush (R460, R472, R494): in fallback the sectors of the other record are to be erased. -/
def State.endFlush (s : State) : State :=
  if !s.ret.flushing then s
  else
    let s := (s.retCommit.wfb F.SYS_PWR_FLUSHING false).wfb F.SYS_PWR_FLUSH_OK true
    let s : State := { s.wfb F.NVM_STAT_SUSPENDED false with ret := { s.ret with suspended := false } }
    let s := if s.mramClass then s
      else { s with ret := { s.ret with fallErased := false, ops := s.ret.ops ++ [NvmOp.mk (s.recBase s.retNext) 65536 [] none] } }.nvmBusy
    s.pdLater

/-- `RETAIN_FLUSH_DONE` (R460). -/
def execRetainFlushDone (s : State) : Out := .next s.endFlush

/-! ### Clocks (R532) -/

/-- `CLOCK_MONITOR` (R532). -/
def execClockMonitor (ev : ClockEvent) (s : State) : Out :=
  .next (
    let acts : Bool := match ev with
      | .refRange ns => decide (4000 ≤ ns)
      | .refStop ns => decide (1000 ≤ ns)
      | .pllUnlock ns => decide (1000 ≤ ns)
      | .laneRefStop ns enabled => enabled && decide (1000 ≤ ns)
    if acts then { s with hlth := { s.hlth with monAt := some (s.mono : Int) } }.trip 0x0A else s)

/-! ### The rack chain (R463 to R467) -/

/-- The rack-chain unit changed. -/
def State.updRack (s : State) (f : RackS → RackS) : State := { s with rack := f s.rack }

/-- The chain address taken (R464). -/
def State.takeAddr (s : State) (a : Nat) : State :=
  let s := (s.updRack fun r => { r with addr := some a }).wf F.RACK_STAT_CHAIN a
  if s.rack.latched.any (fun l => l != a) then s.wfb F.RACK_STAT_CHANGED true else s

/-- The reason of R465 why the latched address is not one of this image; 0: addressed. -/
def State.rackReason (s : State) : Nat :=
  match s.rack.latched with
  | none => 1
  | some a =>
    if 64 ≤ a then 2
    else if a ≠ s.rf F.RACK_STAT_STRAP then 3
    else if !s.img.members.contains a && !s.img.spares.contains a then 4
    else if s.rack.dup then 5
    else 0

/-- The address latched at the entry into READY, and judged (R464, R465). -/
def State.latchAddr (s : State) : State :=
  let s := s.updRack fun r => { r with latched := r.addr }
  { s.wf F.RACK_STAT_REASON s.rackReason with addrOk := s.rackReason == 0 }

/-- Whether this device is a spare of its image (R467). -/
def State.isSpare (s : State) : Bool := s.rack.latched.any fun a => s.img.spares.contains a

/-- What a tick boundary in READY does with the address: a peer with the same one leaves the device unaddressed, with no
transition but the one to PARKED; a spare that was not woken parks (R465, R467). -/
def State.rackTick (s : State) : State :=
  let s := if s.rack.dup && s.addrOk && s.dev == .ready then
      { s.wf F.RACK_STAT_REASON 5 with addrOk := false, due := s.due.filter fun d => d == .parked }
    else s
  if s.dev == .ready && s.addrOk && s.isSpare && !s.rfb F.SYS_PWR_WOKEN then s.schedule .parked else s

/-- Entry into PARKED (R8, R18, R468): every domain but PD0 off; the ON bits of domains that do not switch read 1. -/
def State.enterParked (s : State) : State :=
  let s := s.enter .parked
  let s := s.setReg pdAddr (putBits (putBits (s.reg pdAddr) 0 12 0x48F) 16 12 1)
  let s := (s.canDoze 0).canDoze 1
  { s.wfb F.TICK_STAT_RUNNING false with squelch := true, tripN := false, field := {}, fctl := {} }

/-- A command of the rack chain that has come in four frames in a row (R467). A WAKE is for the caller. -/
def State.rackPark (s : State) : State :=
  if s.dev = .ready ∧ s.rack.park then (s.wfb F.SYS_PWR_WOKEN false).schedule .parked else s

/-- Whether a word is a rack-chain frame (R463). -/
def rackOk (w : BitVec 24) : Bool := bitsOf w.toNat 20 4 == 0xB && bitsOf w.toNat 0 4 == crc4 w

/-- A valid frame taken in (R464, R467). -/
def State.rackTake (s : State) (w : BitVec 24) : State :=
  let a := bitsOf w.toNat 13 7
  let wake := nbit w.toNat 12
  let park := nbit w.toNat 11
  let tgt := bitsOf w.toNat 5 6
  let s := s.wfb F.RACK_STAT_HEAD false
  let s := s.updRack fun r =>
    let again := r.wake == wake && r.park == park && r.tgt == tgt
    { r with
      seen := some a, same := if r.seen = some a then r.same + 1 else 1
      wake := wake, park := park, tgt := tgt
      cmdCnt := if !(wake || park) then 0 else if again then r.cmdCnt + 1 else 1 }
  if 8 ≤ s.rack.same ∧ s.rack.addr ≠ some a then s.takeAddr a else s

/-- Whether the command of the last frames is to be acted on: four in a row, for this device (R467). -/
def State.rackActs (s : State) : Bool := decide (4 ≤ s.rack.cmdCnt ∧ s.rack.tgt = s.ownAddr)

/-- A frame that fails SYNC or CRC ends every run of frames. -/
def State.rackBad (s : State) : State :=
  (s.inc F.RACK_ERR_CRC).updRack fun r => { r with same := 0, seen := none, cmdCnt := 0 }

/-- The frame that leaves: address and command, with its CRC (R463). -/
def rackFrame (a : Nat) (wake park : Bool) (tgt : Nat) : BitVec 24 :=
  let w := 0xB * 2 ^ 20 + a % 128 * 2 ^ 13 + b2n wake * 2 ^ 12 + b2n park * 2 ^ 11 + tgt % 64 * 2 ^ 5
  BitVec.ofNat 24 (w + crc4 (BitVec.ofNat 24 w))

/-- `RACK_FRAME_SEND` (R463, R466, R467): an injected command takes the place of the copied one for 16 frames. -/
def execRackFrameSend (s : State) : Out :=
  .next (
    if s.boot.por then s
    else
      let a := min (s.ownAddr + 1) 64
      match s.rack.inject with
      | [] => s.send (.rack (rackFrame a s.rack.wake s.rack.park s.rack.tgt))
      | c :: t =>
        (s.send (.rack (rackFrame a c.1 c.2.1 c.2.2))).updRack fun r =>
          if r.left ≤ 1 then { r with inject := t, left := 16 } else { r with left := r.left - 1 })

/-- `RACK_FRAME_GAP` (R473): while ADDR_IN is high. -/
def execRackFrameGap (s : State) : Out :=
  .next (if s.boot.por || s.rfb F.RACK_STAT_HEAD then s else s.inc F.RACK_ERR_GAP)

/-- `CHAIN_HEAD_DETECT` (R464; NOTES 153). -/
def execChainHeadDetect (s : State) : Out :=
  .next (((s.wfb F.RACK_STAT_HEAD true).updRack fun r => { r with seen := none, same := 0, cmdCnt := 0 }).takeAddr 0)

/-- `SPARE_WAIT_EXPIRY` (R467). -/
def execSpareWaitExpiry (s : State) : Out :=
  .next (
    let w := s.rf F.RACK_CFG_SPARE_WAIT
    let excess := match s.saw.unleasedAt with | some t => decide (t + w * 1000000000 ≤ s.mono) | none => false
    if s.isPair && s.dev == .active && s.saw.role == .unleased && w != 0 && excess && !s.rack.spareWoken then
      (s.img.spares.foldl (fun t a => t.rackInject true false a) s).updRack fun r => { r with spareWoken := true }
    else s)

end Sys2Proof.Machine
end

