-- ==== Sys2Proof/Machine/Panel.lean ====
section
/-!
DEFINITION. The tell-tale panel (chapter 22).
-/
namespace Sys2Proof.Machine

/-! ### Bands and stress (R510, R512, R513) -/

/-- The panel changed. -/
def State.updPan (s : State) (f : Pan → Pan) : State := { s with pan := f s.pan }

/-- The temperature band at present; the one last latched in PARKED (R510, R516). -/
def State.panelBand (s : State) : Nat :=
  match s.img.panel with
  | none => s.rf F.PANEL_STAT_BAND
  | some p =>
    if s.dev = .parked then s.rf F.PANEL_STAT_BAND
    else (p.bands.filter fun b => decide (b ≤ signed 16 (s.rf F.HLTH_TEMP_TJ) + p.tofs)).length

/-- STEP of a segment (R512). -/
def State.panelStep (s : State) (seg : Nat) : Nat :=
  match s.img.panel with
  | none => 0
  | some p => (p.thr.filter fun t => decide (t ≤ tget 0 s.pan.stress seg)).length

/-- The waveform of a segment in a band: `t` 0 from 0 to 1, 1 from 1 to 0. -/
def panelWave (l : List Wave) (band t : Nat) : Wave := l.getD (2 * band + t) []

/-- STEP latched for the segments of a mask that starts to be driven. -/
def State.latchSteps (s : State) (mask : Nat) : State :=
  ((List.range 64).filter fun i => nbit mask i).foldl (fun t i =>
    let v := t.panelStep i
    t.updPan fun p => { p with stepOf := tset 0 p.stepOf i v }) s

/-- The frames of a waveform that drive, counted on a segment (R512). -/
def State.stressBy (s : State) (seg : Nat) (w : Wave) : State :=
  let n := (w.filter fun c => c != 0).length
  s.updPan fun p => { p with stress := tset 0 p.stress seg (min (2 ^ 32 - 1) (tget 0 p.stress seg + n)) }

/-! ### The main area (R514, R515) -/

/-- The segments of the main area. -/
def mainMask : Dword := 0xFFFFFFFFFFFF0000#64

/-- PSTATE of the record, in `PANEL_STAT` too. -/
def State.setPstate (s : State) (v : Nat) : State :=
  (s.wf F.PANEL_STAT_PSTATE v).updPan fun p => { p with record := p.record.map fun r => { r with pstate := v } }

/-- The waveforms of the main area start: they drive `segs` towards `target`. -/
def State.startMain (s : State) (target segs : Dword) (clear : Bool) : State :=
  let b := s.panelBand
  let s := s.updPan fun p => { p with
    busy := true, clearing := clear, waitRec := false, target := target, segs := segs, band := b
    record := p.record.map fun r => { r with band := b } }
  ((s.latchSteps segs.toNat).wfb F.PANEL_STAT_BUSY true).wf F.PANEL_STAT_BAND b

/-- Every main segment driven with CLEAR (R515). -/
def State.startClear (s : State) : State := (s.setPstate 2).startMain (s.pan.d &&& ~~~mainMask) mainMask true

/-- The update of R514 starts with its pending record. -/
def State.startUpdate (s : State) : State :=
  let s := s.updPan fun p => { p with record := some { new := p.r, old := p.d, pstate := 1, band := p.band }, recIn := false }
  let s := s.wf F.PANEL_STAT_PSTATE 1
  if s.mramClass then s.updPan fun p => { p with waitRec := true }
  else s.startMain s.pan.r ((s.pan.r ^^^ s.pan.d) &&& mainMask) false

/-- `PANEL_UPDATE_START` (R514, R517): at a frame boundary with no main waveform running. -/
def execPanelUpdateStart (s : State) : Out :=
  .next (
    if s.rfb F.PANEL_CTRL_EN && !s.pan.busy && !s.pan.waitRec && s.dev != .parked && (s.pan.r ^^^ s.pan.d) &&& mainMask != 0 then
      s.startUpdate
    else s)

/-- `PANEL_RECORD_COMMITTED` (R514): the generation that carries the record has committed. -/
def execPanelRecordCommitted (s : State) : Out :=
  .next (match s.pan.record with
    | some r => if s.pan.waitRec && s.pan.recIn && s.dev != .parked then
        s.startMain r.new ((r.new ^^^ r.old) &&& mainMask) false else s
    | none => s)

/-- The main waveforms end: D is the target, PSTATE 0x00 is written last; after a clear the drawing is still to come, where
anything of the requested image is left to draw (R514, R515; NOTES 147). -/
def State.endMain (s : State) : State :=
  let p := s.pan
  let waves (i : Nat) : Wave := match s.img.panel with
    | none => []
    | some x => if p.clearing then x.clear.getD p.band [] else panelWave x.lut p.band (b2n (p.d.getLsbD i))
  let s := ((span 16 48).filter fun i => p.segs.getLsbD i).foldl (fun t i => t.stressBy i (waves i)) s
  let s := s.updPan fun p => { p with busy := false, clearing := false, d := (p.d &&& ~~~mainMask) ||| (p.target &&& mainMask) }
  (if p.clearing && (s.pan.r ^^^ s.pan.d) &&& mainMask != 0 then s else s.setPstate 0).wfb F.PANEL_STAT_BUSY false

/-- `PANEL_UPDATE_DONE` (R514). -/
def execPanelUpdateDone (s : State) : Out := .next (if s.pan.busy then s.endMain else s)

/-! ### The always-on area (R516, R517) -/

/-- What segments 0 to 15 are to show. -/
def State.aonNow (s : State) : BitVec 16 :=
  BitVec.ofNat 16 (devCode s.dev + 16 * s.rf F.TUMB_STAT_CAUSE + 4096 * b2n s.addrOk +
    8192 * b2n (s.rf F.HLTH_GRADE_GRADE == 1) + 16384 * b2n (s.rf F.HLTH_GRADE_GRADE == 2) + 32768 * b2n (s.otp.life == 2))

/-- `PANEL_AON_REDRAW` (R516): after a power-on reset all sixteen segments are driven once. -/
def execPanelAonRedraw (s : State) : Out :=
  .next (
    let now := s.aonNow
    let segs := if s.pan.aonFull then 0xFFFF#16 else now ^^^ s.pan.aonShown
    if !s.rfb F.PANEL_CTRL_EN || s.pan.aonBusy || segs == 0 then s
    else
      let b := s.panelBand
      let s := s.updPan fun p => { p with aonBusy := true, aonTarget := now, aonSegs := segs, aonBand := b, aonFull := false }
      ((s.latchSteps segs.toNat).wfb F.PANEL_STAT_AON_BUSY true).wf F.PANEL_STAT_BAND b)

/-- `AON_WAVEFORM_DONE` (R516). -/
def execAonWaveformDone (s : State) : Out :=
  .next (
    if !s.pan.aonBusy then s
    else
      let p := s.pan
      let wave (i : Nat) : Wave := match s.img.panel with
        | none => []
        | some x => panelWave x.aon p.aonBand (b2n (!p.aonTarget.getLsbD i))
      let s := ((List.range 16).filter fun i => p.aonSegs.getLsbD i).foldl (fun t i => t.stressBy i (wave i)) s
      (s.updPan fun p => { p with
        aonBusy := false, aonShown := p.aonTarget
        d := (p.d &&& mainMask) ||| p.aonTarget.setWidth 64 }).wfb F.PANEL_STAT_AON_BUSY false)

end Sys2Proof.Machine
end

