-- ==== Sys2Proof/Machine/Restore.lean ====
section
/-!
DEFINITION. What a boot takes out of the NVM: the change log's end (R361, R494), the retain record with its device block
(R176, R329, R359, R462, R492, R493) and the panel's record (R515); the tags of memory (R365, R366) and the entries of the
colour gate (R367 to R370, R375).
-/
namespace Sys2Proof.Machine

/-! ### The change log found again (R361, R494) -/

/-- Entry `i` of sector `k` of the change log. -/
def State.logEntry (s : State) (k i : Nat) : List Byte := s.norBytes (0x6020000 + 65536 * k + 256 * i) 256

/-- An entry with its commit word. -/
def logDone (b : List Byte) : Bool := leAt b 0xFC 4 == logCommit

/-- The sector whose first entry has the highest SEQ. -/
def State.logSector (s : State) : Option Nat :=
  ((List.range 254).foldl (fun (best : Option (Nat × Nat)) k =>
    let b := s.logEntry k 0
    if logDone b && best.all fun x => decide (x.1 ≤ leAt b 0 4) then some (leAt b 0 4, k) else best) none).map (·.2)

/-- The next SEQ and the CHAIN of the last committed entry. -/
def State.findLog (s : State) : State :=
  match s.logSector with
  | none => { s with logSeq := 0, chain := [] }
  | some k =>
    match ((List.range 256).map (s.logEntry k)).filter logDone |>.getLast? with
    | none => { s with logSeq := 0, chain := [] }
    | some b => { s with logSeq := leAt b 0 4 + 1, chain := slice b 0x50 48 }

/-! ### The retain record (R492, R493) -/

/-- The last two lines of the record in use, zeros with none. -/
def State.recTail (s : State) : List Byte :=
  match s.recChoice with
  | some k => s.retNvm k (s.retSpan - 128) 128
  | none => List.replicate 128 0

/-- The bay marks of the record (R176). -/
def State.recMarks (s : State) : Nat := leAt s.recTail 1 1 % 8

/-- The device block taken over (R359, R492, R493); a wake keeps what PD0 holds. -/
def State.restoreBlock (s : State) : State :=
  let b := s.recTail
  let s := s.wf F.SEQ_FENCE_MARK (leAt b 1 1)
  let s := { s with ret := { s.ret with
    cause := s.boot.trip.getD (leAt b 0 1), tripTick := BitVec.ofNat 64 (leAt b 8 8), gen := leAt b 64 8, area := s.recChoice.getD 0 } }
  let s := s.wf F.SYS_PWR_GEN s.ret.gen
  if s.rf F.SYS_RST_CAUSE = 4 then s
  else
    let left := leAt b 16 4
    { s.wf F.TUMB_COUNT_TRIPS (leAt b 4 2) with
      pwd := { fails := leAt b 2 1, lockEnd := if left = 0 then none else some (s.mono + left * 1000000), locked := left != 0 } }

/-- The epoch record taken over, 0 without a valid record (R251, R462, R493). -/
def State.restoreEpoch (s : State) : State :=
  match s.recChoice with
  | some k => s.wrBytes retBase (s.retNvm k 0 64)
  | none => s

/-- Retained items put back from record `k` into the layout of image `g`, those that `p` picks. -/
def State.loadItems (s : State) (k : Nat) (g : Image) (p : Nat × Nat → Bool) : State :=
  (((retainWalk g (retBase + 64) g.retain).zip g.retain).filter fun e => p e.2).foldl
    (fun t e => t.wrBytes e.1.1 (t.retNvm k (e.1.2.2 - retBase) e.1.2.1)) s

/-- Bit RESTORED of the state block at `a` (R122, R136). -/
def State.setRestored (s : State) (a : Nat) : State := s.wrB (a + 0x14) (s.rdB (a + 0x14) ||| 0x40#8)

/-- The record objects of image `g` that lie in a run of its retain list: those of R136 are marked, the others take their
created state. -/
def State.markRecords (s : State) (g : Image) (runs : List (Nat × Nat)) : State :=
  g.tables.foldl (fun t d => (List.range d.nrec).foldl (fun t r => d.objs.foldl (fun t o =>
    let a := d.rectab + r * d.recsz + o.1
    if covers runs a 32 then (if 6 ≤ o.2 then t.setRestored (varBase + a) else t.wrBytes (varBase + a) (createdBlk o.2 0 0).bytes)
    else t) t) t) s

/-- RESTORED set in what the items that `p` picks restored (R136). -/
def State.markRestored (s : State) (g : Image) (p : Nat × Nat → Bool) : State :=
  let l := ((retainWalk g (retBase + 64) g.retain).zip g.retain).filter fun e => p e.2
  let s := (l.filter fun e => e.2.1 == 1).foldl (fun t e => t.setRestored e.1.1) s
  s.markRecords g ((l.filter fun e => e.2.1 != 1).map fun e => (e.1.1 - varBase, e.1.2.1))

/-- Variable bytes outside every run of `g` read 0, as R68 leaves them. -/
def State.clearGaps (s : State) (g : Image) : State :=
  { s with mem := tclear s.mem fun a => decide (varBase ≤ a ∧ a < forceBase) &&
      !g.varmap.any fun w => decide (w.off ≤ a - varBase ∧ a - varBase < w.off + w.len) }

/-- A record of the FROM image migrated (R326, R329): its items as the old layout holds them, then the plan. -/
def State.migrateRetain (s : State) (k : Nat) (old g : Image) : State :=
  let both (e : Nat × Nat) : Bool := g.retain.contains e
  let s := ((s.createObjects old).loadItems k old both).migrate old g
  let kept (e : Nat × Nat) : Bool := old.retain.contains e &&
    (e.1 != 1 || (sotList g).any fun o => o.1 == e.2 && keptObj old o)
  (s.clearGaps g).markRestored g kept

/-- Retain restored by the first case of R329 that applies. -/
def State.restoreItems (s : State) (g : Image) : State :=
  match s.recChoice with
  | none => s
  | some k =>
    let h := slice s.recTail 72 48
    if h = g.hash then (s.loadItems k g fun _ => true).markRestored g fun _ => true
    else if h = g.prev then
      match s.chg.fromImg with
      | some old => s.migrateRetain k old g
      | none => s
    else s

/-- The panel after a boot (R515): a record with an update under way clears and is drawn again, one without says what is
displayed, none clears and draws INIT. -/
def State.restorePanel (s : State) (p : PanelSec) : State :=
  let b := s.recTail
  let new : Dword := BitVec.ofNat 64 (leAt b 20 8)
  let s := s.wfb F.PANEL_CTRL_EN true
  match s.recChoice with
  | none => (s.updPan fun x => { x with r := p.init, record := some { new := p.init, old := x.d } }).startClear
  | some _ =>
    if leAt b 36 1 = 0 then
      s.updPan fun x => { x with d := (new &&& mainMask) ||| (x.d &&& ~~~mainMask), r := new }
    else (s.updPan fun x => { x with
      r := new, record := some { new := new, old := BitVec.ofNat 64 (leAt b 28 8), pstate := leAt b 36 1, band := leAt b 37 1 } }).startClear

/-- The panel of the image, with BASE in every stress count after a power-on reset (R512). -/
def State.bootPanel (s : State) (g : Image) : State :=
  match g.panel with
  | none => s
  | some p =>
    let s := if s.boot.cold then s.updPan fun x => { x with stress := (List.range 64).foldl (fun t i => tset 0 t i p.base) [] } else s
    if s.rf F.SYS_RST_CAUSE = 4 then s else s.restorePanel p

/-- Everything that comes back out of retain. -/
def State.restoreAll (s : State) (g : Image) : State :=
  let s := (((s.zero retBase 0x100000).restoreEpoch).restoreItems g).recopyRetain g
  let s := { s with dirty := [], ret := { s.ret with dirtyA := [], dirtyB := [], allA := true, allB := true } }
  (s.restoreBlock.bootPanel g).wf F.SAW_KNOWN_KNOWN (s.rdLe retBase 4)

/-- `BAY_CLEAR` (R176): in REFUSED, where no generation is written, the record's own mark is cleared too (NOTES 44). -/
def execBayClear (s : State) : Out :=
  .next (s.serve 0x26 fun r s =>
    let b := beAt r.body 0 1
    s.guarded r 0x31 b fun s =>
      if r.body.length ≠ 1 then s.refuse r 0x31 b 2 0
      else if 3 ≤ b then s.refuse r 0x31 b 9 0
      else
        let s := s.log 0x31 0 r.actor b none none
        let s := match s.recChoice with
          | some k => if s.dev = DevState.refused then
              s.retPut k (s.retSpan - 127) [BitVec.ofNat 8 (s.recMarks &&& (7 - 2 ^ b))] else s
          | none => s
        (s.wf F.SEQ_FENCE_MARK (s.rf F.SEQ_FENCE_MARK &&& (7 - 2 ^ b))).answer r 0)

/-! ### Tags (R365, R366) -/

/-- The colours that the supervisor gives the lines of memory, the first run that holds a line governing. -/
def tagsOf (g : Image) (rs : List RangeD) : List (Nat × Nat × Nat) :=
  [(lineOf forceBase, 256, 15)] ++ g.colours ++
  ((rs.filter fun r => r.dir == 2).map fun r => (lineOf bankF + r.start / 8, r.len / 8, 4)) ++
  [(lineOf bankF, 655360, 3), (0, 655360, 2), (lineOf varBase, 1048576, 4), (lineOf sotBase, 262144, 15),
   (lineOf jrnlBase, 524288, 5), (lineOf trendBase, 785408, 15), (lineOf keyArea, 1024, 14), (lineOf mirrArea, 131072, 15),
   (lineOf retBase, 16384, 15), (4194304, 131072, 13)]

/-! ### The entries of the gate (R367 to R370) -/

/-- The entry of context `n` written and locked (R378). -/
def State.setCtx (s : State) (n : Nat) (m : Nat × Nat × Nat) : State :=
  (((s.wf (F.GATE_CTX_RW_READ_MASK n) m.1).wf (F.GATE_CTX_RW_WRITE_MASK n) m.2.1).wf (F.GATE_CTX_X_EXEC_MASK n) m.2.2).wfb
    (F.GATE_CTX_X_LOCK n) true

/-- The masks of a task set: the colours of its tasks (R368). -/
def setMasks (g : Image) (j : Nat) : Nat × Nat × Nat :=
  let ts := g.tasks.filter fun t => t.set == j
  (ts.foldl (fun m t => m ||| t.img.readCol) 0, ts.foldl (fun m t => m ||| t.img.writeCol) 0, 0x2000)

/-- The colours of the lines of some runs: what the map gives them, and colour 4 where it leaves one unassigned (R365, R369). -/
def mapMask (g : Image) (runs : List (Nat × Nat)) : Nat :=
  let mine := g.colours.filter fun c => runs.any fun r => meets c.1 c.2.1 r.1 r.2
  let iv := (mine.map fun c => (c.1, c.2.1)).foldr insIv []
  mine.foldl (fun m c => m ||| 2 ^ c.2.2) (if runs.all fun r => covers iv r.1 r.2 then 0 else 0x10)

/-- The colours of the runs that context 49 sends from or receives into: telegrams and CAN objects (R369). -/
def State.netMask (s : State) (g : Image) (send : Bool) : Nat :=
  let tg := (g.telegrams.filter fun t => t.send == send).filterMap fun t =>
    (g.varmap.find? fun v => v.key == t.varkey).map fun v => (v.off, v.len)
  let can := [0, 1].flatMap fun p => (List.range 128).filterMap fun k =>
    if s.rf (F.CAN_OBJ_A_DIR p k) = (if send then 2 else 1) then
      some (s.rf (F.CAN_OBJ_C_RUN p k), if send then 64 else 128) else none
  (tg ++ can).foldl (fun m r => m ||| varColours g r.1 r.2) 0

/-- The masks of contexts 48 to 55 (R369). -/
def State.fixedMasks (s : State) (g : Image) (n : Nat) : Nat × Nat × Nat :=
  let o := mapMask g ((s.ranges.filter fun r => r.dir == 2).map fun r => (lineOf bankF + r.start / 8, r.len / 8))
  let v := mapMask g [(lineOf varBase, lineOf forceBase - lineOf varBase)]
  if n = 48 then (0x800C ||| o, 0x8004, 0)
  else if n = 49 then (s.netMask g true ||| 0x8000, s.netMask g false ||| 0x8000, 0)
  else if n = 50 then (0x000C, 0x0008, 0)
  else if n = 51 then (0x8000, 0x8020, 0)
  else if n = 52 then (o ||| v ||| 0x8000, o ||| v ||| 0x8000, 0)
  else if n = 53 then (o ||| 8, o ||| 8, 0)
  else if n = 54 then (0xC000, 0xC000, 0)
  else (0xFFFE, 0xFFFE, 0x8000)

/-- The masks of context 63 (R370). -/
def State.debugMasks (s : State) (g : Image) : Nat × Nat × Nat :=
  if s.boot.life = 1 then (g.dbgRead &&& 0x1FFE, g.dbgWrite &&& 0x1FFE, 0)
  else match s.boot.granted with
    | some m => (m.1 &&& 0x1FFE, m.2 &&& 0x1FFE, 0)
    | none => (2, 0, 0)

/-- The policy of engine context `n` (R374, R375): what the image states (NOTES 109), the same for both engines of a twin in TWIN mode
(R367); in SEALED TRIP where its set holds a SAFETY task, whatever the image states. -/
def State.enginePolicy (s : State) (g : Image) (n : Nat) : Nat :=
  if s.boot.life = 2 ∧ (g.tasks.any fun t => t.set == n % 4 && t.img.safety) then 2
  else Config.imagePolicy g.hash (4 * s.leader (n / 4) + n % 4) % 3

/-- The policies of the engine contexts written (R375). -/
def State.writePolicies (s : State) (g : Image) : State :=
  (List.range 48).foldl (fun t n => t.wf (F.GATE_POL_POL (n / 16) (n % 16)) (s.enginePolicy g n)) s

/-- Every entry of the table written (R368 to R370, R375). -/
def State.writeContexts (s : State) (g : Image) : State :=
  let s := s.writePolicies g
  let s := (List.range 48).foldl (fun t n => t.setCtx n (setMasks g (n % 4))) s
  let s := (span 48 8).foldl (fun t n => t.setCtx n (s.fixedMasks g n)) s
  s.setCtx 63 (s.debugMasks g)

end Sys2Proof.Machine
end

