-- ==== Sys2Proof/Machine/Transit.lean ====
section
/-!
DEFINITION. Transitions between device states as they take effect at a boundary (R22 to R24): fresh starts (R328), what a
new active or member begins with, a handover's last boundary (R260), the cold start (R314), the switch (R330 to R332).
-/
namespace Sys2Proof.Machine

/-! ### The reference (R48 to R50) -/

/-- The phase error that the tick which ends has given: own tick start minus the partner's or the median of the members, in ns;
none where no message gave one (R48, R298). -/
def State.keepErr (s : State) : State :=
  { s with refErr := if s.isTriad then s.triRef.map fun d => -d else s.saw.err, saw := { s.saw with err := none } }

/-- Own tick start minus the reference's in ns, where the reference is present (R48). -/
def State.tickErr (s : State) : Option Int :=
  match s.tickSrc with
  | 1 => if s.rfb F.TIME_STAT_SYNC then some (s.nearest (s.plantNs s.tstart.toNat)) else none
  | 2 => s.refErr
  | 3 => s.refErr
  | _ => none

/-- The most time-clock periods by which a tick may differ from its nominal length (R49). -/
def State.maxAdjust (s : State) : Nat := if s.dev = .ready ∨ s.dev = .syncing then s.nominal / 10 else s.nominal / 2000

/-- A tick length that takes off an error, within the limits of R49. -/
def State.adjusted (s : State) (err : Int) : Nat :=
  let m : Int := s.maxAdjust
  ((s.nominal : Int) - max (-m) (min m (err / 4))).toNat

/-- The length of the tick that begins and what `TICK_STAT`, `TICK_ERR` and `TRI_SKEW` show, by the state in which it begins
(R48 to R50, R53, R319; without a reference NOTES 172). -/
def State.alignTick (s : State) : State :=
  let s := s.wf F.TICK_STAT_SRC s.tickSrc
  match s.tickSrc, s.tickErr with
  | 0, _ => { (s.wfb F.TICK_STAT_LOCKED false).wfb F.TICK_STAT_HOLDOVER false with tlen := s.nominal }
  | _, none => s
  | src, some e =>
    let s := ((s.wfb F.TICK_STAT_LOCKED (decide (-1000 ≤ e ∧ e ≤ 1000))).wfb F.TICK_STAT_HOLDOVER false).wf F.TICK_ERR_PHASE_ERR (wrapTo 32 e)
    let s := if src = 3 then s.trackMax F.TRI_SKEW_MAX e.natAbs else s
    { s with tlen := s.adjusted e }

/-! ### Freeze of a tick -/

/-- The freeze engine and the gathers run in this device state: from the end of BOOTING to the stop, and not in the tick of
a handover (R260, R332). -/
def State.freezes (s : State) : Bool :=
  s.rfb F.IMG_CTRL_FREEZE_EN && decide (s.dev ∉ [.booting, .parked, .refused, .tripped, .stopped]) &&
    !s.handsOver && !decide (s.saw.role = .relinquished)

/-- The receive runs of the CAN ports and the telegrams (R356, R447; the mirror brings those of a syncing member and of a standby, NOTES
169), the freeze of the classes due at the present tick, the
samples of the system objects, `TICK_DUE` and `IMG_FRZ` (R31, R53, R65, R82, R147). -/
def State.beginFreeze (s : State) : State :=
  let s := s.wf F.TICK_DUE_DEADLINE (classMask (s.deadlineAt s.n))
  if !s.freezes then ((s.wf F.TICK_DUE_FROZEN 0).wf F.IMG_FRZ_LINES 0).wf F.IMG_FRZ_READ 0
  else
    let runs := s.serving || s.joins || s.dev == .ready
    let s := s.canFreeze runs
    let s := if runs then s.applyTelegrams else s
    let s := (s.freeze s.n).wf F.TICK_DUE_FROZEN (classMask (s.dueAt s.n))
    { s with snap := s.takeSnap }

/-- The freeze that waits for the commands of its boundary, once none of them is still to come (R31). -/
def State.freezeOnce (s : State) : State :=
  if s.sched.freezeWaits && !s.awaits then { s with sched := { s.sched with freezeWaits := false } }.beginFreeze else s

/-- `FORCE_APPLY` (R72): the requests accepted since the last boundary, in order. -/
def execForceApply (s : State) : Out :=
  .next (
    let t : State := { s with svc := { s.svc with forces := [] } }
    (s.svc.forces.foldl (fun (u : State) r => if r.1 then u.applyForce r.2.1 (BitVec.ofNat 32 r.2.2) else u.applyUnforce r.2.1) t).freezeOnce)

/-- `FORCE_EFFECT` (R317, R318): at the boundary of tick EFFECT. -/
def execForceEffect (s : State) : Out :=
  .next (
    let now := s.tri.forces.filter fun x => x.1 == s.n
    let s := s.updTri fun t => { t with forces := t.forces.filter fun x => decide (s.n < x.1) }
    (now.foldl (fun (t : State) x => if x.2.1 then t.applyForce x.2.2.1 (BitVec.ofNat 32 x.2.2.2) else t.applyUnforce x.2.2.1) s).freezeOnce)

/-! ### Fresh starts (R328) -/

/-- FIRST set for every shard of the tasks that `p` picks. -/
def State.freshStart (s : State) (p : TaskImg → Bool) : State :=
  (s.img.tasks.zip (List.range s.img.tasks.length)).foldl (fun t e =>
    if p e.1.img then
      (List.range e.1.img.shards).foldl (fun u k =>
        { u with tasks := tupd {} u.tasks (taskKey e.2 k) fun r => { r with first := true } }) t
    else t) s

/-- A task that differs between two images: its code, gather list, WSET or objects. -/
def taskDiffers (g : Image) (t : TaskImg) : Bool :=
  match g.tasks.find? fun d => d.img.taskId == t.taskId with
  | none => true
  | some d =>
    d.img.code != t.code || d.img.funcs != t.funcs || d.img.pool != t.pool || d.img.gath != t.gath || d.img.wset != t.wset
      || d.img.objs != t.objs || (d.img.arrd.map (·.objs)) != (t.arrd.map (·.objs))

/-- Every activation in flight lapses (R283). -/
def State.dropActs (s : State) : State :=
  let s := { s with eng := tmap {} s.eng (fun _ e => { e with cur := none, ready := [] }), flights := [], deferred := [] }
  (List.range 12).foldl State.engRegs s

/-! ### Entries -/

/-- A translating or back-translating member becomes active on its own image (R328, R336). -/
def State.endTranslation (s : State) : State :=
  match s.mirrorImage with
  | none => s
  | some g =>
    let s := s.freshStart (taskDiffers g)
    let s := if s.chg.back then s.dropForeign g else s
    ({ s with chg := { s.chg with translating := false, back := false } } : State).chgPhase

/-- The entry into ACTIVE (R256, R263, R283, R328). -/
def State.enterActive (s : State) : State :=
  let s := (s.enter .active).dropActs
  if s.isPair then
    let s := s.takeLease
    (if s.saw.takeCause = 0 then s.freshStart fun _ => true else s).endTranslation
  else s.freshStart fun _ => true

/-- The entry into STANDBY: from SYNCING, or by a completed handover, whose member then follows the new active's records
(R260, R284, R336). -/
def State.enterStandby (s : State) : State :=
  let s := if s.dev = .active then (s.dropActs.wf F.SAW_HOVR_RESULT 2).wf F.SAW_STAT_MISS_HB 0 else s
  s.becomeStandby.enter .standby

/-- The transition due at the boundary of the present tick (R24, R31). -/
def State.enterDue (s : State) : State :=
  match s.due with
  | none => s
  | some .active => s.enterActive
  | some .standby => s.enterStandby
  | some .syncing => s.adoptPartner.enter .syncing
  | some .parked => s.enterParked
  | some .member => ((s.enter .member).wfb F.TRI_STAT_JOINING false).updTri fun t => { t with joinTick := none, joinMiss := false, joinFails := 0 }
  | some d => s.enter d

/-- A transition whose command belongs to boundary `b`: due where `b` is still to come, taken at once where it has begun. -/
def State.transitAt (s : State) (b : Nat) (d : DevState) : State :=
  if s.dev = .tripped then s
  else if s.n + 1 = b then s.schedule d
  else if s.n = b then (({ s with due := some d }.enterDue).alignTick).freezeOnce
  else s

/-! ### The end of a handover (R260) -/

/-- The active at boundary h + 1: it holds no lease, and follows the records of the new active from its own last one. -/
def State.relinquish (s : State) : State :=
  let s := (s.setRole .relinquished).judgeVersion
  s.updMirr fun m => { m with
    applied := m.lastSent.getD 0, rxDig := m.dig, rx := [], rxCopying := false, applying := none, rxLines := none }

/-- `GRANT_RECEIVE` (R244, R260, R263): of the present tick, before λ; an ABORT that lets the member drive on brings the freeze of
the tick that it had left out. -/
def execGrantReceive (f : Frame) (s : State) : Out :=
  .next (match s.pairErr f with
    | some e => s.countPairErr e
    | none =>
      if f.kind ≠ 0x11#8 ∨ f.payload.length ≠ 48 then s
      else if s.dev ≠ .active then (s.updSaw fun w => { w with anySeen := w.anySeen || s.dev == .ready }).learnEpoch f.epoch.toNat
      else if s.n < f.tick.toNat then s.updSaw fun w => { w with early := w.early ++ [(s.mono, f)] }
      else if f.tick.toNat < s.n ∨ s.reached 40 then s.inc F.PAIR_ERR_LATE
      else
        let t := s.countGrant f s.mono
        if s.handedOver ∧ !t.handedOver then t.beginFreeze else t)

/-- `HANDOVER_BOUNDARY` (R260): boundary h + 1; at h + 2 the member that has heard the new epoch becomes the standby. -/
def execHandoverBoundary (s : State) : Out :=
  .next (
    let b := s.saw.hovrTick + 1
    let c := s.saw.hbHandover + 1
    if s.dev = .active ∧ s.saw.role = .relinquished then
      (if s.saw.newEpoch then s.transitAt (b + 1) .standby else s)
    else if s.dev = .active ∧ s.saw.hovrLive ∧ (s.n = b ∨ s.n + 1 = b) then s.relinquish
    else if s.isPair ∧ s.dev = .standby ∧ 1 < c ∧ (s.n = c ∨ s.n + 1 = c) then
      let ok := s.mirr.applying.isNone && decide (c ≤ s.mirr.applied + 2) && s.saw.hbRelinq && s.epochFits
        && decide (s.rf F.HLTH_GRADE_GRADE = 0) && !s.rfb F.SEC_DBG_UNLOCKED
      if ok then (s.updSaw fun w => { w with takeCause := 3 }).transitAt c .active
      else
        let t := s.updSaw fun w => { w with hovrAbort := true, hbHandover := 0, claimEpoch := none }
        t.freezeOnce
    else s)

/-! ### The cold start (R314) -/

/-- `COLD_START_ENTER` (R23, R314, R328, R397). -/
def execColdStartEnter (s : State) : Out :=
  .next (
    let b := s.tri.start
    if !s.mayJoin || b == 0 || !(s.n == b || s.n + 1 == b) then s
    else ((s.updTri fun t => { t with start := 0 }).freshStart fun _ => true).transitAt b .member)

/-! ### The switch (R330 to R332) -/

/-- Task records carried over by TASK_ID, with their FIRST where the task changed (R148, R328). -/
def State.carryTasks (s : State) (old new : Image) : State :=
  let at' (id : Nat) : Option Nat := (List.range old.tasks.length).find? fun i => (old.tasks[i]?).any fun d => d.img.taskId == id
  let recs : Tab TaskRec := (new.tasks.zip (List.range new.tasks.length)).foldl (fun t e =>
    match at' e.1.img.taskId with
    | some i => if taskDiffers old e.1.img then t
      else (List.range e.1.img.shards).foldl (fun u k => tset {} u (taskKey e.2 k) (tget {} s.tasks (taskKey i k))) t
    | none => t) []
  ({ s with tasks := recs }).freshStart (taskDiffers old)

/-- The staged plan applied in place: memory migrated, the new program in force with the
components of its slot (R326, R330, R337, R342); a fence decided for the old image is decided again (R341). -/
def State.applyPlan (s : State) (p : Plan) : State :=
  let old := s.img
  let s := s.migrate old p.img
  let s := { s with
    img := p.img
    tgRx := s.tgRx.filter fun (e : Nat × TgRx) =>
      (old.telegrams.find? fun (d : TgDef) => !d.send && d.num == e.1) == (p.img.telegrams.find? fun (d : TgDef) => !d.send && d.num == e.1)
    sched := { s.sched with placed := p.placed, shed := p.shed, moved := [], newPlaced := none }
    boot := { s.boot with slot := p.slot, comps := p.comps, revoke := p.revoke }
    chg := { s.chg with fromImg := some old, plan := none, switch := none, stopEnd := some (s.n + p.z) } }
  s.chgPhase.carryTasks old p.img

/-- `SWITCH_TICK` (R22, R230, R330, R332): a standby stops for its restart (NOTES 40), an active or a member applies the plan; in any
other state the switch is void. -/
def execSwitchTick (s : State) : Out :=
  .next (match s.chg.switch, s.chg.plan with
    | some t, some p =>
      if t ≠ s.n then s
      else if !s.stopsNow then ({ s with chg := { s.chg with switch := none } } : State).chgPhase
      else if s.dev = .standby then
        let s := (s.enter .stopped).dropActs
        (({ s.setRole .none with chg := { s.chg with switch := none } } : State).chgPhase.alignTick).freezeOnce
      else
        let s := s.applyWrites
        let s := s.releaseAll 3 false s.releaseStr
        ((((s.enter .stopped).dropActs).applyPlan p).alignTick).freezeOnce
    | _, _ => s)

/-- `SWITCH_STOP_END` (R31, R332): at boundary s + Z. -/
def execSwitchStopEnd (s : State) : Out :=
  .next (if s.dev = .stopped ∧ s.chg.stopEnd = some s.n then ((s.enter .ready).alignTick).freezeOnce else s)

/-- `SWITCH_RESUME` (R23, R67, R332, R397): at boundary s + Z + 1. -/
def execSwitchResume (s : State) : Out :=
  .next (if !s.resumesNow then s
    else
      let s := ({ s with chg := { s.chg with stopEnd := none } } : State).chgPhase
      ((s.enter (if s.isTriad then .member else .active)).alignTick).freezeOnce)

end Sys2Proof.Machine
end

