-- ==== Sys2Proof/Machine/Boot.lean ====
section
/-!
DEFINITION. Resets and the boot chain: what each reset source clears and keeps (R8, R68, R455 to R457, R468), the slots tried in
order (R384, R470, R479), what a successful boot leaves at the entry into READY (R366 to R370, R469, R482), REFUSED (R386); the
commands that reset the device (R336, R350, R451, R455 to R457, R464, R467, R470).
-/
namespace Sys2Proof.Machine

/-! ### What a reset clears and keeps (R8, R68, R456) -/

/-- A register of PD0 (R8): of the SYS block `SYS_STATE`, `SYS_PD`, `SYS_RST` and `SYS_PWR` (NOTES 124). -/
def inPd0 (a : Nat) : Bool :=
  match findBlock a with
  | some (b, _) => b.pd0 && (b.base != 0x40000000 || a == 0x40000010 || a == 0x40000020 || a == 0x40000024)
  | none => false

/-- The addresses of the LOCK bits of the blocks. -/
def lockAddrs : List Nat := (regBlocks.filter (·.lock)).flatMap fun b => (List.range b.count).map fun i => b.base + b.stride * i

/-- The LOCK bit of every block set (R7). -/
def State.lockAll (s : State) : State := lockAddrs.foldl (fun t a => t.setReg a (putBits (t.reg a) 31 1 1)) s

/-- The memory after a reset (R68): nothing where PD7 was without power, else all but the banks, the variable space and the state
object table. -/
def State.resetMem (s : State) (cause : Nat) : List Host.Cell :=
  if cause = 1 ∨ cause = 4 then [] else tclear s.mem fun a => decide (bankL ≤ a ∧ a < jrnlBase)

/-- The NVM controller after a reset: what the chips are, and an erase that retain still needs (R460). -/
def State.resetRet (s : State) : Ret :=
  { norOk := s.ret.norOk, octal := s.ret.octal, norLog2 := s.ret.norLog2, mramLog2 := s.ret.mramLog2
    fallErased := s.ret.fallErased
    ops := s.ret.ops.filter fun (p : NvmOp) => p.erase != 0 && decide (0x7000000 ≤ p.addr) }

/-- The panel driver after a reset: the registers at their Reset column (R8), the stress counts and the always-on area as they
stand but after a power-on reset (R512, R516); a PARKED wake keeps all. -/
def State.resetPan (s : State) (cause : Nat) : Pan :=
  if cause = 1 then {}
  else if cause = 4 then s.pan
  else { aonShown := s.pan.aonShown, aonFull := s.pan.aonFull, stress := s.pan.stress }

/-- A reset by source `cause` (R456): every register at its Reset column, PD0 and the rack chain as the source says. The instant at
which a monitor last acted stands as far back as it did (R350). -/
def State.coreReset (s : State) (cause : Nat) : State :=
  { State.reset with
    pending := s.pending, tx := s.tx, rdata := s.rdata, rbytes := s.rbytes, free := s.free
    regs := if cause = 4 then s.regs.filter (fun (e : Nat × Word) => inPd0 e.1) else []
    mem := s.resetMem cause
    nor := s.nor, mram := s.mram, otp := { s.otp with old := none }, mario := s.mario
    last := if cause = 1 then none else if s.dev = .booting then s.last else some s.dev
    transTick := if cause = 1 then 0 else if s.dev = .booting then s.transTick else s.tick.setWidth 16
    tripTime := if cause = 4 then s.tripTime else 0
    pwd := if cause = 4 then s.pwd else {}
    rack := { s.rack with latched := none, spareWoken := false, dup := false }
    svcMode := if cause = 4 then s.svcMode else .none
    ret := s.resetRet
    pan := s.resetPan cause
    field := { s.field with heardAt := s.field.heardAt - (s.mono : Int), cal := none }
    can0 := if cause = 4 then s.can0 else {}
    can1 := if cause = 4 then s.can1 else {}
    jrnlNext := if cause = 1 ∨ cause = 4 then 0 else s.jrnlNext
    hlth := { monAt := s.hlth.monAt.map fun t => t - s.mono }
    boot := { s.boot with
      held := true, waiting := false, granted := none, window := true, comps := [], revoke := 0, slot := 0, left := []
      cold := s.boot.cold || cause == 1 } }

/-- `SYS_RST`, WOKEN (R468, NOTES 125), the level of PWR_FAIL_N (R472), the domains after a wake, and the rack chain's own registers (R456, R464, R472). -/
def State.resetRegs (s : State) (cause count : Nat) (head woken fail : Bool) : State :=
  let s := (s.wf F.SYS_RST_CAUSE cause).wf F.SYS_RST_COUNT (if cause = 1 then 0 else satAdd 16 count 1)
  let s := (s.wfb F.SYS_PWR_WOKEN (cause != 1 && woken)).wfb F.SYS_PWR_PWR_FAIL fail
  let s := if cause = 4 then s.setReg pdAddr (putBits (putBits (s.reg pdAddr) 0 12 0xFFF) 16 12 0xFFF) else s
  ((s.wf F.RACK_STAT_CHAIN (s.rack.addr.getD 64)).wf F.RACK_STAT_STRAP s.rack.strap).wfb F.RACK_STAT_HEAD head

/-- The NOR flash discovered (R474, R496). -/
def State.nvmFound (s : State) : State :=
  let s := (s.wfb F.NVM_STAT_CS0_OK s.ret.norOk).wfb F.NVM_STAT_OCTAL s.ret.octal
  ((s.wf F.NVM_SIZE_CS0_LOG2 s.ret.norLog2).wf F.NVM_SIZE_CS1_LOG2 s.ret.mramLog2).slotRegs.nvmBusy

/-! ### Trying a slot (R384, R470, R479) -/

/-- What the tried slot's components are (R337, R389, R391): kind, key slot, SV, hash; the key slots used in this boot (R398). -/
def State.noteComps (s : State) (k : Nat) : State :=
  let l := s.bootComps k
  let used := l.foldl (fun m c => m ||| 2 ^ (c.2.1 % 4)) 0
  let s : State := { s with boot := { s.boot with comps := l, revoke := Config.manifestRevoke (s.compOf k 4).bytes } }
  s.wf F.SEC_KEYS_USED (s.rf F.SEC_KEYS_USED ||| used)

/-- Which NVM the slot's image keeps retain in (R458, R476). -/
def State.noteClass (s : State) (k : Nat) : State :=
  let m := (s.slotImage k).any fun g => g.retainMram && s.cs1Ok
  (s.wfb F.SYS_PWR_MRAM m).wfb F.NVM_STAT_CS1_OK m

/-- Whether every comparator and duplicate channel answers the 64 injected comparisons and the matching one of a boot rightly
(R170); what a comparator reports is a free value, one for every boot (NOTES 46). -/
def comparatorsOk (n : Nat) : Bool :=
  (List.range 6).all fun t => [false, true].all fun d =>
    (List.range 64).all (fun k => !Config.bootCompare n t d k) && Config.bootCompare n t d 64

/-- What a boot from slot `k` comes to: a reason of R384, or the image, its placement and the shed tasks. -/
def State.trySlot (s : State) (k : Nat) : Nat × Option (Image × List Placed × List Nat) :=
  let r := s.slotReason k
  if r ≠ 0 then (r, none)
  else match s.slotImage k with
    | none => (8, none)
    | some g =>
      let lv := Config.manifestAzwin (s.compOf k 4).bytes
      if !s.levelsOk k g then (7, none)
      else match s.admitImage g s.recMarks lv.1 lv.2 with
        | none => (8, none)
        | some x =>
          if s.boot.trip.isSome ∨ s.boot.overrun then (0xB, none)
          else if !comparatorsOk s.boot.cmp then (0xA, none) else (0, some x)

/-- The load report that a boot from slot `k` leaves: none of a slot whose image is not reached (R114). -/
def State.slotReport (s : State) (k : Nat) : List LoadEnt :=
  if s.slotReason k ≠ 0 then s.loadReport
  else match s.slotImage k with
    | none => []
    | some g =>
      let lv := Config.manifestAzwin (s.compOf k 4).bytes
      if s.levelsOk k g then s.makeReport g s.recMarks lv.1 lv.2 else s.loadReport

/-- The reason of a slot recorded. -/
def State.noteReason (s : State) (k r : Nat) : State := s.wf (if k = 0 then F.SEC_BOOT_REASON_A else F.SEC_BOOT_REASON_B) r

/-- The slots tried in order (R384); a step over its bound ends the boot (R470). -/
def State.tryAll (s : State) : List Nat → State × Option (Nat × Image × List Placed × List Nat)
  | [] => (s, none)
  | k :: t =>
    let s := (s.noteClass k).noteComps k
    let x := s.trySlot k
    let s := { s.noteReason k x.1 with loadReport := s.slotReport k }
    match x.2 with
    | some y => (s, some (k, y))
    | none => if s.boot.overrun && x.1 == 0xB then (s, none) else s.tryAll t

/-! ### REFUSED (R22, R386) -/

/-- The end of BOOTING in REFUSED, where no image says more: context 63 written, every entry and every block locked (R370, R378; NOTES 161). -/
def State.lockRefused (s : State) (rom : Bool) : State :=
  let s := s.setCtx 63 (if rom then (0, 0, 0) else s.debugMasks {})
  (((List.range 56).foldl (fun t n => t.wfb (F.GATE_CTX_X_LOCK n) true) s).lockAll)

/-- The boot ends in REFUSED; `rom`: no SF runs. The device block comes out of retain all the same (R359, R386, R456). -/
def State.refuseBoot (s : State) (rom : Bool) : State :=
  let s := s.restoreBlock.lockRefused rom
  let s : State := { s with
    boot := { s.boot with waiting := false }, dev := .refused, last := some .booting, transTick := 0, phyRst := false }
  s.wfb F.SEC_BOOT_ROM_ONLY rom

/-- Both slots refused for one reason. -/
def State.refuseBoth (s : State) (r : Nat) (rom : Bool) : State := ((s.noteReason 0 r).noteReason 1 r).refuseBoot rom

/-- Whether the SF of slot `k` runs: steps 2 and 3 of R384. -/
def State.sfRuns (s : State) (k : Nat) : Bool := s.dirOk k && s.compCheck (s.compOf k 0) 1 == 0

/-- Whether the SF of the last candidate runs, which then ends the boot. -/
def State.sfLast (s : State) (order : List Nat) : Bool := order.getLast?.any s.sfRuns

/-- Every candidate has failed: a slot that is none has reason 1; without a running SF the boot ROM answers. -/
def State.refuseSlots (s : State) (order : List Nat) : State :=
  let s := ([0, 1].filter fun k => !order.contains k).foldl (fun t k => t.noteReason k 1) s
  s.refuseBoot (!s.sfLast order)

/-! ### READY (R169, R366, R469, R470, R482) -/

/-- Registers, image and placement of the slot that boots. -/
def State.takeImage (s : State) (k : Nat) (g : Image) (pl : List Placed) (shed : List Nat) : State :=
  let marks := s.recMarks
  let s := s.loadRegs g
  let s := (s.wf F.SEQ_FENCE_FENCED marks).wf F.SEQ_SHED_COUNT shed.length
  let s := s.wf F.SEQ_SHED_FIRST (shed.headD (s.rf F.SEQ_SHED_FIRST))
  let from' := if s.candidateSlot (1 - k) then (s.slotImage (1 - k)).filter fun o => o.hash == g.prev else none
  { s.wf F.SEC_BOOT_SLOT k with
    img := g
    tagRuns := tagsOf g s.ranges
    sched := { s.sched with placed := pl, shed := shed }
    boot := { s.boot with slot := k }
    chg := { s.chg with fromImg := from' } }

/-- Domains that this image leaves unused, and fenced bays, switched off (R176, R469). -/
def State.setDomains (s : State) : State :=
  let off (d : Nat) : Bool :=
    if d = 8 ∨ d = 9 ∨ d = 11 then s.pdOffOk d else decide (4 ≤ d ∧ d ≤ 6) && nbit (s.rf F.SEQ_FENCE_FENCED) (d - 4)
  (((span 4 8).filter off).foldl State.pdOff s)

/-- `STRs_STAT` (R240): r_end and the largest c_len over the residues. -/
def State.strStat (s : State) (k : Nat) : State :=
  if !s.rfb (F.STR_CTRL_EN k) then s
  else
    let c := (List.range 128).foldl (fun m n => max m (s.cueLen k n)) 0
    (s.wf (F.STR_STAT_REPLY_END k) (cdiv (100 * s.rEnd k) s.tb)).wf (F.STR_STAT_CUE_LEN k) (cdiv (100 * c * s.byteTime k) s.tb)

/-- What the blocks hold as they start (R69, R177, R240, R429). -/
def State.startBlocks (s : State) : State :=
  let s := (List.range 16).foldl State.strStat s
  let s := (s.wfb F.IMG_CTRL_FREEZE_EN true).wfb F.SEQ_CTRL_RUN true
  let s := s.updSta 2048 fun x => { x with
    typ := 0x800#32, fw := BitVec.ofNat 32 (((s.boot.comps.find? fun c => c.1 == 4).map fun c => c.2.2.1).getD 0), serial := s.otp.id
    misfit := b2n !(Config.manifestTested (s.compOf s.boot.slot 4).bytes (s.combination s.boot.slot)) }
  if s.fieldOn then s.fieldConfig.fieldSafeValues else s

/-- The place of this device among its peers (R181, R262, R294): its address latched at the entry into READY. -/
def State.takePlace (s : State) : State :=
  let s := s.latchAddr
  let own := s.ownAddr
  match s.svcMode with
  | .pair =>
    let b := (s.img.members.filter fun a => a != own).any fun a => decide (a < own)
    { (s.wfb F.SAW_STAT_END_B b).setRole .ready with squelch := true }
  | .triad =>
    let i := s.img.members.findIdx (fun a => a == own) + 1
    let ok := s.addrOk && decide (i ≤ s.img.members.length)
    let s := (s.wf F.TRI_CFG_MEMBER (if ok then i else 0)).wf F.TRI_STAT_NBLK s.nblk
    let s := if s.addrOk && !ok then s.wf F.RACK_STAT_REASON 4 else s
    { s with addrOk := ok, squelch := false, tri := { s.tri with idx := if ok then i else 0 } }
  | _ => { s with squelch := false }

/-- The entry into READY of a boot, with tick 0 and its freeze; the boot's comparator tests count as the last ones of every
twin (R25, R30, R37, R168, R348, R464, R524; NOTES 149). -/
def State.enterReady (s : State) : State :=
  let s := s.takePlace
  let s := (s.enter .ready).wfb F.TUMB_STAT_ARMED true
  let s : State := { s.startTicks with
    transTick := 0, tripN := true, phyRst := false
    sched := { s.sched with injAt := (List.range 6).map fun t => (t, some s.mono) }
    boot := { s.boot with waiting := false, cold := false, overrun := false } }
  s.beginFreeze

/-- A boot that has passed every step (R384, R470). -/
def State.finishBoot (s : State) (k : Nat) (g : Image) (pl : List Placed) (shed : List Nat) : State :=
  let s := s.takeImage k g pl shed
  let s := (((s.writeKeys g).writeDirectory g).createObjects g).restoreAll g
  (((s.writeContexts g).setDomains.startBlocks).lockAll).enterReady

/-! ### Tokens (R395, R396) -/

/-- The masks of a token. -/
def tokenMasks (t : List Byte) : Nat × Nat := (beAt t 0x30 2, beAt t 0x32 2)

/-- The token's form and every check of R396 but the log entry. -/
def State.tokenOk (s : State) (t : List Byte) : Bool :=
  let pub := slice t 0x40 97
  let m := tokenMasks t
  let k := beAt t 6 1
  t.length == 260 && beAt t 0 4 == 0x444B4E55 && beAt t 4 2 == 1 && beAt t 7 1 == 0 && (slice t 0x34 12).all (· == 0) &&
  (slice t 0xA1 3).all (· == 0) && beAt t 8 8 == s.otp.id.toNat && slice t 0x10 32 == s.boot.nonce && decide (k ≤ 3) &&
  (tget {} s.otp.keys k).hash == sha pub && s.keyServes k 2 &&
  ecdsaVerify pub (sha384 (t.take 0xA4)) (slice t 0xA4 96) && (m.1 ||| m.2) &&& 0xE001 == 0

/-- A token refused: counted, logged with a code that the spec does not name (NOTES 47). -/
def State.tokenRefuse (s : State) (t : List Byte) : State :=
  let (v, s) := s.draw
  let m := tokenMasks t
  (s.inc F.SEC_DBG_REFUSED).log 0x50 (1 + v % 255) selfActor (m.1 + 65536 * m.2) none (some t)

/-- A token accepted, its entry in the log first (R396, R397). -/
def State.tokenTake (s : State) (t : List Byte) : State :=
  let m := tokenMasks t
  let s := s.log 0x50 0 selfActor (m.1 + 65536 * m.2) none (some t)
  let s : State := { s with boot := { s.boot with granted := some m } }
  (s.wfb F.SEC_DBG_UNLOCKED true).wf F.SEC_DBG_READ_MASK m.1

/-- A token judged: it ends the window (R396). -/
def State.judgeToken (s : State) (t : List Byte) : State :=
  let s := if s.tokenOk t then s.tokenTake t else s.tokenRefuse t
  { s with boot := { s.boot with window := false, token := none } }

/-- The token that is already present before entry 63 is locked, in SEALED (R395). -/
def State.presentToken (s : State) : State :=
  match s.boot.token with
  | some t => if s.boot.life = 2 ∧ s.boot.window then s.judgeToken t else s
  | none => s

/-! ### The boot (R384) -/

/-- Whether the boot waits for a token before it locks entry 63 (R395). -/
def State.tokenWaits (s : State) : Bool := s.boot.life == 2 && s.boot.hold && s.boot.window && s.boot.granted.isNone

/-- The boot waits, with the slots that have not failed (R384). -/
def State.awaitToken (s : State) (left : List Nat) : State :=
  { s with boot := { s.boot with waiting := true, left := left } }

/-- The slots `order` tried; a boot whose SF runs takes a token, or waits for one, before it ends (R384, R395). -/
def State.bootGo (s : State) (order : List Nat) : State :=
  match s.tryAll order with
  | (t, some (k, g, pl, shed)) =>
    let t := t.presentToken
    if t.tokenWaits then t.awaitToken (order.dropWhile (· != k)) else t.finishBoot k g pl shed
  | (t, none) =>
    let all := t.slotOrder t.boot.named
    let t := if t.sfLast all then t.presentToken else t
    if t.sfLast all && t.tokenWaits && !t.boot.overrun then t.awaitToken [] else t.refuseSlots all

/-- The boot chain, run or, once a wait for a token has ended, gone on with: a slot that has failed is not tried again. -/
def State.bootRun (s : State) : State :=
  if s.boot.life ≠ 1 ∧ s.boot.life ≠ 2 ∨ !s.otp.unwraps then s.refuseBoth 9 true
  else if s.boot.secFault then s.refuseBoth 9 (!s.boot.waiting)
  else if !s.ret.norOk then s.refuseBoth 1 true
  else s.bootGo (if s.boot.waiting then s.boot.left else s.slotOrder s.boot.named)

/-- A fresh nonce (R395). -/
def State.newNonce (s : State) : State :=
  let (v, s) := s.drawRandom
  { s with boot := { s.boot with nonce := beBytes 32 v.toNat, token := none } }

/-- `SEC_STAT` as the security engine starts: a fault of its before stands, a key that does not unwrap is one (R390, R398). -/
def State.secStart (s : State) (err : Nat) : State :=
  let err := if err = 0 ∧ !s.otp.unwraps then 3 else err
  (s.wfb F.SEC_STAT_KEY_OK (s.otp.unwraps && err != 3)).wf F.SEC_STAT_ERR err

/-- The reset has ended and the device boots (R384, R390, R395, R456); a nonce drawn at an earlier entry into BOOTING stands. -/
def State.bootStart (s : State) (cause : Nat) (named : Option Nat) : State :=
  let count := s.rf F.SYS_RST_COUNT
  let head := s.rfb F.RACK_STAT_HEAD
  let woken := s.rfb F.SYS_PWR_WOKEN
  let fail := s.rfb F.SYS_PWR_PWR_FAIL
  let err := if s.boot.secFault then s.rf F.SEC_STAT_ERR else 0
  let s := ((s.coreReset cause).resetRegs cause count head woken fail).nvmFound
  let s := if s.boot.nonce = [] then s.newNonce else s
  let s : State := { s with
    boot := { s.boot with por := false, held := false, named := named, life := s.otp.life, cmp := s.free }, free := s.free + 1 }
  let s := (s.secStart err).wfb F.SEC_DBG_HOLD s.boot.hold
  let s := if s.boot.life = 2 then ((s.setReg 0x40030040 0xAAAAAAAA#32).setReg 0x40030044 0xAAAAAAAA#32).setReg 0x40030048 0xAAAAAAAA#32 else s
  s.findLog.bootRun

/-! ### Resets -/

/-- The device stops for a reset (R457): transmitters squelched, TRIP_N low, engines stopped, a retain flush begun. -/
def State.haltForReset (s : State) : State :=
  if s.dev ∈ [.booting, .parked, .refused] then s
  else
    let s := s.stopWork
    ({ s.wfb F.TICK_STAT_RUNNING false with squelch := true, tripN := false } : State).startFlush

/-- A reset whose flush is done: a boot, with nothing left of what an earlier one announced. -/
def State.resetNow (s : State) (cause : Nat) (named : Option Nat) : State :=
  let s := s.haltForReset.endFlush
  ({ s with boot := { s.boot with hold := false, overrun := false, secFault := false, trip := none, nonce := [], token := none } } : State).bootStart
    cause named

/-- A burn that power loss cuts short: each counter stands somewhere between its old and its new value, each REVOKE byte at one of
the two (R388); how far it came is a free value (NOTES 160). -/
def State.cutBurn (s : State) : State :=
  match s.otp.old with
  | none => s
  | some (ctr, keys) =>
    let (v, s) := s.draw
    let at' (c : Nat) : Nat := tget 0 ctr c + v / 129 ^ c % (tget 0 s.otp.ctr c - tget 0 ctr c + 1)
    let back (k : Nat) (x : KeySlot) : KeySlot := if nbit (v / 129 ^ 4) k then x else { x with revoked := (tget {} keys k).revoked }
    { s with otp := { s.otp with
      ctr := (List.range 4).foldl (fun t c => tset 0 t c (at' c)) s.otp.ctr
      keys := (List.range 4).foldl (fun t k => tupd {} t k (back k)) s.otp.keys, old := none } }

/-- The power-on reset asserted (R455, R466): nothing of the device runs, and the chain address is gone. -/
def State.powerOff (s : State) : State :=
  let s := s.cutBurn.coreReset 1
  { s with boot := { por := true, held := true, rstN := s.boot.rstN }, rack := { strap := s.rack.strap } }

/-- `POWER_ON_RESET` (R455, R471): released; with RESET_N low the device stays in reset. -/
def execPowerOnReset (s : State) : Out :=
  .next (
    if !s.boot.por then s
    else if s.boot.rstN then ({ s with boot := { s.boot with por := false } } : State).newNonce
    else s.bootStart 1 none)

/-- `RESET_N_ASSERT` (R457): the device is in BOOTING, with a nonce of its own (NOTES 107). -/
def execResetNAssert (s : State) : Out :=
  .next (
    if s.boot.rstN then s
    else if s.boot.por then { s with boot := { s.boot with rstN := true } }
    else
      let s := s.haltForReset
      let s := (if s.dev = .booting then s else s.enter .booting).newNonce
      { s with boot := { s.boot with
        rstN := true, held := true, waiting := false, hold := false, overrun := false, secFault := false, trip := none } })

/-- `RESET_N_RELEASE` (R457, R471): the flush is completed first. -/
def execResetNRelease (s : State) : Out :=
  .next (
    if !s.boot.rstN then s
    else
      let s : State := { s with boot := { s.boot with rstN := false } }
      if s.boot.por then s else s.endFlush.bootStart 2 none)

/-- `TAP_SYSRESET` (R456): in OPEN only. -/
def execTapSysreset (s : State) : Out :=
  .next (if s.boot.held || s.boot.life != 1 then s else s.resetNow 5 none)

/-- `BOOT_STEP_OVERRUN` (R25, R470): in a boot that waits, or in the boot that follows the reset that holds the device. -/
def execBootStepOverrun (s : State) : Out :=
  .next (
    if s.dev ≠ .booting then s
    else
      let s : State := { s with boot := { s.boot with overrun := true } }
      if s.boot.waiting then s.bootRun else s)

/-- `SUPPLY_MONITOR` (R455, R529, R537): a rail `ns` outside what its monitor watches; the monitor acts from 2 µs on. VDD_AON
and VDD_IO reset the device at once; any other rail trips it and resets it after 1 ms, and is not watched in PARKED. -/
def execSupplyMonitor (rail : Rail) (ns : Nat) (s : State) : Out :=
  .next (
    if s.boot.por ∨ ns < 2000 then s
    else if rail = .aon ∨ rail = .io then s.powerOff
    else if s.dev = .parked then s
    else
      let s := ({ s with hlth := { s.hlth with monAt := some (s.mono : Int) } } : State).trip 9
      if 1000000 ≤ ns then s.powerOff else s)

/-! ### Wakes and the rack chain (R451, R464, R467, R468) -/

/-- A wake from PARKED by source `src` (R468). -/
def State.wake (s : State) (src : Nat) : State :=
  (((s.wfb F.SYS_PWR_WOKEN true).wf F.SYS_PWR_WAKE_SRC src)).resetNow 4 none

/-- `CAN_WAKE` (R451, R468): a frame of the port still on its bus completes first; in PARKED the device wakes at once
(NOTES 45). -/
def execCanWake (p : Fin 2) (ev : WakeEvent) (s : State) : Out :=
  .next (
    if !s.canWakes p ev then s
    else if s.dev = .parked then (s.canAwake p).wake (p.val + 1)
    else if !(s.can p).stb then s.updCan p fun c => { c with wakeDue := true }
    else s.canAwake p)

/-- `RACK_FRAME_RECEIVE` (R463, R464, R467, R473); one that comes before a power-on reset is released stands for those that come
during its boot (NOTES 153). -/
def execRackFrameReceive (w : BitVec 24) (s : State) : Out :=
  .next (
    if !rackOk w then s.rackBad
    else
      let s := s.rackTake w
      if !s.rackActs then s
      else if s.dev = .parked ∧ s.rack.wake then s.wake 3
      else s.rackPark)

/-! ### Restarts (R336, R350, R420) -/

/-- The recorded cause has cleared (R350). -/
def State.causeCleared (s : State) : Bool :=
  let c := if s.dev = .tripped then s.rf F.TUMB_STAT_CAUSE else s.boot.trip.getD 0
  if c = 8 then s.fctl.ok
  else if c = 9 ∨ c = 0xA then s.hlth.monAt.all fun t => decide (t + 100000000 ≤ (s.mono : Int))
  else true

/-- `RESTART` (R350, R420): in TRIPPED and REFUSED its outcome stands in `TUMB_RESTART`. -/
def execRestart (s : State) : Out :=
  .next (s.serve 0x22 fun r s =>
    let k := beAt r.body 0 1
    let own : Bool := decide (s.dev = .tripped ∨ s.dev = .refused)
    let s := if !own then (if s.dev = .stopped then s else s.wf F.TUMB_RESTART_RESULT 2)
      else if (s.authorise r).1 ≠ 0 then s.wf F.TUMB_RESTART_RESULT 4 else s
    s.guarded r 0x30 k fun s =>
      if r.body.length ≠ 1 then s.refuse r 0x30 k 2 0
      else if k ≠ 0xFF ∧ 2 ≤ k then s.refuse r 0x30 k 9 0
      else if own ∧ !s.causeCleared then (s.wf F.TUMB_RESTART_RESULT 3).refuse r 0x30 k 7 3
      else
        let s := if own then s.wf F.TUMB_RESTART_RESULT 1 else s
        ((s.log 0x30 0 r.actor k none none).answer r 0).resetNow 3 (if k = 0xFF then none else some k))

/-- `CHANGE_ROLLBACK` (R336, R340, R478): the commit word of the slot in use is cleared and the device restarts into the other
slot, which must hold the FROM image. -/
def execChangeRollback (s : State) : Out :=
  .next (s.serveChange 3 0x13 fun r s =>
    let k := 1 - s.boot.slot
    if s.chgBusy then s.chgRefuse r 0x13 0xB
    else if !s.candidateSlot k || !(s.slotImage k).any fun o => o.hash == s.img.prev then s.chgRefuse r 0x13 0xA
    else
      let s := ((s.log 0x13 0 r.actor s.boot.slot none none).wf F.SYS_CHG_REASON 0).answer r 0xA
      (s.norWrite (slotBase s.boot.slot + 0xFFC) [0, 0, 0, 0]).resetNow 3 (some k))

end Sys2Proof.Machine
end

