-- ==== Sys2Proof/Machine/Control.lean ====
section
/-!
DEFINITION. Control flow (R102 to R105) and the ends of tasks and records (R142).
-/
namespace Sys2Proof.Machine

/-- A transfer to a word: every loop whose body it leaves is left (R103, R104). -/
def X.goto (x : X) (pc : Nat) : X :=
  { x with
    nxt := pc
    a := x.a.updFrame fun f => { f with loops := f.loops.dropWhile fun l => !decide (l.first ≤ pc ∧ pc < l.last) } }

/-- `BR` (R102, R103). -/
def execBr (e : Fin 12) (off : BitVec 16) (s : State) : Out :=
  azwin (checkIf 0x05 (off != 0)) e 1 (fun x => x.goto (x.a.pc + off.toNat)) s

/-- `BRT` (R102, R103). -/
def execBrt (e : Fin 12) (c : Src) (off : BitVec 16) (s : State) : Out :=
  azwin (opsCheck false [c] none <|> checkIf 0x05 (off != 0)) e (1 + c.words) (fun x =>
    let p := x.rd c
    if p.1 ≠ 0 then p.2.goto (x.a.pc + off.toNat) else p.2) s

/-- `BRF` (R102, R103). -/
def execBrf (e : Fin 12) (c : Src) (off : BitVec 16) (s : State) : Out :=
  azwin (opsCheck false [c] none <|> checkIf 0x05 (off != 0)) e (1 + c.words) (fun x =>
    let p := x.rd c
    if p.1 = 0 then p.2.goto (x.a.pc + off.toNat) else p.2) s

/-- `LOOP` (R104): the count read as 32 bits, min(count, B) iterations, the counter set to the first index. -/
def execLoop (e : Fin 12) (ctr : Fin 64) (count : Src) (bound n : BitVec 16) (s : State) : Out :=
  azwin (opsCheck true [count] none <|> checkIf 0x06 (bound != 0 && n != 0)) e (2 + count.words) (fun x =>
    let p := x.rd count
    let c := p.1.toNat % 2 ^ 32
    let k := min c bound.toNat
    let y := if bound.toNat < c then p.2.fault 7 else p.2
    let y := y.setV ctr 0
    if k = 0 then { y with nxt := y.nxt + n.toNat }
    else { y with a := y.a.updFrame fun f => { f with loops :=
      { first := y.nxt, last := y.nxt + n.toNat, idx := 0, cnt := k, ctr := ctr } :: f.loops } }) s

/-- `CALL` (R88, R105): a new frame with its arguments. -/
def execCall (e : Fin 12) (vd va : Fin 64) (fn : Byte) (s : State) : Out :=
  azwin none e 1 (fun x =>
    let g := x.t.funcs.getD fn.toNat ⟨0, 0, 0⟩
    let v : Tab Dword := (List.range g.nargs).foldl (fun t i => tset 0 t i (x.v (va + i))) []
    { x with
      nxt := g.entry
      a := { x.a with frames := { v := v, func := fn.toNat, ret := x.nxt, d := vd } :: x.a.frames } }) s

/-- `RET` (R105, R142): the results copied into the caller, or the end of the task or of the record. -/
def execRet (e : Fin 12) (vr : Fin 64) (s : State) : Out :=
  azwin none e 1 (fun x =>
    match x.a.frames with
    | f :: g :: t =>
      let n := (x.t.funcs.getD f.func ⟨0, 0, 0⟩).nres
      let v : Tab Dword := (List.range n).foldl (fun w i => tset 0 w (f.d + i) (tget 0 f.v (vr + i))) g.v
      { x with nxt := f.ret, a := { x.a with frames := { g with v := v } :: t } }
    | _ => x.endPart false (x.s.twinMode e)) s

/-- `END` (R105, R142). -/
def execEndTask (e : Fin 12) (s : State) : Out := azwin none e 1 (fun x => x.endPart true (x.s.twinMode e)) s

/-- `RIDX` (R107, R140). -/
def execRidx (e : Fin 12) (d : Dst) (s : State) : Out :=
  azwin (opsCheck false [] (some d)) e (1 + d.words) (fun x => x.wr d (BitVec.ofNat 64 x.a.rcd)) s

/-- `RNXT` (R107, R142). -/
def execRnxt (e : Fin 12) (s : State) : Out :=
  azwin none e 1 (fun x => if x.a.part = .record then x.endPart false (x.s.twinMode e) else x) s

/-- One fold of a reduction (R145). COUNT judges A by its 64 raw bits (NOTES 136). -/
def foldV (op : RedOp) (k : K) (acc a : Dword) : Dword :=
  match op with
  | .sum => addV k acc a
  | .min => minV k acc a
  | .max => maxV k acc a
  | .count => if a ≠ 0 then acc + 1 else acc

/-- `ARED` (R107, R145). -/
def execAred (e : Fin 12) (n : Fin 16) (a : Src) (op : RedOp) (k : K) (s : State) : Out :=
  azwin (opsCheck k.narrow [a] none) e (1 + a.words) (fun x =>
    let p := x.rd a
    let acc := (aget? n.val p.2.a.redu).getD (redIdentity op k)
    { p.2 with a := { p.2.a with redu := aput n.val (foldV op k acc p.1) p.2.a.redu } }) s

end Sys2Proof.Machine
end

