-- ==== Sys2Proof/Machine/Marionette.lean ====
section
/-!
DEFINITION. The marionettes of the strings: forwarding (R183 to R185), roll-call (R203, R204), parameters (R211 to R215),
the tick estimate (R216), samples and replies (R217, R222), cues and releases (R225, R226, R230), outputs (R227, R228,
R232) and triad object controllers (R311 to R313). Marionette m sits at string m / 128 mod 16; marionettes 2,048 and 4,096
apart are the paths of one triad object controller.
-/
namespace Sys2Proof.Machine

/-! ### Layout and parameters -/

/-- Its layout runs. -/
def Mario.runs (x : Mario) : List RunDef := x.ty.elim [] fun t => t.runs.map fun w => RunDef.ofWord w.toNat

/-- A parameter object, if written. -/
def Mario.obj (x : Mario) (k : Nat) : Option (List Byte) := aget? k x.objs

/-- A big-endian field of a parameter object; 0 if the object is not written. -/
def Mario.par (x : Mario) (k o n : Nat) : Nat := beAt ((x.obj k).getD []) o n

/-- Each run with whether it is due in tick n (R199). -/
def Mario.dueRuns (x : Mario) (n : Nat) : List (RunDef × Bool) :=
  (List.range x.runs.length).filterMap fun i =>
    (x.runs[i]?).map fun r => (r, n % 2 ^ x.par 6 (2 * i) 1 == x.par 6 (2 * i + 1) 1)

/-- The length of a section in tick n (R193, R199). -/
def Mario.secLen (x : Mario) (n : Nat) : Nat :=
  (x.dueRuns n).foldl (fun m r => if r.2 && r.1.dir == 2 then m + runLen r.1.typ r.1.count else m) 0

/-- Output values after data of the runs marked (R199, R227). -/
def mergeOut : List (RunDef × Bool) → List Word → List Byte → List Word
  | [], _, _ => []
  | (r, due) :: t, old, d =>
    if r.dir ≠ 2 then mergeOut t old d
    else if due then unpackRun r.typ r.count d ++ mergeOut t (old.drop r.count) (d.drop (runLen r.typ r.count))
    else old.take r.count ++ mergeOut t (old.drop r.count) d

/-- The SAFE values of object 0x0007 (R212). -/
def Mario.safeOut (x : Mario) : List Word :=
  mergeOut (x.runs.map fun r => (r, true)) x.out ((x.obj 7).getD [])

/-- The outputs at their SAFE values (R228). -/
def Mario.goSafe (x : Mario) : Mario := { x with out := x.safeOut, safe := true, holding := false, rejoin := true, inhSeen := false }

/-- DISCARD: the power-up safe values, UNBOUND (R211, R215, R225). -/
def Mario.discard (x : Mario) : Mario :=
  { x with
    st := .unbound, objs := [], out := x.ty.elim [] (·.safe), emax := 0, held := [], closed := [], lastApplied := none
    cueTick := none, cuePrev := none, k := 0, rejoin := false, holding := false, safe := false, inhibit := false, inhSeen := false
    cueEst := none, applies := none, rcAtA := none, rcAtB := none, rcOffA := none, rcOffB := none, stopped := false, objSafe := [] }

/-- Whether a marionette is a path of a triad object controller (R195). -/
def Mario.isCtl (x : Mario) : Bool := x.ty.elim false fun t => nbit t.caps.toNat 2

/-- What the paths of a controller share, as `x` holds it: outputs, hold count, REJOIN (R311, R312). -/
def Mario.keepShared (y x : Mario) : Mario :=
  { y with out := x.out, k := x.k, rejoin := x.rejoin, inhSeen := x.inhSeen, safe := x.safe, objSafe := x.objSafe }

/-- The other paths of a controller that are bound. -/
def State.boundPaths (s : State) (m : Nat) : List Nat :=
  [m % 2048, m % 2048 + 2048, m % 2048 + 4096].filter fun p => p != m && (s.getMario p).powered && (s.getMario p).st != .unbound

/-- A marionette's record replaced. A controller whose last bound path is discarded takes its power-up safe values; until then
its outputs follow the paths that remain (NOTES 143). -/
def State.putMario (s : State) (m : Nat) (y : Mario) : State :=
  let x := s.getMario m
  if !x.isCtl || y.st != .unbound then s.updMario m fun _ => y
  else if (s.boundPaths m).isEmpty then
    (s.updMario m fun _ => y).updMario (m % 2048) fun z => if m = m % 2048 then z else z.keepShared { out := x.ty.elim [] (·.safe) }
  else s.updMario m fun _ => if m = m % 2048 then y.keepShared x else y

/-- Whether a port is up (R185). -/
def Mario.up (x : Mario) : MPort → Bool
  | .a => x.upA
  | .b => x.upB

/-- The other port. -/
def otherPort : MPort → MPort
  | .a => .b
  | .b => .a

/-- 1/10 ns per byte on a marionette's string (R180). -/
def State.lineTime (s : State) (m : Nat) : Nat := if nbit (s.rf F.SYS_MODE_RATE1000) (m % 2048 / 128) then 80 else 32

/-- The first check of R190 that a frame fails at a marionette; without BIND the last two are skipped. -/
def Mario.err (x : Mario) (f : Frame) : Option FrErr :=
  match x.obj 1 with
  | none => frameErr f stringKinds none none
  | some b => frameErr f stringKinds (some (BitVec.ofNat 64 (beAt b 0 8))) (some (beAt b 8 1))

/-- Whether a marionette receives a frame on a port, valid for it. -/
def Mario.takes (x : Mario) (port : MPort) (f : Frame) : Bool := x.powered && x.up port && (x.err f).isNone

/-- A frame of a marionette (R186, R187, R190). -/
def Mario.frame (x : Mario) (kind flags : Nat) (tick tstart : Nat) (pair : Dword) (payload : List Byte) : Frame :=
  let src := x.pos.getD 0x80
  match x.obj 1 with
  | none => { mkFrame pair kind flags x.emax tick tstart 0 src 0xFF 0 payload with srcMac := srcAddr 0xFF 0xFF src }
  | some b =>
    { mkFrame (BitVec.ofNat 64 (beAt b 0 8)) kind flags x.emax tick tstart 0 src (beAt b 8 1) 0 payload with
      srcMac := srcAddr 0xFF (beAt b 8 1) src }

/-- When every frame has left a port (R184). -/
def Mario.line (x : Mario) : MPort → Nat
  | .a => x.lineA
  | .b => x.lineB

/-- An own frame leaves a port that is up, directly after the frame that is leaving it; what is forwarded until its end waits
(R184, R185, R222). -/
def State.marioSend (s : State) (m : Nat) (port : MPort) (f : Frame) : State :=
  let x := s.getMario m
  if !x.up port then s
  else
    let done := max s.mono (x.line port) + (f.len + 20) * s.lineTime m / 10
    (s.send (.mario m port f)).updMario m fun x => match port with
      | .a => { x with busyA := done, lineA := done }
      | .b => { x with busyB := done, lineB := done }

/-! ### Forwarding and power -/

/-- The forwarded frames that still wait on a port; none while no own frame leaves it and nothing waits behind one (R184). -/
def Mario.waiting (x : Mario) (port : MPort) (now : Nat) : Option (List (Nat × Nat)) :=
  let (busy, l) := match port with
    | .a => (x.busyA, x.fwdA)
    | .b => (x.busyB, x.fwdB)
  let l := l.filter fun e => decide (now < e.1)
  if now < busy ∨ l ≠ [] then some l else none

/-- `MARIONETTE_FORWARD` (R180, R183, R184, R203): HOPS rises in a ROLLCALL request, a wrong FCS stays wrong, a full
buffer drops. -/
def execMarionetteForward (m : Fin 6144) (port : MPort) (f : Frame) (s : State) : Out :=
  .next (
    let x := s.getMario m
    let o := otherPort port
    if !x.powered || !x.up port || !x.up o || f.etherType != 0x88B5#16 || f.proto != 0xA7#8 || decide (9216 < f.len) then s
    else
      let g := if f.kind = 3#8 ∧ !frameFlag f 2 then { f with hops := if f.hops = 0xFF#8 then f.hops else f.hops + 1 } else f
      let start := max s.mono (x.line o)
      let done := start + (f.len + 20) * s.lineTime m / 10
      let w := x.waiting o s.mono
      let q := w.elim [] (· ++ [(start, f.len)])
      if 9216 < q.foldl (fun n e => n + e.2) 0 then s
      else (s.send (.mario m o g)).updMario m fun x => match o with
        | .a => { x with queued := x.queued || w.isSome, lineA := done, fwdA := q }
        | .b => { x with queued := x.queued || w.isSome, lineB := done, fwdB := q })

/-- `MARIONETTE_PORT_DOWN` (R185). -/
def execMarionettePortDown (m : Fin 6144) (port : MPort) (s : State) : Out :=
  .next (s.updMario m fun x => match port with
    | .a => { x with upA := false }
    | .b => { x with upB := false })

/-- `MARIONETTE_PORT_UP` (R185). -/
def execMarionettePortUp (m : Fin 6144) (port : MPort) (s : State) : Out :=
  .next (s.updMario m fun x => match port with
    | .a => { x with upA := true }
    | .b => { x with upB := true })

/-- `MARIONETTE_POWER_UP` (R211): UNBOUND, its power-up safe values, no position. -/
def execMarionettePowerUp (m : Fin 6144) (ty : MarioType) (s : State) : Out :=
  .next (s.updMario m fun _ => { powered := true, ty := some ty, out := ty.safe })

/-- `MARIONETTE_POWER_LOSS` (R185): nothing of it is left. -/
def execMarionettePowerLoss (m : Fin 6144) (s : State) : Out := .next (s.updMario m fun _ => {})

/-! ### Roll-call -/

/-- The position a valid request gives (R203); none where it gives none; the outer none where it does not count. -/
def rcPosition (x : Mario) (f : Frame) : Option (Option Nat) :=
  let h := f.hops.toNat
  let nsta := beAt f.payload 8 1
  if !frameFlag f 0 then some (if h < 128 then some h else none)
  else if x.far || x.lastFromA.elim false fun t => decide (f.tick.toNat < t + 16) then none
  else some (if h < nsta then some (nsta - 1 - h) else x.pos)

/-- The tick that a marionette takes the present instant to lie in, and its start, from its estimate on its own timebase (R216). -/
def Mario.nowTick (x : Mario) (now : Nat) : Nat := x.tickEst + (now - x.that) / x.par 2 0 4
def Mario.startOf (x : Mario) (n : Nat) : Nat := ((x.that : Int) + ((n : Int) - x.tickEst) * x.par 2 0 4).toNat

/-- The estimate that puts the start of tick `n` at `t`; where the marionette is past that tick, on its own timebase (R216). -/
def Mario.setStart (x : Mario) (n t : Nat) : Mario :=
  { x with that := t + (x.tickEst - n) * x.par 2 0 4, tickEst := max n x.tickEst }

/-- A request of an end arrives: its offset is measured in a tick whose cue has come, in any other it corrects the estimate by the
offset last measured (R192, R216). -/
def Mario.rcTime (x : Mario) (b : Bool) (n t : Nat) : Mario :=
  if x.st = .unbound then x
  else
    let x := if b then { x with rcAtB := some (n, t) } else { x with rcAtA := some (n, t) }
    if x.cueEst = some n then
      let o : Option Int := some ((t : Int) - x.startOf n)
      if b then { x with rcOffB := o } else { x with rcOffA := o }
    else match x.cueEst, if b then x.rcOffB else x.rcOffA with
      | some _, some o => x.setStart n ((t : Int) - o).toNat
      | _, _ => x

/-- The instant at which a request asks a marionette to answer, if it does (R204). -/
def rcAsks (f : Frame) (t : Nat) : Option Nat :=
  let h := f.hops.toNat
  let first := beAt f.payload 0 1
  if first ≤ h ∧ h < first + beAt f.payload 1 1 then some (t + beAt f.payload 4 4 + (h - first) * beAt f.payload 2 2) else none

/-- A request to answer put among those of the other end, by its instant (R204). -/
def Mario.addRc (x : Mario) (port : MPort) (f : Frame) (t : Nat) : Mario :=
  let rest := x.rc.filter fun e => frameFlag e.2.2 0 != frameFlag f 0
  match if x.far then none else rcAsks f t with
  | none => { x with rc := rest }
  | some d => { x with rc := rest.filter (fun e => decide (e.1 ≤ d)) ++ (d, port, f) :: rest.filter fun e => decide (d < e.1) }

/-- `MARIONETTE_ROLLCALL_RECEIVE` (R182, R203, R204, R216): another position than its BIND's unbinds it. -/
def execMarionetteRollcallReceive (m : Fin 6144) (port : MPort) (t : Dword) (f : Frame) (s : State) : Out :=
  .next (
    let x := s.getMario m
    if !x.takes port f || f.kind != 3#8 || frameFlag f 2 || f.payload.length != 12 then s
    else
      let fromA := !frameFlag f 0
      let p := rcPosition x f
      let x : Mario := if fromA then
          { x with lastFromA := some f.tick.toNat, portA := port, far := decide (128 ≤ f.hops.toNat) } else x
      let x : Mario := match p with
        | none => x
        | some q =>
          let moved := x.st ≠ .unbound ∧ q ≠ some (x.par 1 9 1)
          let x := { x with pos := q }
          if moved then x.discard else x
      s.putMario m ((x.rcTime (!fromA) f.tick.toNat t.toNat).addRc port f t.toNat))

/-- The roll-call answer payload (R195). -/
def Mario.answer (x : Mario) (ty : MarioType) (turn : Nat) : List Byte :=
  let ab := if x.portA = .a then (ty.dAB.toNat, ty.dBA.toNat) else (ty.dBA.toNat, ty.dAB.toNat)
  beBytes 4 ty.typ.toNat ++ beBytes 8 ty.serial.toNat ++ beBytes 4 ty.fw.toNat ++ beBytes 2 ty.nin ++ beBytes 2 ty.nout ++
    beBytes 1 ty.runs.length ++ beBytes 1 ty.caps.toNat ++
    beBytes 1 (match x.st with | .unbound => 0 | .bound => 1 | .running => 2) ++ [0] ++
    beBytes 2 ab.1 ++ beBytes 2 ab.2 ++ beBytes 4 turn ++ beBytes 4 0 ++ ty.runs.flatMap fun w => beBytes 4 w.toNat

/-- `ROLLCALL_ANSWER_SEND` (R204): to the request whose instant comes first, out of its port alone. -/
def execRollcallAnswerSend (m : Fin 6144) (turn : Word) (s : State) : Out :=
  .next (
    let x := s.getMario m
    match x.rc, x.ty with
    | (_, port, f) :: rest, some ty =>
      let s := s.updMario m fun x => { x with rc := rest }
      if x.powered && !x.far then
        s.marioSend m port (x.frame 3 4 f.tick.toNat f.tstart.toNat f.pairId (x.answer ty turn.toNat))
      else s
    | _, _ => s)

/-! ### Parameters -/

/-- The length of a parameter object (R212). -/
def Mario.objLen (x : Mario) (k : Nat) : Option Nat :=
  match k with
  | 1 => some 12
  | 2 => some 24
  | 3 => some 8
  | 4 => some 4
  | 5 => some (4 * x.runs.length)
  | 6 => some (2 * x.runs.length)
  | 7 => some (x.runs.foldl (fun n r => if r.dir = 2 then n + runLen r.typ r.count else n) 0)
  | _ => none

/-- The RESULT of a COMMIT in UNBOUND (R196, R215). -/
def Mario.commitResult (x : Mario) : Nat :=
  let ok := decide (x.pos = some (x.par 1 9 1) ∧ x.par 1 8 1 < 16 ∧ x.par 1 10 1 ≤ 1 ∧ x.par 1 11 1 = 0) &&
    (x.par 1 10 1 == 0 || x.ty.elim false fun t => nbit t.caps.toNat 0) &&
    decide (x.par 2 0 4 ∈ [250000, 500000, 1000000, 2000000] ∧ x.par 2 4 4 < x.par 2 0 4 ∧ 2 * x.par 2 8 4 ≤ x.par 2 0 4
      ∧ x.par 2 12 4 < x.par 2 0 4 ∧ x.par 2 16 4 < x.par 2 0 4 ∧ x.par 2 20 4 = 0) &&
    decide (1 ≤ x.par 4 0 2 ∧ x.par 4 0 2 ≤ 255 ∧ x.par 4 2 2 = 0) &&
    (List.range x.runs.length).all fun i => decide (x.par 6 (2 * i) 1 ≤ 7 ∧ x.par 6 (2 * i + 1) 1 < 2 ^ x.par 6 (2 * i) 1)
  if (span 1 7).any fun k => (x.obj k).isNone then 5
  else if x.obj 5 ≠ some (x.runs.flatMap fun r => beBytes 4 r.word) then 6
  else if ok then 0 else 3

/-- What a request does (R215): the RESULT, the response's data, the marionette. -/
def Mario.request (x : Mario) (op obj : Nat) (data : List Byte) : Nat × List Byte × Mario :=
  match op with
  | 1 => match x.objLen obj with
    | none => (1, [], x)
    | some n => (0, (x.obj obj).getD (List.replicate n 0), x)
  | 2 =>
    if x.st ≠ .unbound ∧ obj ≠ 3 then (4, [], x)
    else match x.objLen obj with
      | none => (1, [], x)
      | some n => if data.length ≠ n then (2, [], x) else (0, [], { x with objs := aput obj data x.objs })
  | 3 =>
    if x.st ≠ .unbound then (4, [], x)
    else
      let r := x.commitResult
      (r, [], if r = 0 then { x with st := .bound, k := 0 } else x)
  | 4 => (0, [], x.discard)
  | _ => (4, [], x)

/-- TICK and TSTART of a frame that a marionette sends on its own account (R187): its estimate; free values while it has none
(NOTES 140). -/
def State.ownTime (s : State) (x : Mario) : (Nat × Nat) × State :=
  if x.st = .unbound ∨ x.cueEst.isNone then ((s.draw.1, s.draw.2.draw.1), s.draw.2.draw.2)
  else ((x.nowTick s.mono, x.startOf (x.nowTick s.mono)), s)

/-- A response (R196, R214): out of the request's port. -/
def State.marioRespond (s : State) (m : Nat) (port : MPort) (f : Frame) (x : Mario) (rsp : List Byte) : State :=
  let r := s.ownTime x
  r.2.marioSend m port (x.frame 5 0 r.1.1 r.1.2 f.pairId rsp)

/-- A SERVICE_REQ at a marionette, of an operation that `own` picks: the SEQ of its last response gets that response again (R214);
every other gets its RESULT (R196, R215). -/
def State.serviceReq (s : State) (own : Nat → Bool) (m : Nat) (port : MPort) (f : Frame) : State :=
  let x := s.getMario m
  let p := f.payload
  if !x.takes port f || f.kind != 4#8 || decide (x.pos ≠ some (beAt p 0 1)) || !own (beAt p 1 1) ||
      p.length != 12 + beAt p 6 2 then s
  else
    let seq := beAt p 2 2
    if x.lastSeq = some seq then s.marioRespond m port f x x.lastRsp
    else
      let r := x.request (beAt p 1 1) (beAt p 4 2) (p.drop 12)
      let rsp := p.take 6 ++ beBytes 2 r.2.1.length ++ beBytes 1 r.1 ++ beBytes 3 0 ++ r.2.1
      (s.putMario m { r.2.2 with lastSeq := some seq, lastRsp := rsp }).marioRespond m port f r.2.2 rsp

/-- `SERVICE_REQ_READ` (R215); an operation that R196 does not name is refused here. -/
def execServiceReqRead (m : Fin 6144) (port : MPort) (f : Frame) (s : State) : Out :=
  .next (s.serviceReq (fun o => o != 2 && o != 3 && o != 4) m port f)

/-- `SERVICE_REQ_WRITE` (R215). -/
def execServiceReqWrite (m : Fin 6144) (port : MPort) (f : Frame) (s : State) : Out := .next (s.serviceReq (· == 2) m port f)

/-- `SERVICE_REQ_COMMIT` (R215). -/
def execServiceReqCommit (m : Fin 6144) (port : MPort) (f : Frame) (s : State) : Out := .next (s.serviceReq (· == 3) m port f)

/-- `SERVICE_REQ_DISCARD` (R215). -/
def execServiceReqDiscard (m : Fin 6144) (port : MPort) (f : Frame) (s : State) : Out := .next (s.serviceReq (· == 4) m port f)

/-! ### Cues and releases -/

/-- The sections of a cue payload: position, SFLAGS, data (R193). -/
def sectionsFrom : Nat → List Byte → List (Nat × Nat × List Byte)
  | 0, _ => []
  | n + 1, p =>
    if p.length < 4 then []
    else
      let len := beAt p 2 2
      (beAt p 0 1, beAt p 1 1, slice p 4 len) :: sectionsFrom n (p.drop (4 + len))

/-- The offset of a request that came in the tick of an estimate (R216). -/
def rcOffset (at_ : Option (Nat × Nat)) (old : Option Int) (n that : Nat) : Option Int :=
  match at_ with
  | some (k, t) => if k = n then some ((t : Int) - that) else old
  | none => old

/-- The tick estimate from a cue frame (R192, R216); with α above CUE_AT the apply instant of the tick before is still to come
(R217, R218). -/
def Mario.estimate (x : Mario) (t : Nat) (f : Frame) : Mario :=
  let d := if frameFlag f 0 then x.par 3 4 4 else x.par 3 0 4
  let n := f.tick.toNat
  if beAt f.payload 0 1 ≠ 0 ∨ d = noDelay then x
  else
    let that := t - x.par 2 12 4 - d - (if frameFlag f 1 then 20000 else 0)
    { (if x.cueEst.isSome then x.setStart n that else { x with that := that, tickEst := n }) with
      cueEst := some n
      applies := if x.cueEst.isSome ∧ n < x.tickEst then x.applies else if x.applies = some n ∨ that + x.par 2 8 4 ≤ t then some n else some (n - 1)
      rcOffA := rcOffset x.rcAtA x.rcOffA n that
      rcOffB := rcOffset x.rcAtB x.rcOffB n that }

/-- Whether a CUE or a RELEASE is accepted (R225). -/
def Mario.accepts (x : Mario) (f : Frame) : Bool :=
  decide (x.emax ≤ f.epoch.toNat) && x.lastApplied.elim true fun n => decide (n < f.tick.toNat)

/-- The section held for a tick (R226). -/
def Mario.heldFor (x : Mario) (n : Nat) : Option Held := x.held.find? fun h => h.tick == n

/-- Whether a section of tick `n` that is complete at `done` comes too late (R218); `e`: the record whose estimate tells. -/
def Mario.tooLate (e : Mario) (n done : Nat) : Bool :=
  decide ((e.that : Int) + ((n : Int) + 1 - e.tickEst) * e.par 2 0 4 + e.par 2 8 4 < (done : Int) + 10000) ||
    e.applies.elim false fun c => decide (n < c)

/-- The section of an accepted frame held (R193, R226). `late`: it comes too late. -/
def Mario.hold (x : Mario) (f : Frame) (late : Bool) : Mario :=
  let n := f.tick.toNat
  let e := f.epoch.toNat
  let shut := x.closed.any fun c => decide (c.1 = n ∧ e ≤ c.2)
  let kept := (x.heldFor n).any fun h => decide (e ≤ h.epoch)
  match (sectionsFrom 128 (f.payload.drop 4)).find? fun c => x.pos == some c.1 with
  | none => x
  | some c =>
    if shut || late || kept || decide (c.2.2.length ≠ x.secLen n) then x
    else { x with
      held := x.held.filter (fun h => h.tick != n) ++ [⟨n, e, nbit c.2.1 0, f.memberNo.toNat, c.2.2⟩]
      cueTick := some n
      cuePrev := if x.cueTick = some n then x.cuePrev else x.cueTick }

/-- A frame with LAST closes the tick's stream of its own and of every lower epoch (R226). -/
def Mario.closeLast (x : Mario) (f : Frame) : Mario :=
  if !frameFlag f 4 then x
  else
    let n := f.tick.toNat
    let e := (x.closed.find? fun c => c.1 == n).elim f.epoch.toNat fun c => max c.2 f.epoch.toNat
    { x with closed := x.closed.filter (fun c => c.1 != n && decide (n ≤ c.1 + 1)) ++ [(n, e)] }

/-- `MARIONETTE_CUE_RECEIVE` (R191, R216, R218, R225, R226, R313): a TRIAD_CUE is for object controllers. Lateness is judged by
the estimate held before the frame, if there is one. -/
def execMarionetteCueReceive (m : Fin 6144) (port : MPort) (t : Dword) (f : Frame) (s : State) : Out :=
  .next (
    let x := s.getMario m
    if !x.takes port f || !(f.kind == 1#8 || (f.kind == 6#8 && x.isCtl)) || x.st == .unbound then s
    else
      let done := t.toNat + f.len * s.lineTime m / 10
      let y := x.estimate t.toNat f
      let late := (if x.cueEst.isSome then x else y).tooLate f.tick.toNat done || y.cueEst.isNone
      let y := if y.accepts f then { y with emax := f.epoch.toNat, stopped := y.stopped && f.kind != 6#8 }.hold f late else y
      s.updMario m fun _ => y.closeLast f)

/-- `MARIONETTE_RELEASE_RECEIVE` (R225, R230, R313). -/
def execMarionetteReleaseReceive (m : Fin 6144) (port : MPort) (f : Frame) (s : State) : Out :=
  .next (
    let x := s.getMario m
    if !x.takes port f || f.kind != 7#8 || x.st == .unbound || !x.accepts f then s
    else s.updMario m fun x =>
      let x := { x with emax := f.epoch.toNat }
      if x.isCtl then { x with stopped := true }
      else if frameFlag f 3 then x.goSafe
      else x)

/-! ### Samples and replies -/

/-- The record that holds what the paths of a controller share. -/
def State.shared (s : State) (m : Nat) : Nat := if (s.getMario m).isCtl then m % 2048 else m

/-- The paths of a controller that are bound and have an estimate (R311). -/
def State.paths (s : State) (site : Nat) : List Nat :=
  [site, site + 2048, site + 4096].filter fun m =>
    let x := s.getMario m
    x.powered && x.st != .unbound && x.cueEst.isSome

/-- Ascending order. -/
def insertUp (v : Nat) : List Nat → List Nat
  | [] => [v]
  | w :: t => if v ≤ w then v :: w :: t else w :: insertUp v t

def sortUp : List Nat → List Nat
  | [] => []
  | v :: t => insertUp v (sortUp t)

/-- The median of three values, the mean of two, the one there is (R311). -/
def common (l : List Nat) : Nat :=
  match sortUp l with
  | [_, b, _] => b
  | [a, b] => (a + b) / 2
  | l => l.headD 0

/-- The value that two of three paths give, else the middle one; the larger of two (R312). -/
def middle (l : List Nat) : Nat := (sortUp l).getD (l.length / 2) 0

/-- The tick that a controller takes the present instant to lie in (R311): by the estimates of its paths that accepted a frame in
the previous tick, or of all of them if none did. -/
def State.ctlTick (s : State) (site : Nat) : Nat :=
  let ps := (s.paths site).map s.getMario
  let n := middle (ps.map fun x => x.nowTick s.mono)
  let fresh := ps.filter fun x => x.cueEst.any fun c => decide (n ≤ c + 1)
  let at_ := common ((if fresh.isEmpty then ps else fresh).map fun x => x.startOf n)
  let tb := (ps.head?.elim 0 fun x => x.par 2 0 4)
  n + (s.mono - at_) / tb

/-- What a sample leaves on a marionette (R217). -/
def Mario.sample (x : Mario) (n : Nat) (values : List Word) (quals : List Byte) (own : Word) (out : List Word) : Mario :=
  { x with ins := values, quals := quals, own := own, sampled := out, smpTick := n }

/-- `STATION_SAMPLE` (R194, R217, R311): what the station takes at its sample instant. A controller samples once a tick, for
every path. A station that has no estimate yet has no sample instant. -/
def execStationSample (m : Fin 6144) (smp : Sample) (quals : List Byte) (s : State) : Out :=
  .next (
    let values := smp.values
    let status := smp.status
    let x := s.getMario m
    if !x.powered || x.st == .unbound || x.cueEst.isNone then s
    else if !x.isCtl then s.updMario m fun x => x.sample (x.nowTick s.mono) values quals status x.out
    else
      let n := s.ctlTick (m % 2048)
      let out := (s.getMario (m % 2048)).out
      if (s.paths (m % 2048)).any fun p => (s.getMario p).smpTick == n && !((s.getMario p).ins ++ (s.getMario p).sampled).isEmpty then s
      else (s.paths (m % 2048)).foldl (fun t p => t.updMario p fun x => x.sample n values quals status out) s)

/-- The status word of the REPLY of tick `n` (R194, R228, R311). `c`: the record that holds REJOIN. -/
def Mario.statusWord (x c : Mario) (n : Nat) : Nat :=
  let down (p : MPort) : Bool := !x.up (if x.portA = .a then p else otherPort p)
  let had (k : Option Nat) : Bool := k.any fun a => a + 1 == n
  let o := x.own.toNat
  o % 2 + 2 * b2n (x.st != .unbound) + 4 * b2n c.rejoin + 8 * b2n x.holding + 16 * b2n x.safe + 32 * b2n x.inhibit +
    64 * b2n (down .a) + 128 * b2n (down .b) + 256 * b2n (!had x.cueTick && !had x.cuePrev) + 512 * (o / 512 % 2) +
    1024 * b2n x.queued + 65536 * (o / 65536)

/-- Values of the due runs of a reply (R199). -/
def replyVals : List (RunDef × Bool) → List Word → List Word → List Byte
  | [], _, _ => []
  | (r, due) :: t, i, o =>
    let v := (if r.dir = 1 then i else o).take r.count
    (if due then packRun r.typ (v ++ List.replicate (r.count - v.length) 0) else []) ++
      (if r.dir = 1 then replyVals t (i.drop r.count) o else replyVals t i (o.drop r.count))

/-- Quality bytes of the due runs of a reply (R199, R200). -/
def replyQuals : List (RunDef × Bool) → List Byte → List Byte
  | [], _ => []
  | (r, due) :: t, q => (if due then (slice q 0 r.quals).map (· &&& 0x79#8) else []) ++ replyQuals t (q.drop r.quals)

/-- `STATION_REPLY_SEND` (R194, R217, R222): out of both ports. -/
def execStationReplySend (m : Fin 6144) (s : State) : Out :=
  .next (
    let x := s.getMario m
    if !x.powered || x.st == .unbound || x.cueEst.isNone then s
    else
      let n := x.smpTick
      let rs := x.dueRuns n
      let f := x.frame 2 0 n (x.startOf n) 0
        (beBytes 4 (x.statusWord (s.getMario (s.shared m)) n) ++ beBytes 8 (x.cueTick.getD 0) ++ beBytes 4 0 ++
          replyVals rs x.ins x.sampled ++ replyQuals rs x.quals)
      ((s.updMario m fun x => { x with queued := false }).marioSend m .a f).marioSend m .b f)

/-! ### Outputs -/

/-- Tick `c` closed at its apply instant: the next one is that of the tick after it; without a cue the estimate goes on (R216). -/
def Mario.nextTick (x : Mario) (c : Nat) : Mario :=
  let y := { x with held := x.held.filter fun h => decide (c < h.tick), applies := some (c + 1) }
  if c < x.tickEst then y else { y with that := x.startOf (c + 1), tickEst := c + 1 }

/-- A tick without a section (R228). -/
def Mario.miss (x : Mario) : Mario :=
  let h := x.par 4 0 2
  let k := min (h + 1) (x.k + 1)
  let y := { x with k := k, holding := decide (k ≤ h) }
  if k = h + 1 ∧ x.k ≠ k then y.goSafe else y

/-- An accepted section at the apply instant (R225, R227, R232). -/
def Mario.applySection (x : Mario) (h : Held) : Mario :=
  let y := { x with k := 0, holding := false, inhibit := h.inhibit }
  if h.inhibit then { y with out := y.safeOut, safe := true, inhSeen := true }
  else if y.rejoin ∧ !y.inhSeen then y
  else { y with
    out := mergeOut (y.dueRuns h.tick) y.out h.data
    lastApplied := some h.tick
    st := .running
    rejoin := false
    inhSeen := false
    safe := y.safe && h.data.isEmpty }

/-- The apply instant of a marionette (R227, R228); before its first estimate there is none. -/
def Mario.applyTick (x : Mario) : Mario :=
  match x.applies with
  | none => x
  | some c => ((x.heldFor c).elim x.miss x.applySection).nextTick c

/-- Whether a section is held for the tick that the next apply instant closes. -/
def Mario.holdsSection (x : Mario) : Bool := x.applies.any fun c => (x.heldFor c).isSome

/-- `STATION_APPLY` (R217, R227, R228). -/
def execStationApply (m : Fin 6144) (s : State) : Out :=
  .next (
    let x := s.getMario m
    if !x.powered || x.st == .unbound || x.isCtl then s else s.updMario m Mario.applyTick)

/-- `STATION_HOLD_EXPIRY` (R228): the apply instant at which k becomes H + 1. -/
def execStationHoldExpiry (m : Fin 6144) (s : State) : Out :=
  .next (
    let x := s.getMario m
    if !x.powered || x.st == .unbound || x.isCtl || x.holdsSection || x.k != x.par 4 0 2 then s
    else s.updMario m Mario.applyTick)

/-! ### Triad object controllers -/

/-- The tick that a controller's next apply instant closes (R312). -/
def State.ctlCloses (s : State) (site : Nat) : Nat := middle ((s.paths site).filterMap fun m => (s.getMario m).applies)

/-- The candidates of a controller for tick `n`: one for each MEMBER (R312, R313). -/
def State.candidates (s : State) (site n : Nat) : List Held :=
  ((s.paths site).filterMap fun m => if (s.getMario m).stopped then none else (s.getMario m).heldFor n).foldl
    (fun l h => if l.any fun g => g.member == h.member then l else l ++ [h]) []

/-- The data of one output run of a section, by the run's index among the output runs (R199). -/
def runData : List (RunDef × Bool) → Nat → List Byte → List Byte
  | [], _, _ => []
  | (r, due) :: t, i, d =>
    if r.dir ≠ 2 then runData t i d
    else
      let n := if due then runLen r.typ r.count else 0
      match i with
      | 0 => d.take n
      | j + 1 => runData t j (d.drop n)

/-- Two candidates agree on an object (R312). -/
def agree (rs : List (RunDef × Bool)) (o : List Nat) (a b : Held) : Bool :=
  a.inhibit == b.inhibit && o.all fun i => runData rs i a.data == runData rs i b.data

/-- The candidate that two members agree on for an object (R312). -/
def agreed (rs : List (RunDef × Bool)) (o : List Nat) : List Held → Option Held
  | [] => none
  | a :: t => if t.any (agree rs o a) then some a else agreed rs o t

/-- Output values with those of the picked output runs taken from `new`. -/
def pickRuns (runs : List RunDef) (pick : Nat → Bool) (old new : List Word) : List Word :=
  ((runs.filter fun r => r.dir == 2).foldl (fun (a : Nat × Nat × List Word) r =>
    (a.1 + 1, a.2.1 + r.count, a.2.2 ++ ((if pick a.1 then new else old).drop a.2.1).take r.count)) (0, 0, [])).2.2

/-- One object of a controller at the apply instant with two candidates (R312). -/
def Mario.applyObject (x : Mario) (rs : List (RunDef × Bool)) (cs : List Held) (i : Nat) (o : List Nat) : Mario :=
  let pick (j : Nat) : Bool := decide (j ∈ o)
  match agreed rs o cs with
  | none => { x with out := pickRuns x.runs pick x.out x.safeOut, objSafe := if i ∈ x.objSafe then x.objSafe else x.objSafe ++ [i] }
  | some h =>
    let x := { x with objSafe := x.objSafe.erase i }
    if h.inhibit then { x with out := pickRuns x.runs pick x.out x.safeOut }
    else if x.rejoin then x
    else { x with out := pickRuns x.runs pick x.out (mergeOut rs x.out h.data) }

/-- A controller's tick with at least two candidates (R227, R232, R312). -/
def Mario.applyObjects (x : Mario) (n : Nat) (objs : List (List Nat)) (cs : List Held) : Mario :=
  let rs := x.dueRuns n
  let found := objs.filterMap fun o => agreed rs o cs
  let leaves := x.rejoin && x.inhSeen && found.any fun h => !h.inhibit
  let x := { x with
    k := 0
    rejoin := x.rejoin && !leaves
    inhSeen := (x.inhSeen && !leaves) || found.any (·.inhibit)
    safe := if leaves then false else x.safe }
  (List.range objs.length).foldl (fun y i => y.applyObject rs cs i (objs.getD i [])) x

/-- What the apply instant of tick `n` leaves on each path of a controller `c` (R311, R312): its own state, its next tick. `two`: there
were two candidates; `done`: the controller applied data. -/
def Mario.pathTick (x : Mario) (n : Nat) (two done : Bool) (c : Mario) : Mario :=
  let h := if x.stopped then none else x.heldFor n
  let y := { x with
    holding := !(two && h.isSome) && !c.safe
    safe := c.safe
    inhibit := h.elim x.inhibit (·.inhibit)
    lastApplied := if done && h.isSome then some n else x.lastApplied
    st := if done && h.isSome then .running else x.st }
  y.nextTick n

/-- `OBJECT_CONTROLLER_APPLY` (R227, R228, R312): at the apply instant common to the paths. -/
def execObjectControllerApply (site : Fin 2048) (s : State) : Out :=
  .next (
    let paths := s.paths site
    let x := s.getMario site
    let objs := x.ty.elim [] (·.objects)
    if !x.isCtl || paths.isEmpty then s
    else
      let n := s.ctlCloses site
      let lead := s.getMario (paths.headD site)
      let cs := s.candidates site n
      let two := decide (2 ≤ cs.length)
      let y := { x with objs := lead.objs }
      let rs := y.dueRuns n
      let y := if two then y.applyObjects n objs cs else y.miss
      let done := two && !y.rejoin && objs.any fun o => (agreed rs o cs).any fun h => !h.inhibit
      let s := s.updMario site fun x => { y with objs := x.objs, holding := x.holding }
      paths.foldl (fun t m => t.updMario m fun p => p.pathTick n two done y) s)

end Sys2Proof.Machine
end

