-- ==== Sys2Proof/Machine/Move.lean ====
section
/-!
DEFINITION. Moves, conversions and indexed accesses (R98, R111).
-/
namespace Sys2Proof.Machine

/-! ### Conversions -/

/-- Rounding code of R98 as a number. -/
def roundCode : RoundMode → Nat
  | .nearest => 0 | .zero => 1 | .down => 2 | .up => 3

/-- CVT: the value and whether a NaN went to an integer (R98, R111). -/
def cvtV (frm into : K) (rm : RoundMode) (v : Dword) : Dword × Bool :=
  match frm.real, into.real with
  | false, false => (into.ofInt (frm.toInt v), false)
  | false, true => (realOut (into.fmt.write (Flt.ofInt (frm.toInt v))), false)
  | true, true => (realOut (into.fmt.write (frm.toReal v)), false)
  | true, false =>
    match frm.toReal v with
    | .nan => (0, true)
    | .inf neg => (into.ofInt (if neg then into.lo else into.hi), false)
    | .fin neg m e => (into.ofIntSat (roundInt (roundCode rm) neg m e), false)

/-- The range of the memory types that SATW clamps to (R93, R98). -/
def satRange : SatType → Int × Int
  | .int8 => (-2 ^ 7, 2 ^ 7 - 1) | .int16 => (-2 ^ 15, 2 ^ 15 - 1) | .int32 => (-2 ^ 31, 2 ^ 31 - 1)
  | .uint8 => (0, 2 ^ 8 - 1) | .uint16 => (0, 2 ^ 16 - 1) | .uint32 => (0, 2 ^ 32 - 1)

/-- SATW (R98): A, read as I64, clamped. -/
def satwV (ty : SatType) (v : Dword) : Dword := BitVec.ofInt 64 (max (satRange ty).1 (min (satRange ty).2 v.toInt))

/-! ### Meanings -/

/-- `NOP` (R98). -/
def execNop (e : Fin 12) (s : State) : Out := azwin none e 1 id s

/-- `MOV` (R98). -/
def execMov (e : Fin 12) (d : Dst) (a : Src) (s : State) : Out :=
  azwin (opsCheck false [a] (some d)) e (words1 d a) (fun x => x.op1 d a id) s

/-- `SEL` (R98): only the operand that is taken is read (NOTES 17). -/
def execSel (e : Fin 12) (d : Fin 64) (a b : Src) (s : State) : Out :=
  azwin (opsCheck false [a, b] none) e (1 + a.words + b.words)
    (fun x => x.op1 (.reg d) (if x.v d ≠ 0 then a else b) id) s

/-- `CVT` (R98, R111). -/
def execCvt (e : Fin 12) (d : Dst) (a : Src) (frm into : K) (rm : RoundMode) (s : State) : Out :=
  azwin (opsCheck frm.narrow [a] (some d)) e (words1 d a) (fun x =>
    let p := x.rd a
    let r := cvtV frm into rm p.1
    (if r.2 then p.2.fault 2 else p.2).wr d r.1) s

/-- `SATW` (R98). -/
def execSatw (e : Fin 12) (d : Dst) (a : Src) (ty : SatType) (s : State) : Out :=
  azwin (opsCheck false [a] (some d)) e (words1 d a) (fun x => x.op1 d a (satwV ty)) s

/-- An indexed read: the value at the index below the count, otherwise 0 with FAULT (R98, R111). -/
def X.readIdx (x : X) (d : Dst) (a : Src) (count : Word) (f : X → Nat → Dword) : X :=
  let p := x.rd a
  if p.1.toNat < count.toNat then p.2.wr d (f p.2 p.1.toNat) else (p.2.fault 3).wr d 0

/-- An indexed write: dropped with FAULT at an index not below the count (R98, R111). -/
def X.writeIdx (x : X) (a b : Src) (count : Word) (f : X → Nat → Dword → X) : X :=
  let p := x.rd a
  let q := p.2.rd b
  if p.1.toNat < count.toNat then f q.2 p.1.toNat q.1 else q.2.fault 4

/-- `LDX` (R98). -/
def execLdx (e : Fin 12) (d : Dst) (a : Src) (off : BitVec 26) (ty : MemType) (count : Word) (s : State) : Out :=
  azwin (opsCheck false [a] (some d)) e (words1 d a + 2) (fun x => x.readIdx d a count fun y i =>
    ty.widen (y.local (varBase + off.toNat + i * ty.size) ty.size)) s

/-- `STX` (R98). -/
def execStx (e : Fin 12) (a b : Src) (off : BitVec 26) (ty : MemType) (count : Word) (s : State) : Out :=
  azwin (opsCheck false [a, b] none) e (3 + a.words + b.words) (fun x => x.writeIdx a b count fun y i v =>
    y.wrVar (off.toNat + i * ty.size) ty v) s

/-- `LDXG` (R98). -/
def execLdxg (e : Fin 12) (d : Dst) (a : Src) (pos : BitVec 14) (ty : SlotType) (part : SlotPart) (count : Word)
    (s : State) : Out :=
  azwin (opsCheck false [a] (some d)) e (words1 d a + 2) (fun x => x.readIdx d a count fun y i =>
    slotPart (y.gathered (pos.toNat + i)) ty part) s

/-- `LDXK` (R98). -/
def execLdxk (e : Fin 12) (d : Dst) (a : Src) (idx : BitVec 13) (ty : MemType) (count : Word) (s : State) : Out :=
  azwin (opsCheck false [a] (some d)) e (words1 d a + 2) (fun x => x.readIdx d a count fun y i =>
    y.pool (idx.toNat + i) ty) s

/-- `STXO` (R98). -/
def execStxo (e : Fin 12) (a b : Src) (h : BitVec 23) (ty : SlotType) (qual : Bool) (count : Word) (s : State) : Out :=
  azwin (opsCheck false [a, b] none <|> checkIf 0x08 (decide (h.toNat < 5242880))) e (3 + a.words + b.words)
    (fun x => x.writeIdx a b count fun y i v => y.wrSlot (h.toNat + i) ty qual v) s

end Sys2Proof.Machine
end

