-- ==== Sys2Proof/Machine/Objects.lean ====
section
/-!
DEFINITION. State objects (R122 to R136): one evaluation of each kind, and `ORESET`.
-/
namespace Sys2Proof.Machine

/-! ### Evaluations (R124 to R131) -/

/-- The flags of R122 by name. -/
def fInit : Nat := 0
def fQ : Nat := 1
def fM : Nat := 2
def fMD : Nat := 3
def fRun : Nat := 4
def fGap : Nat := 5
def fRest : Nat := 6

/-- What an evaluation starts from: INIT set, RESTORED cleared (R125, R136). -/
def Blk.open (b : Blk) (kind : Nat) : Blk := { (b.setFlag fInit true).setFlag fRest false with kind := BitVec.ofNat 8 kind }

/-- PT as I64, a negative one as 0 (R124). -/
def clampPt (v : Dword) : Dword := if v.toInt < 0 then 0 else v

/-- Whether PT has run since T0. -/
def elapsed (now t0 pt : Dword) : Bool := decide (pt.toInt ≤ (now - t0).toInt)

/-- TON (R126). -/
def evalTon (b : Blk) (now : Dword) (inp : Bool) (pt : Dword) : Blk × Dword :=
  let pt := clampPt pt
  let c := { b.open 1 with t1 := pt }
  if inp then
    let c := if b.flag fRun then c else { c.setFlag fRun true with t0 := now }
    let q := elapsed now c.t0 pt
    (c.setFlag fQ q, truth q)
  else ((c.setFlag fRun false).setFlag fQ false, 0)

/-- TOF (R126). -/
def evalTof (b : Blk) (now : Dword) (inp : Bool) (pt : Dword) : Blk × Dword :=
  let pt := clampPt pt
  let c := { b.open 2 with t1 := pt }
  if inp then ((c.setFlag fQ true).setFlag fRun false, 1)
  else if b.flag fQ then
    let c := if b.flag fRun then c else { c.setFlag fRun true with t0 := now }
    if elapsed now c.t0 pt then ((c.setFlag fQ false).setFlag fRun false, 0) else (c, 1)
  else (c, 0)

/-- TP (R126): no edge at a first evaluation. -/
def evalTp (b : Blk) (now : Dword) (inp : Bool) (pt : Dword) : Blk × Dword :=
  let pt := clampPt pt
  let c := { b.open 3 with t1 := pt }
  let edge := inp && !b.flag fM && b.flag fInit
  let start := !b.flag fRun && edge
  let c := if start then { c with t0 := now } else c
  let run := (b.flag fRun || start) && !elapsed now c.t0 pt
  ((((c.setFlag fRun run).setFlag fQ run).setFlag fM inp), truth run)

/-- RTRIG and FTRIG (R127). -/
def evalTrig (kind : Nat) (b : Blk) (clk : Bool) (rising : Bool) : Blk × Dword :=
  let m := if b.flag fInit then b.flag fM else clk
  let q := if rising then clk && !m else !clk && m
  (((b.open kind).setFlag fQ q).setFlag fM clk, truth q)

/-- The rising edge of a count input: none at a first evaluation (R125, R128). -/
def countEdge (b : Blk) (m : Nat) (inp : Bool) : Bool := b.flag fInit && inp && !b.flag m

/-- CV and the counting steps of R128. -/
def Blk.cv (b : Blk) : Int := b.n.toInt
def cvUp (v : Int) : Int := if v < 2147483647 then v + 1 else v
def cvDown (v : Int) : Int := if -2147483648 < v then v - 1 else v
def Blk.setCv (b : Blk) (v : Int) : Blk := { b with n := BitVec.ofInt 32 v }

/-- PV read as I32 (R128). -/
def pvOf (v : Dword) : Int := (v.setWidth 32).toInt

/-- CTU (R128). -/
def evalCtu (b : Blk) (cu rst : Bool) (pv : Dword) : Blk × Dword :=
  let cv := if rst then 0 else if countEdge b fM cu then cvUp b.cv else b.cv
  let q := decide (pvOf pv ≤ cv)
  ((((b.open 6).setCv cv).setFlag fM cu).setFlag fQ q, truth q)

/-- CTD (R128). -/
def evalCtd (b : Blk) (cd ld : Bool) (pv : Dword) : Blk × Dword :=
  let cv := if ld then pvOf pv else if countEdge b fM cd then cvDown b.cv else b.cv
  let q := decide (cv ≤ 0)
  ((((b.open 7).setCv cv).setFlag fM cd).setFlag fQ q, truth q)

/-- CTUD (R128). -/
def evalCtud (b : Blk) (cu cd rst ld : Bool) (pv : Dword) : Blk × Dword :=
  let up := countEdge b fM cu
  let dn := countEdge b fMD cd
  let cv := if rst then 0 else if ld then pvOf pv
    else if up && !dn then cvUp b.cv else if dn && !up then cvDown b.cv else b.cv
  let qu := decide (pvOf pv ≤ cv)
  (((((b.open 8).setCv cv).setFlag fM cu).setFlag fMD cd).setFlag fQ qu,
    BitVec.ofNat 64 (b2n qu + 2 * b2n (decide (cv ≤ 0))))

/-- HYST (R129): a NaN leaves Q. -/
def evalHyst (b : Blk) (x lo hi : Dword) : Blk × Dword :=
  let nan (v : Dword) : Bool := (f64.read v.toNat).isNan
  let q := if nan x || nan lo || nan hi then b.flag fQ
    else if f64.lt hi.toNat x.toNat then true else if f64.lt x.toNat lo.toNat then false else b.flag fQ
  ((b.open 9).setFlag fQ q, truth q)

/-- INTG (R130), `p` the class period in ns. -/
def evalIntg (b : Blk) (now : Dword) (p : Nat) (x : Dword) (rst hold : Bool) : Blk × Dword :=
  let c := { b.open 10 with t1 := now }
  if rst then ({ c.setFlag fGap false with t0 := 0 }, 0)
  else if hold || !b.flag fInit || b.flag fRest || (f64.read x.toNat).isNan then (c, b.t0)
  else
    let d := (now - b.t1).toInt
    let cap : Int := 16 * p
    let gap := decide (cap < d)
    let d := min cap d
    let sec := f64.div (f64.read (f64.write (Flt.ofInt d))) (Flt.ofInt 1000000000)
    let add := f64.mul (f64.read x.toNat) (f64.read sec)
    let t0 := realOut (f64.add (f64.read b.t0.toNat) (f64.read add))
    ({ (if gap then c.setFlag fGap true else c) with t0 := t0 }, t0)

/-- A STEP object before its own rule: step 0 entered now at a first evaluation; entered now after a restoration (R131,
R136). -/
def stepOpen (b : Blk) (now : Dword) : Blk :=
  let c := b.open 11
  if !b.flag fInit then { c with n := 0, t0 := now } else if b.flag fRest then { c with t0 := now } else c

/-- STEPGO (R131). -/
def evalStepgo (b : Blk) (now : Dword) (target : Dword) (cond : Bool) : Blk × Dword :=
  let c := stepOpen b now
  let t : Word := target.setWidth 32
  let c := if cond ∧ t ≠ c.n then { c with n := t, t0 := now } else c
  (c, c.n.setWidth 64)

/-- STEPIS (R131). -/
def evalStepis (b : Blk) (now : Dword) (step : Dword) : Blk × Dword :=
  let c := stepOpen b now
  (c, truth (decide (c.n = step.setWidth 32)))

/-! ### Evaluation in an activation -/

/-- One evaluation: the local copy read, its new state written and staged, the result in d (R91, R124). -/
def X.eval (x : X) (key : Word) (d : Dst) (f : Blk → Blk × Dword) : X :=
  let r := f (x.blk key.toNat)
  (x.wrBlk key.toNat r.1).wr d r.2

/-- A Boolean input (R124). -/
def isTrue (v : Dword) : Bool := decide (v ≠ 0)

/-- An evaluation of operands A and B. -/
def X.eval2 (x : X) (key : Word) (d : Dst) (a b : Src) (f : Blk → Dword → Dword → Dword → Blk × Dword) : X :=
  let p := x.rd a
  let q := p.2.rd b
  q.2.eval key d fun k => f k x.a.tf p.1 q.1

/-- An evaluation of operand A. -/
def X.eval1 (x : X) (key : Word) (d : Dst) (a : Src) (f : Blk → Dword → Dword → Blk × Dword) : X :=
  let p := x.rd a
  p.2.eval key d fun k => f k x.a.tf p.1

/-! ### Meanings -/

/-- `TON` (R106, R126). -/
def execTon (e : Fin 12) (d : Dst) (a b : Src) (key : Word) (s : State) : Out :=
  azwin (opsCheck false [a, b] (some d) <|> checkIf 0x0C (keyOk key)) e (words2 d a b + 1)
    (fun x => x.eval2 key d a b fun k now p q => evalTon k now (isTrue p) q) s

/-- `TOF` (R106, R126). -/
def execTof (e : Fin 12) (d : Dst) (a b : Src) (key : Word) (s : State) : Out :=
  azwin (opsCheck false [a, b] (some d) <|> checkIf 0x0C (keyOk key)) e (words2 d a b + 1)
    (fun x => x.eval2 key d a b fun k now p q => evalTof k now (isTrue p) q) s

/-- `TP` (R106, R126). -/
def execTp (e : Fin 12) (d : Dst) (a b : Src) (key : Word) (s : State) : Out :=
  azwin (opsCheck false [a, b] (some d) <|> checkIf 0x0C (keyOk key)) e (words2 d a b + 1)
    (fun x => x.eval2 key d a b fun k now p q => evalTp k now (isTrue p) q) s

/-- `RTRIG` (R106, R127). -/
def execRtrig (e : Fin 12) (d : Dst) (a : Src) (key : Word) (s : State) : Out :=
  azwin (opsCheck false [a] (some d) <|> checkIf 0x0C (keyOk key)) e (words1 d a + 1)
    (fun x => x.eval1 key d a fun k _ p => evalTrig 4 k (isTrue p) true) s

/-- `FTRIG` (R106, R127). -/
def execFtrig (e : Fin 12) (d : Dst) (a : Src) (key : Word) (s : State) : Out :=
  azwin (opsCheck false [a] (some d) <|> checkIf 0x0C (keyOk key)) e (words1 d a + 1)
    (fun x => x.eval1 key d a fun k _ p => evalTrig 5 k (isTrue p) false) s

/-- `CTU` (R106, R128). -/
def execCtu (e : Fin 12) (d : Dst) (va : Fin 64) (b : Src) (key : Word) (s : State) : Out :=
  azwin (opsCheck false [b] (some d) <|> checkIf 0x04 (decide (va.val + 1 ≤ 63)) <|> checkIf 0x0C (keyOk key)) e
    (words1 d b + 1)
    (fun x => x.eval1 key d b fun k _ p => evalCtu k (isTrue (x.v va)) (isTrue (x.v (va + 1))) p) s

/-- `CTD` (R106, R128). -/
def execCtd (e : Fin 12) (d : Dst) (va : Fin 64) (b : Src) (key : Word) (s : State) : Out :=
  azwin (opsCheck false [b] (some d) <|> checkIf 0x04 (decide (va.val + 1 ≤ 63)) <|> checkIf 0x0C (keyOk key)) e
    (words1 d b + 1)
    (fun x => x.eval1 key d b fun k _ p => evalCtd k (isTrue (x.v va)) (isTrue (x.v (va + 1))) p) s

/-- `CTUD` (R106, R128). -/
def execCtud (e : Fin 12) (d : Dst) (va : Fin 64) (b : Src) (key : Word) (s : State) : Out :=
  azwin (opsCheck false [b] (some d) <|> checkIf 0x04 (decide (va.val + 3 ≤ 63)) <|> checkIf 0x0C (keyOk key)) e
    (words1 d b + 1)
    (fun x => x.eval1 key d b fun k _ p =>
      evalCtud k (isTrue (x.v va)) (isTrue (x.v (va + 1))) (isTrue (x.v (va + 2))) (isTrue (x.v (va + 3))) p) s

/-- `HYST` (R106, R129). -/
def execHyst (e : Fin 12) (d : Dst) (a : Src) (vb : Fin 64) (key : Word) (s : State) : Out :=
  azwin (opsCheck false [a] (some d) <|> checkIf 0x04 (decide (vb.val + 1 ≤ 63)) <|> checkIf 0x0C (keyOk key)) e
    (words1 d a + 1)
    (fun x => x.eval1 key d a fun k _ p => evalHyst k p (x.v vb) (x.v (vb + 1))) s

/-- `INTG` (R106, R130). -/
def execIntg (e : Fin 12) (d : Dst) (a : Src) (vb : Fin 64) (key : Word) (s : State) : Out :=
  azwin (opsCheck false [a] (some d) <|> checkIf 0x04 (decide (vb.val + 1 ≤ 63)) <|> checkIf 0x0C (keyOk key)) e
    (words1 d a + 1)
    (fun x => x.eval1 key d a fun k now p =>
      evalIntg k now (2 ^ x.t.cls * x.s.tb) p (isTrue (x.v vb)) (isTrue (x.v (vb + 1)))) s

/-- `STEPGO` (R106, R131). -/
def execStepgo (e : Fin 12) (d : Dst) (a b : Src) (key : Word) (s : State) : Out :=
  azwin (opsCheck false [a, b] (some d) <|> checkIf 0x0C (keyOk key)) e (words2 d a b + 1)
    (fun x => x.eval2 key d a b fun k now p q => evalStepgo k now p (isTrue q)) s

/-- `STEPIS` (R106, R131). -/
def execStepis (e : Fin 12) (d : Dst) (a : Src) (key : Word) (s : State) : Out :=
  azwin (opsCheck false [a] (some d) <|> checkIf 0x0C (keyOk key)) e (words1 d a + 1)
    (fun x => x.eval1 key d a fun k now p => evalStepis k now p) s

/-- `ORESET` (R106, R124, R132): with a false condition nothing is touched, staged or folded. -/
def execOreset (e : Fin 12) (a : Src) (key : Word) (s : State) : Out :=
  azwin (opsCheck false [a] none <|> checkIf 0x0C (keyOk key)) e (2 + a.words) (fun x =>
    let p := x.rd a
    if isTrue p.1 then
      let b := p.2.blk key.toNat
      p.2.wrBlk key.toNat { b with t0 := 0, t1 := 0, n := 0, flags := 0, kind := BitVec.ofNat 8 (p.2.kindOf key.toNat) }
    else p.2) s

end Sys2Proof.Machine
end

