-- ==== Sys2Proof/Machine/Plant.lean ====
section
/-!
DEFINITION. The plant ports (R399 to R405): what they consume, answer and forward; PTP and plant time (R409 to R414).
-/
namespace Sys2Proof.Machine

/-! ### Ports -/

/-- The other plant port. -/
def otherPlant : PlantPort → PlantPort
  | .a => .b
  | .b => .a

/-- `PLANT_PORT_UP` (R399). -/
def execPlantPortUp (p : PlantPort) (s : State) : Out :=
  .next (if s.rfb (F.PL_CTRL_EN (ppIdx p)) then s.wfb (F.PL_STAT_UP (ppIdx p)) true else s)

/-- `PLANT_PORT_DOWN` (R399). -/
def execPlantPortDown (p : PlantPort) (s : State) : Out := .next (s.wfb (F.PL_STAT_UP (ppIdx p)) false)

/-! ### What a port consumes (R400) -/

/-- A port runs and is up, and the device reads what arrives on it (R399, R400). -/
def State.plantOn (s : State) (p : PlantPort) : Bool :=
  s.plantUp p && !decide (s.dev = .parked) && !s.boot.held

/-- A frame is of a permitted length and VLAN. -/
def State.plantForm (s : State) (p : PlantPort) (fr : PlantFrame) : Bool :=
  decide (fr.len ≤ if fr.tagged then 1522 else 1518) &&
  (!s.rfb (F.PL_VLAN_TAGGED (ppIdx p)) || (fr.tagged && fr.vid.toNat == s.rf (F.PL_VLAN_VID (ppIdx p))))

/-- A frame is addressed to this device. -/
def State.toUs (s : State) (p : PlantPort) (fr : PlantFrame) : Bool := fr.bcast || fr.dstMac == s.ownMac p

/-- A unicast IPv4 packet to the own address, not a fragment. -/
def State.ipToUs (s : State) (p : PlantPort) (fr : PlantFrame) : Bool :=
  fr.etherType == 0x0800#16 && !fr.fragment && fr.ipv4Dst.toNat == s.ownIp p && s.toUs p fr

/-- A UDP datagram whose checksum holds. -/
def udpOk (fr : PlantFrame) : Bool := fr.ipProto == 17#8 && fr.udpSumOk

/-- An ARP message whose target is the own address (R400). -/
def State.isArp (s : State) (p : PlantPort) (fr : PlantFrame) : Bool :=
  fr.etherType == 0x0806#16 && s.toUs p fr && decide (fr.payload.length ≥ 28) && beAt fr.payload 24 4 == s.ownIp p

/-- An ICMP echo request to the own address. -/
def State.isEcho (s : State) (p : PlantPort) (fr : PlantFrame) : Bool :=
  s.ipToUs p fr && fr.ipProto == 1#8 && fr.icmpType == 8#8

/-- A PTP message of the transport that the image selects, on a port that it allows (R411). -/
def State.ptpPort (s : State) (p : PlantPort) : Bool :=
  s.rfb F.TIME_CFG_PTP_EN && (s.rf F.TIME_CFG_PORT == ppIdx p || s.rfb F.TIME_CFG_ALT)
def State.isPtp (s : State) (p : PlantPort) (fr : PlantFrame) : Bool :=
  s.ptpPort p && fr.ptpDomain.toNat == s.rf F.TIME_CFG_DOMAIN &&
  (if s.rfb F.TIME_CFG_UDP then
      fr.etherType == 0x0800#16 && !fr.fragment && fr.ipProto == 17#8 && (fr.udpSumOk || fr.udpSum == 0) &&
        (fr.udpDst == 319#16 || fr.udpDst == 320#16)
   else fr.etherType == 0x88F7#16)

/-- A telegram to a declared port, or a service datagram where the channel runs. -/
def State.isUdp (s : State) (p : PlantPort) (fr : PlantFrame) : Bool :=
  s.ipToUs p fr && udpOk fr &&
  (s.img.telegrams.any (fun t => !t.send && t.port == fr.udpDst) ||
   (fr.udpDst == 21056#16 && fr.udpSum != 0 && s.svcOn (if p = .a then 1 else 2)))

/-- The frames that a port consumes. -/
def State.consumes (s : State) (p : PlantPort) (fr : PlantFrame) : Bool :=
  s.plantForm p fr && fr.etherType != 0x8808#16 && (s.isArp p fr || s.isEcho p fr || s.isPtp p fr || s.isUdp p fr)

/-- `PLANT_FRAME_RECEIVE` (R399 to R402): a frame that is not consumed is discarded and counted; in LINE mode it is
forwarded, but for PAUSE frames and frames of a wrong form. -/
def execPlantFrameReceive (p : PlantPort) (fr : PlantFrame) (s : State) : Out :=
  .next (
    if !s.plantOn p then s
    else if !fr.fcsOk then
      { s.inc (F.PL_ERR_FCS (ppIdx p)) with hlth := { s.hlth with linkErr := satAdd 32 s.hlth.linkErr 1 } }
    else if s.consumes p fr then s
    else if s.lineMode && s.plantForm p fr && fr.etherType != 0x8808#16 then s
    else s.inc (F.PL_ERR_DISCARD (ppIdx p)))

/-! ### Answers -/

/-- The tag that the port sends with, and the length that it gives the frame. -/
def State.tagged (s : State) (p : PlantPort) (fr : PlantFrame) : PlantFrame :=
  { fr with
    len := etherLen (s.rfb (F.PL_VLAN_TAGGED (ppIdx p))) (fr.len - 18 - 4 * b2n fr.tagged)
    tagged := s.rfb (F.PL_VLAN_TAGGED (ppIdx p))
    vid := BitVec.ofNat 12 (s.rf (F.PL_VLAN_VID (ppIdx p)))
    pcp := BitVec.ofNat 3 (s.rf (F.PL_VLAN_PCP (ppIdx p))) }

/-- A frame turned back to its sender. -/
def State.turned (s : State) (p : PlantPort) (fr : PlantFrame) (body : List Byte) : PlantFrame :=
  s.tagged p { fr with
    dstMac := fr.srcMac, srcMac := s.ownMac p, bcast := false
    ipv4Dst := fr.ipv4Src, ipv4Src := BitVec.ofNat 32 (s.ownIp p), payload := body }

/-- The ARP reply to a request. -/
def State.arpReply (s : State) (p : PlantPort) (b : List Byte) : List Byte :=
  slice b 0 6 ++ [0, 2] ++ beBytes 6 (s.ownMac p).toNat ++ beBytes 4 (s.ownIp p) ++ slice b 8 10

/-- `ARP_REQUEST` (R400). -/
def execArpRequest (p : PlantPort) (fr : PlantFrame) (s : State) : Out :=
  .next (if s.plantOn p && fr.fcsOk && s.plantForm p fr && s.isArp p fr && beAt fr.payload 6 2 == 1 then
      let g := s.turned p fr (s.arpReply p fr.payload)
      s.sendPlant p g.len (.arp p g)
    else s)

/-- `ICMP_ECHO_REQUEST` (R400): the answer carries the request's data. -/
def execIcmpEchoRequest (p : PlantPort) (fr : PlantFrame) (s : State) : Out :=
  .next (if s.plantOn p && fr.fcsOk && s.plantForm p fr && s.isEcho p fr then
      let rest := fr.payload.drop 4
      let body := [0, 0] ++ beBytes 2 (inetSum ([0, 0, 0, 0] ++ rest)) ++ rest
      let g := { s.turned p fr body with icmpType := 0 }
      s.sendPlant p g.len (.icmp p g)
    else s)

/-! ### LINE (R402, R403) -/

/-- A PTP event message that a transparent clock corrects. -/
def ptpEvent (fr : PlantFrame) : Bool :=
  decide (fr.ptpType.toNat ≤ 3) &&
  (fr.etherType == 0x88F7#16 || (fr.etherType == 0x0800#16 && fr.ipProto == 17#8 && fr.udpDst == 319#16))

/-- The UDP checksum after eight bytes of the datagram change from `a` to `b` (RFC 1624); no checksum stays none, and one that comes
out 0 goes out as all ones. -/
def sumPatch (sum : Nat) (a b : Dword) : Nat :=
  if sum = 0 then 0
  else
    let part (x : Dword) (i : Nat) : Nat := bitsOf x.toNat (16 * i) 16
    let x := (List.range 4).foldl (fun n i => n + (65535 - part a i) + part b i) (65535 - sum)
    let y := x % 65536 + x / 65536
    udpCarry (65535 - (y % 65536 + y / 65536))

/-- A forwarded frame with its correction (R403). -/
def forwarded (fr : PlantFrame) (residenceNs : Nat) : PlantFrame :=
  if !ptpEvent fr then fr
  else
    let c := fr.corrField + BitVec.ofNat 64 (residenceNs * 65536)
    { fr with corrField := c, udpSum := if fr.etherType = 0x0800#16 then BitVec.ofNat 16 (sumPatch fr.udpSum.toNat fr.corrField c) else fr.udpSum }

/-- `LINE_FORWARD` (R402, R403): counted at the port that it leaves by (NOTES 43). -/
def execLineForward (p : PlantPort) (fr : PlantFrame) (residenceNs : Nat) (s : State) : Out :=
  .next (
    let q := otherPlant p
    if !s.lineMode || !s.plantOn p || !fr.fcsOk || (s.consumes p fr && !fr.bcast) || fr.etherType == 0x8808#16
      || !s.plantForm p fr || !s.plantUp q then s
    else if 262144 < (s.plant q).fifo + 8 * fr.len then s.inc (F.PL_FWD_DROPPED (ppIdx q))
    else
      let s := (s.inc (F.PL_FWD_FORWARDED (ppIdx q))).updPlant q fun x => { x with fifo := x.fifo + 8 * fr.len }
      let s := if ptpEvent fr then s.trackMax (F.PL_RES_MAX (ppIdx q)) (min 65535 residenceNs) else s
      s.send (.forward q (forwarded fr residenceNs)))

/-! ### The best master (R411, R412) -/

/-- The PTP follower's record changed. -/
def State.updPtp (s : State) (f : Ptp → Ptp) : State := { s with ptp := f s.ptp }

/-- The port in use (R412). -/
def State.ptpUsed (s : State) : PlantPort := if s.rfb F.TIME_STAT_PORT then .b else .a

/-- The device follows PTP messages of a domain and a transport on a port. -/
def State.ptpOn (s : State) (p : PlantPort) (domain : Byte) (udp : Bool) : Bool :=
  s.ptpPort p && s.plantUp p && domain.toNat == s.rf F.TIME_CFG_DOMAIN && udp == s.rfb F.TIME_CFG_UDP &&
    !decide (s.dev = .parked ∨ s.dev = .booting)

/-- The first of two lists of numbers is the smaller in lexicographic order. -/
def lexLt : List Nat → List Nat → Bool
  | a :: t, b :: u => decide (a < b) || (a == b && lexLt t u)
  | _, _ => false

/-- What the data set comparison of IEEE 1588 looks at between grandmasters, in its order; the smaller is the better. -/
def announceKey (a : Announce) : List Nat :=
  [a.priority1.toNat, a.clkClass.toNat, a.accuracy.toNat, a.variance.toNat, a.priority2.toNat, a.gm.toNat]

/-- Data set `a` is better than `b` (R412): by the grandmaster, or for one grandmaster by the path to it. -/
def betterSet (a b : Announce) : Bool :=
  if a.gm = b.gm then lexLt [a.steps.toNat, a.master.toNat, a.portNo.toNat] [b.steps.toNat, b.master.toNat, b.portNo.toNat]
  else lexLt (announceKey a) (announceKey b)

/-- The foreign-master window of IEEE 1588, in ns: four announce intervals. -/
def announceWindow (log : Int) : Nat :=
  if 0 ≤ log then 4000000000 * 2 ^ log.toNat else 4000000000 / 2 ^ (-log).toNat

/-- A foreign master qualifies at `now` (R412): two Announces within the window, and not too far from its grandmaster. -/
def Foreign.qualified (f : Foreign) (now : Nat) : Bool :=
  let w := announceWindow f.ann.logInterval
  decide (f.ann.steps.toNat < 255 ∧ now ≤ f.last + w) && f.prev.any fun t => decide (f.last ≤ t + w)

/-- The best master known on a port. -/
def State.bestOn (s : State) (p : PlantPort) : Option Announce :=
  ((s.ptp.foreign.filter fun f => f.port == p && f.qualified s.mono).map (·.ann)).foldl
    (fun b a => match b with | none => some a | some x => if betterSet a x then some a else b) none

/-- An Announce entered among the foreign masters. -/
def Ptp.hear (t : Ptp) (p : PlantPort) (a : Announce) (now : Nat) : Ptp :=
  let same (f : Foreign) : Bool := f.port == p && f.ann.master == a.master && f.ann.portNo == a.portNo
  { t with foreign := t.foreign.filter (fun f => !same f) ++ [⟨p, a, now, (t.foreign.find? same).map (·.last)⟩] }

/-- A master becomes the one that the device follows; a new one is acquired by its first offset (R413). -/
def State.follow (s : State) (p : PlantPort) (b : Announce) : State :=
  let same : Bool := s.ptpUsed == p && s.ptp.best.any fun o => o.master == b.master && o.portNo == b.portNo
  (s.wfb F.TIME_STAT_PORT (p == .b)).updPtp fun t => { t with
    best := some b, acquired := t.acquired && same, sync := if same then t.sync else none }

/-- Without a port in use the one that knows the better master is taken, the selected one where both offer the same (R412). -/
def State.chooseMaster (s : State) : State :=
  let sel : PlantPort := if s.rfb F.TIME_CFG_PORT then .b else .a
  match s.bestOn sel, s.bestOn (otherPlant sel) with
  | some x, some y => if y.gm ≠ x.gm ∧ betterSet y x then s.follow (otherPlant sel) y else s.follow sel x
  | some x, none => s.follow sel x
  | none, some y => s.follow (otherPlant sel) y
  | none, none => s

/-- `ANNOUNCE_RECEIVE` (R411, R412). -/
def execAnnounceReceive (p : PlantPort) (a : Announce) (s : State) : Out :=
  .next (
    if !s.ptpOn p a.domain a.udp then s
    else
      let s := s.updPtp fun t => t.hear p a s.mono
      if s.ptp.best.isNone then s.chooseMaster
      else if p ≠ s.ptpUsed then s
      else match s.bestOn p with
        | some b => s.follow p b
        | none => s)

/-- `TIME_STAT.SYNC` from the lock and the holdover (R414). -/
def State.syncStat (s : State) : State :=
  let held := s.rfb F.TIME_STAT_HOLDOVER &&
    s.ptp.lostAt.any fun t => decide (s.mono < t + s.rf F.TIME_CFG_HOLDOVER * 1000000000)
  s.wfb F.TIME_STAT_SYNC (s.rfb F.TIME_STAT_PTP_LOCKED || held)

/-- `ANNOUNCE_RECEIPT_TIMEOUT` (R412, R414): the port changes, or the master is lost. -/
def execAnnounceReceiptTimeout (p : PlantPort) (s : State) : Out :=
  .next (
    if !s.rfb F.TIME_CFG_PTP_EN then s
    else
      let s := s.updPtp fun t => { t with foreign := t.foreign.filter fun f => f.port != p }
      if p ≠ s.ptpUsed ∨ s.ptp.best.isNone then s
      else
        let q := otherPlant p
        match (if s.ptpPort q then s.bestOn q else none) with
        | some b => s.follow q b
        | none =>
          (((s.wfb F.TIME_STAT_PTP_LOCKED false).wfb F.TIME_STAT_HOLDOVER true).updPtp fun t => { t with
            best := none, acquired := false, sync := none, good := 0, bad := 0, lostAt := some s.mono }).syncStat)

/-- `PTP_HOLDOVER_EXPIRY` (R414). -/
def execPtpHoldoverExpiry (s : State) : Out := .next s.syncStat

/-! ### Offsets (R413) -/

/-- Plant time of a counter value, in ns. -/
def State.plantOf (s : State) (c : Word) : Nat := (s.plantAt c.toNat).1 * 1000000000 + (s.plantAt c.toNat).2

/-- Whether PTP sets the rate (R409): in READY, STOPPED and TRIPPED where it did last (NOTES 165). -/
def State.ptpRate (s : State) : Bool := !s.ptp.hbRef

/-- The lock after an offset. -/
def State.ptpLock (s : State) (near : Bool) : State :=
  let s := s.updPtp fun t => if near then { t with good := t.good + 1, bad := 0 } else { t with good := 0, bad := t.bad + 1 }
  let s := if 16 ≤ s.ptp.good then s.wfb F.TIME_STAT_PTP_LOCKED true else s
  (if 4 ≤ s.ptp.bad then s.wfb F.TIME_STAT_PTP_LOCKED false else s).syncStat

/-- A complete Sync: the master's time at receipt, without the path, and the receive stamp. -/
def State.takeSync (s : State) (master : Int) (rx : Word) : State :=
  let ms : Int := (s.plantOf rx : Int) - master
  let mpd : Int := s.rf F.TIME_MPD_MPD
  let ofs := ms - mpd
  let s := s.wf F.TIME_OFS_OFFSET (wrapTo 32 (max (-2147483648) (min 2147483647 ofs)))
  let step := !s.ptp.acquired || decide (1000000 < ofs.natAbs)
  let s := (s.wfb F.TIME_STAT_HOLDOVER (s.rfb F.TIME_STAT_HOLDOVER && s.ptp.acquired)).updPtp fun t => { t with
    acquired := true, lastOfs := ofs, msDelay := ms }
  let now := (master + mpd).toNat
  let s := if step then s.updPtp fun t => { t with stepTo := some (now / 1000000000, now % 1000000000, rx) }
    else if s.ptpRate then s.servo ofs else s
  s.ptpLock (decide (ofs.natAbs ≤ 1000))

/-- The device takes a Sync, a Follow_Up or a Delay_Resp of the master that it follows. -/
def State.fromMaster (s : State) (p : PlantPort) (domain : Byte) (udp : Bool) (m : Dword) : Bool :=
  s.ptpOn p domain udp && s.ptpUsed == p && s.ptp.best.any fun b => b.master == m

/-- An interval that the device accepts (R411). -/
def syncInterval (log : Int) : Bool := decide (-7 ≤ log ∧ log ≤ 0)

/-- The receive stamp of a frame that arrives now on a plant port (R404). -/
def State.rxStamp (s : State) (p : PlantPort) : Word := s.ns - BitVec.ofNat 32 (s.rf (F.PL_LAT_RX_LAT (ppIdx p)))

/-- The time that a Sync or a Follow_Up carries, with its correction, in ns. -/
def syncTime (y : SyncMsg) : Int := (y.originS.toNat : Int) * 1000000000 + y.originN.toNat + y.corr

/-- `SYNC_RECEIVE` (R404, R411, R413): a two-step one waits for its Follow_Up. -/
def execSyncReceive (p : PlantPort) (sy : SyncMsg) (s : State) : Out :=
  .next (
    if !s.fromMaster p sy.domain sy.udp sy.master || !syncInterval sy.logInterval then s
    else if sy.twoStep then s.updPtp fun t => { t with sync := some (sy, s.rxStamp p) }
    else (s.updPtp fun t => { t with sync := none }).takeSync (syncTime sy) (s.rxStamp p))

/-- `FOLLOW_UP_RECEIVE` (R413). -/
def execFollowUpReceive (p : PlantPort) (sy : SyncMsg) (s : State) : Out :=
  .next (
    if !s.fromMaster p sy.domain sy.udp sy.master then s
    else match s.ptp.sync with
      | some (x, rx) =>
        if x.seq ≠ sy.seq then s
        else (s.updPtp fun t => { t with sync := none }).takeSync (syncTime sy + x.corr) rx
      | none => s)

/-- A transmit stamp enters the queue of its port, or is dropped (R405). -/
def State.stamp (s : State) (p : PlantPort) (id : BitVec 16) (ns : Word) : State :=
  let x := s.plant p
  if 16 ≤ x.tsq.length then (s.wfb (F.PL_STAT_TSQ_OVF (ppIdx p)) true).inc (F.PL_TSQ_OVF_DROPPED (ppIdx p))
  else s.updPlant p fun x => { x with tsq := x.tsq ++ [⟨id, ns, x.seq⟩], seq := x.seq + 1 }

/-- The clock identity of the device: the EUI-64 of its MAC address (NOTES 166). -/
def State.clockId (s : State) (p : PlantPort) : List Byte :=
  let m := beBytes 6 (s.ownMac p).toNat
  m.take 3 ++ [0xFF, 0xFE] ++ m.drop 3

/-- The Delay_Req message of IEEE 1588-2019 with sequence number `id` (NOTES 166). -/
def State.delayReqBytes (s : State) (p : PlantPort) (id : BitVec 16) : List Byte :=
  [0x01, 0x12] ++ beBytes 2 44 ++ beBytes 1 (s.rf F.TIME_CFG_DOMAIN) ++ List.replicate 15 0 ++ s.clockId p ++ beBytes 2 1 ++
  beBytes 2 id.toNat ++ [0x01, 0x7F] ++ List.replicate 10 0

/-- A Delay_Req as it leaves over the transport of the image (R411). -/
def State.delayReqOut (s : State) (p : PlantPort) (id : BitVec 16) : NetOut :=
  let b := s.delayReqBytes p id
  if s.rfb F.TIME_CFG_UDP then s.plantUdp p 0xE0000181#32 319 319 b else ⟨s.txTag p, none, b⟩

/-- The next Delay_Req is due: the interval that the last Delay_Resp asked for has passed since the last one (R411). -/
def State.delayReqDue (s : State) : Bool :=
  s.ptp.reqAt.all fun t => decide (t + 1000000000 / 2 ^ (-s.ptp.logReq).toNat ≤ s.mono)

/-- `DELAY_REQ_SEND` (R404, R405, R411). -/
def execDelayReqSend (p : PlantPort) (id : BitVec 16) (s : State) : Out :=
  .next (
    if !s.plantUp p || s.ptpUsed != p || s.ptp.best.isNone || !s.rfb F.TIME_CFG_PTP_EN || !s.delayReqDue then s
    else
      let ns : Word := s.ns + BitVec.ofNat 32 (s.rf (F.PL_LAT_TX_LAT (ppIdx p)))
      let kept := decide ((s.plant p).tsq.length < 16)
      let d := s.delayReqOut p id
      ((s.sendPlant p d.len (.delayReq p id d)).stamp p id ns).updPtp fun t => { t with
        reqId := if kept then some id else none, reqNs := ns, reqAt := some s.mono })

/-- `DELAY_RESP_RECEIVE` (R411, R413): the mean path delay of IEEE 1588, from the last Sync and this exchange; the rate it asks for is
brought within the limits. -/
def execDelayRespReceive (p : PlantPort) (dr : DelayResp) (s : State) : Out :=
  .next (
    if !s.fromMaster p dr.domain dr.udp dr.master || s.ptp.reqId != some dr.seq then s
    else
      let sm : Int := (dr.rxS.toNat : Int) * 1000000000 + dr.rxN.toNat - dr.corr - s.plantOf s.ptp.reqNs
      let mpd := ((s.ptp.msDelay + sm) / 2).toNat
      (s.wf F.TIME_MPD_MPD (min mpd 0xFFFFFFFF)).updPtp fun t => { t with
        reqId := none, logReq := max (-7) (min 0 dr.logInterval) })

/-- The tail's share of plant time: a step computed in this tick, then the rebase (R410, R413). -/
def State.plantTail (s : State) : State :=
  let s := match s.ptp.stepTo with
    | none => s
    | some (sec, ns, rx) =>
      let s := ((s.wf F.TIME_PSEC_LO_SEC_LO (sec % 2 ^ 32)).wf F.TIME_PSEC_HI_SEC_HI (sec / 2 ^ 32)).wf F.TIME_PBASE_NS_BASE
        (wrapTo 32 ((rx.toNat : Int) - ns))
      s.updPtp fun t => { t with stepTo := none, msDelay := s.rf F.TIME_MPD_MPD }
  let d := (s.ns.toNat + 2 ^ 32 - s.rf F.TIME_PBASE_NS_BASE) % 2 ^ 32
  let k := d / 1000000000
  let sec := s.rf F.TIME_PSEC_LO_SEC_LO + 2 ^ 32 * s.rf F.TIME_PSEC_HI_SEC_HI + k
  if k = 0 then s
  else ((s.wf F.TIME_PSEC_LO_SEC_LO (sec % 2 ^ 32)).wf F.TIME_PSEC_HI_SEC_HI (sec / 2 ^ 32)).wf F.TIME_PBASE_NS_BASE
    ((s.rf F.TIME_PBASE_NS_BASE + k * 1000000000) % 2 ^ 32)

end Sys2Proof.Machine
end

