-- ==== Sys2Proof/Machine/Security.lean ====
section
/-!
DEFINITION. Debug unlock (R395 to R397), attestation (R390, R391), lifecycle and key slots (R392 to R394), faults of the security
engine (R398).
-/
namespace Sys2Proof.Machine

/-! ### Debug unlock (R395, R396) -/

/-- `DBG_NONCE` (R395). -/
def execDbgNonce (s : State) : Out := .next (if s.boot.por then s else s.send (.tap s.boot.nonce))

/-- `DBG_HOLD` (R395). -/
def execDbgHold (s : State) : Out :=
  .next (if s.boot.por then s
    else ({ s with boot := { s.boot with hold := true } } : State).wfb F.SEC_DBG_HOLD true)

/-- `DBG_TOKEN` (R395, R396): while the supervisor waits in SEALED it ends the window and the boot goes on; while RESET_N holds the
device in BOOTING it is kept for the boot that follows (NOTES 107). -/
def execDbgToken (token : List Byte) (s : State) : Out :=
  .next (
    if s.boot.waiting then (s.judgeToken token).bootRun
    else if s.dev = .booting ∧ s.boot.held ∧ !s.boot.por then { s with boot := { s.boot with token := some token } }
    else s)

/-- `DEBUG_HOLD_TIMEOUT` (R395). -/
def execDebugHoldTimeout (s : State) : Out :=
  .next (if s.boot.waiting then ({ s with boot := { s.boot with window := false } } : State).bootRun else s)

/-! ### Attestation (R391) -/

/-- A hash as 48 bytes, zeros where it is not verified. -/
def State.attestHash (s : State) (kind : Nat) : List Byte := slice ((s.running [kind]).headD []) 0 48

/-- Bytes 0x000 to 0x147 of the report. -/
def State.attestBody (s : State) (nonce : List Byte) : List Byte :=
  let before : Bool := decide (s.dev = .booting ∨ s.dev = .refused)
  let revoked := (List.range 4).foldl (fun m k => m + b2n (tget {} s.otp.keys k).revoked * 2 ^ k) 0
  let flags := b2n (s.rfb F.SEC_DBG_UNLOCKED) + 2 * b2n (s.rfb F.SEC_BOOT_SLOT) + 4 * b2n (s.rfb F.SEC_BOOT_ROM_ONLY)
  beBytes 4 0x41545354 ++ beBytes 2 1 ++ beBytes 1 s.otp.life ++ beBytes 1 (devCode s.dev) ++ beBytes 8 s.otp.id.toNat ++ nonce ++
  s.attestHash 1 ++ s.attestHash 2 ++ s.attestHash 3 ++ s.attestHash 4 ++ s.attestHash 6 ++
  beBytes 4 (if s.isPair then s.rf F.SAW_EPOCH_EPOCH else 0) ++ ((List.range 4).flatMap fun c => beBytes 1 (tget 0 s.otp.ctr c)) ++
  beBytes 8 (if before then 0 else s.n) ++ beBytes 1 flags ++ beBytes 1 revoked ++ beBytes 1 s.otp.step.toNat ++ List.replicate 5 0

/-- `ATTEST` (R391): a RETIRED device answers without a signature and without a certificate. -/
def execAttest (s : State) : Out :=
  .next (s.serve 0x30 fun r s =>
    s.openReq r fun s =>
    if r.body.length ≠ 49 then s.answer r 2
    else
      let b := s.attestBody (r.body.take 48)
      if s.otp.life = 3 then s.answer r 0 0 (b ++ List.replicate 96 0)
      else
        let (sig, s) := s.sign (sha384 b)
        let cert := if nbit (beAt r.body 48 1) 0 then s.otp.cert else []
        s.answer r 0 0 (b ++ sig ++ cert))

/-! ### Lifecycle and key slots (R393, R394) -/

/-- A lifecycle request for `target` at the front of the queue handled (R393); a malformed one belongs to SEAL. -/
def State.serveLife (s : State) (target : Nat) (f : SvcReq → State → State) : State :=
  match s.svc.queue with
  | r :: _ =>
    let tg := beAt r.body 0 1
    let mal : Bool := r.body.length != 16 || beAt r.body 1 7 != 0 || (tg != 2 && tg != 3)
    if tg = target ∨ (mal ∧ target = 2 ∧ tg ≠ 3) then
      s.serve 0x24 fun r s => s.guarded r 0x60 tg fun s =>
        if mal then s.refuse r 0x60 tg 2 0
        else if beAt r.body 8 8 ≠ s.otp.id.toNat then s.refuse r 0x60 tg 7 1
        else f r s
    else s
  | [] => s

/-- `LIFECYCLE_SEAL` (R393): SEALED governs from the next BOOTING. -/
def execLifecycleSeal (s : State) : Out :=
  .next (s.serveLife 2 fun r s =>
    if s.otp.life ≠ 1 ∨ !(List.range 4).any (fun k => s.keyServes k 1) then s.refuse r 0x60 2 7 2
    else
      let s := s.log 0x60 0 r.actor 2 none none
      ({ s with otp := { s.otp with sealed := (0xFFFFFFFF, 0xFFFFFFFF) } } : State).answer r 0)

/-- `LIFECYCLE_RETIRE` (R393): key and wrap root, REVOKE bytes and the RETIRED words, in this order, then BOOTING (NOTES 159). -/
def execLifecycleRetire (s : State) : Out :=
  .next (s.serveLife 3 fun r s =>
    if s.otp.life ≠ 1 ∧ s.otp.life ≠ 2 then s.refuse r 0x60 3 7 2
    else
      let s := (s.log 0x60 0 r.actor 3 none none).answer r 0
      let keys := (List.range 4).foldl (fun t k => tupd {} t k fun x => { x with revoked := true }) s.otp.keys
      ({ s with otp := { s.otp with
        root := List.replicate 32 0xFF, wrapped := List.replicate 56 0xFF, keys := keys
        retired := (0xFFFFFFFF, 0xFFFFFFFF) } } : State).resetNow 3 none)

/-- `KEYSLOT` (R394): an empty slot among 1 to 3, in OPEN. -/
def execKeyslot (s : State) : Out :=
  .next (s.serve 0x25 fun r s =>
    let k := beAt r.body 0 1
    let p := beAt r.body 1 1
    s.guarded r 0x61 k fun s =>
      if r.body.length ≠ 52 ∨ beAt r.body 2 2 ≠ 0 ∨ 8 ≤ p then s.refuse r 0x61 k 2 0
      else if k = 0 ∨ 4 ≤ k then s.refuse r 0x61 k 9 0
      else if s.boot.life ≠ 1 ∨ (tget {} s.otp.keys k).present then s.refuse r 0x61 k 7 1
      else
        let s := s.log 0x61 0 r.actor k none none
        let x : KeySlot := { tget {} s.otp.keys k with present := true, hash := r.body.drop 4, purpose := p }
        ({ s with otp := { s.otp with keys := tset {} s.otp.keys k x } } : State).answer r 0)

/-! ### Faults of the security engine (R398) -/

/-- `SECURITY_ENGINE_FAULT` (R398, R503): a fault of the random source or of the unwrap ends a boot or makes the grade UNFIT. -/
def execSecurityEngineFault (code : Byte) (s : State) : Out :=
  .next (
    let s := s.wf F.SEC_STAT_ERR code.toNat
    if code ≠ 1 ∧ code ≠ 3 then s
    else if s.dev = .booting then
      let s : State := { s with boot := { s.boot with secFault := true } }
      let s := if code = 3 then s.wfb F.SEC_STAT_KEY_OK false else s
      if s.boot.waiting then s.bootRun else s
    else { s with hlth := { s.hlth with cond := s.hlth.cond ||| 2048 } })

end Sys2Proof.Machine
end

