-- ==== Sys2Proof/Machine/Tick.lean ====
section
/-!
DEFINITION. The tick: its boundary (R29 to R31), freeze and gather (R37, R39, R76), the execute window (R40, R41),
dispatch (R44, R45), the tail (R34), the tick watchdog (R47).
-/
namespace Sys2Proof.Machine

/-! ### The boundary (R31) -/

/-- What the tick that ends leaves: strings, Seesaw, field link, accepted switch-offs (R19), triad links, finished flights. -/
def State.endTick (s : State) : State :=
  let n := s.n
  let s := ((List.range 16).filter fun k => s.rfb (F.STR_CTRL_EN k)).foldl (fun t k => t.stringEnd n k) s
  let s := (s.sawEnd n).fieldTick n
  let s := s.pdEnd.rackTick.readyStart
  let s := [TriLink.a, TriLink.b].foldl (fun t l => t.wfb (F.TL_STAT_PEER (tlIdx l)) (s.counted (s.peer l))) s
  let s := s.joinEnd
  { s with
    since := s.since + 1
    otp := { s.otp with old := none }
    flights := s.flights.filter fun (x : Flight) => decide (n < x.deadline)
    tri := { s.tri with
      thruA := s.triUse .a && !s.tri.downA, thruB := s.triUse .b && !s.tri.downB, downA := false, downB := false } }

/-- Step 1 of R31: the number, and the tick-start time latched. -/
def State.nextTick (s : State) : State :=
  { s with tick := s.tick + 1, tstart := BitVec.ofNat 64 s.mono, phase := 0 }

/-- A PAIR member that is locked to its partner, whatever state it has reached since READY, releases its transmitters (R262). -/
def State.unsquelch (s : State) : State :=
  if s.isPair && s.squelch && decide (s.dev ∈ [.ready, .syncing, .standby, .active]) &&
      s.refErr.any (fun e => decide (-1000 ≤ e ∧ e ≤ 1000)) then { s with squelch := false } else s

/-- What a boundary does once its transition has taken effect: messages of the tick, the grade, which aborts a handover if it is not
FIT (R261). -/
def State.openTick (s : State) : State :=
  let s := if s.isPair then s.earlyMessages else s
  let s := if s.isTriad then s.sendForces else s
  let s := s.unsquelch.gradeNow
  if s.dev = .active ∧ s.rf F.HLTH_GRADE_GRADE ≠ 0 then s.abortHandover else s

/-- `TICK_BOUNDARY` (R24, R30, R31, R48, R173, R504): number and start time, the books, the transition due, the length of the
tick by the state then reached, the freeze; at a boundary with commands of its own the freeze follows those. -/
def execTickBoundary (s : State) : Out :=
  .next (
    if !s.rfb F.TICK_STAT_RUNNING then s
    else
      let s := (s.endTick.keepErr.nextTick)
      let s := s.booksCheck s.n
      let moves := s.due.isSome || s.awaitsMove
      let s := s.enterDue
      let s := if s.sched.fenceTrip && !moves && s.dev != .tripped then s.trip 0x0B else s
      let s := s.alignTick.openTick
      { s with sched := { s.sched with freezeWaits := true } }.freezeOnce)

/-- `TICK_WATCHDOG_EXPIRY` (R46, R47): from the first boundary after the start of the tick generator; the
interval is as the watchdog measures it. -/
def execTickWatchdogExpiry (intervalNs : Nat) (s : State) : Out :=
  .next (if s.rfb F.TICK_STAT_RUNNING && s.n != 0 && decide (10 * intervalNs < 8 * s.tb ∨ 125 * s.tb < 100 * intervalNs) then
      (s.tickFault 3 0).trip 3 else s)

/-- `TICK_REFERENCE_LOST` (R50): the last tick length is held; LOCKED is cleared (NOTES 139). -/
def execTickReferenceLost (s : State) : Out :=
  .next (if s.rfb F.TICK_STAT_RUNNING && s.tickSrc != 0 then
      (s.wfb F.TICK_STAT_HOLDOVER true).wfb F.TICK_STAT_LOCKED false else s)

/-! ### Freeze and gather (R39, R76) -/

/-- The parts whose activation begins at this tick: of the frozen classes, where the device executes; a fenced bay takes
no freeze (R174). -/
def State.partsDue (s : State) : List (TaskDef × Placed) :=
  if !(s.serving || s.joins) then []
  else s.sched.placed.filterMap fun p =>
    match s.img.tasks[p.task]? with
    | some d =>
      if nbit (s.rf F.TICK_DUE_FROZEN) d.img.cls && !s.sched.shed.contains p.task && !nbit (s.rf F.SEQ_FENCE_FENCED) (bayOf p.code) then
        some (d, p) else none
    | none => none

/-- Those whose gather has not been made. -/
def State.ungathered (s : State) : List (TaskDef × Placed) :=
  s.partsDue.filter fun q => !s.flights.any fun x => x.task == q.2.task && x.shard == q.2.shard && x.f == s.n

/-- One part gathered and in flight (R33, R76). -/
def State.gatherOne (s : State) (q : TaskDef × Placed) : State :=
  if s.dev = .tripped then s
  else
    let s := s.gatherPart s.carriers q.1 q.2
    if s.dev = .tripped then s
    else
      let x : Flight := { task := q.2.task, shard := q.2.shard, f := s.n, tf := s.taskTime
                          deadline := s.n + 2 ^ q.1.img.cls - 1, gathered := true }
      let s : State := { s with flights := s.flights ++ [x] }
      match ((s.getEng (codeEngine q.2.code)).ready.find? fun (a : Act) => a.task == q.2.task && a.f == s.tick) with
      | some a => s.sendRehearsal a
      | none => s

/-- `GATHER` (R76, R289): the frozen tasks in the order of the task table; in TRIAD once the input vote of the tick is complete. -/
def execGather (s : State) : Out :=
  .next (
    if s.ungathered.isEmpty || (s.isTriad && s.tri.inVoted != some s.n) then s
    else
      let s := s.ungathered.foldl State.gatherOne s
      s.trackMax F.IMG_GATH_MAX_END s.permil)

/-- A freeze overrun (R39, R46, R76): a gather of this tick has not been made. -/
def State.freezeOverrun (s : State) : State :=
  match s.ungathered with
  | [] => s
  | q :: _ => (s.tickFault 2 q.1.img.cls).trip 2

/-- `FREEZE_DONE_POINT` (R39, R76): in TRIAD the gathers end by IV. -/
def execFreezeDonePoint (s : State) : Out := .next (if s.isTriad then s else s.freezeOverrun)

/-! ### The execute window (R40, R41) -/

/-- `EXECUTE_WINDOW_START` (R40, R76, R157): at F_d, in TRIAD at IV, the end of the gathers. -/
def execExecuteWindowStart (s : State) : Out :=
  .next (
    if !(s.serving || s.joins || s.dev == .standby) || s.handsOver then s
    else
      let s := if s.isTriad then s.freezeOverrun else s
      if s.dev = .tripped then s
      else
        let s := if s.sched.execOpen then s else (List.range 12).foldl State.rejoinQueue s
        let s : State := { s with sched := { s.sched with execOpen := true } }
        (List.range 12).foldl State.startNext s)

/-- `EXECUTE_WINDOW_END` (R41, R159): a SPLIT engine stops where it stands, and so does a twin whose engines stand at one
boundary; any other twin once its trailing engine has come as far as the leading one. -/
def execExecuteWindowEnd (s : State) : Out :=
  .next ((List.range 12).foldl State.settle { s with sched := { s.sched with execOpen := false } })

/-! ### Dispatch and tail (R34, R44, R45) -/

/-- Station L's output slots as dispatch holds them (R44, R428): those of the deadline classes take their values. -/
def State.holdField (s : State) : State :=
  let held := (List.range 32).map fun i =>
    let h := s.rf F.FIELD_BASE_BASE + 32 + i
    if (s.rangeOf h).any fun r => s.deadlineAt s.n r.cls then s.dispatchValue h else s.fctl.held.getD i 0
  s.updFctl fun c => { c with held := held }

/-- `DISPATCH` (R44, R45, R270, R355, R428, R450): the overrun check of SOLO and PAIR; the slots of the deadline classes then stand
for the strings and the field die, the mirror takes the tick, telegrams leave. -/
def execDispatch (s : State) : Out :=
  .next (
    if !s.rfb F.TICK_STAT_RUNNING then s
    else
      let s := if s.isTriad || s.handsOver then s else s.deadlineCheck (s.rf F.TICK_PH0_DISPATCH)
      if s.dev = .tripped then s
      else
        let s := if s.fieldOn then s.holdField else s
        ((s.mirrorAtD).sendTelegrams).canLoss)

/-- `TAIL_START` (R34, R373, R410, R459, R497, R505): self-tests, measurements, plant time, violations, a retain generation, the
health record. -/
def execTailStart (env : TailEnv) (s : State) : Out :=
  .next (
    if !s.rfb F.TICK_STAT_RUNNING then s
    else
      let s := (((s.selfTests env).measureTail env).ageRegs).plantTail
      let s := if s.dev = .tripped then s else s.journalViols
      let s := s.retainTail
      { s with hlth := { s.hlth with record := s.healthRecord env } })

end Sys2Proof.Machine
end

