-- ==== Sys2Proof/Machine/RegWrite.lean ====
section
/-!
DEFINITION. Register writes (R4 to R7): what a write stores, and the actions that the fields of R18, R54, R260, R350, R364, R379,
R408 and R473 trigger; the start of the tick generator (R54).
-/
namespace Sys2Proof.Machine

/-- `TICK_CFG.RUN` set (R54): a failed check refuses the image and the generator does not start; a set one stays (R53). -/
def State.startRun (s : State) : State :=
  if s.rfb F.TICK_CFG_RUN then s
  else if s.phaseOk then s.startTicks.beginFreeze
  else s.enter .refused

/-- `TICK_RUN` (R54). -/
def execTickRun (s : State) : Out := .next (if s.locked 0x40010000 then s else s.startRun)

/-- `SYS_PD.ON` written: an off or on request for each domain whose bit changes (R18 to R20). -/
def State.writePd (s : State) (v : Nat) : State :=
  (List.range 12).foldl (fun t d =>
    if nbit v d == nbit (s.reg pdAddr).toNat d then t else if nbit v d then t.pdOnReq d else t.pdOffReq d) s

/-- `TUMB_RESTART.REQ` written by the supervisor, which has accepted the request (R350). -/
def State.restartReq (s : State) : State :=
  if s.dev ≠ .tripped ∧ s.dev ≠ .refused then s
  else if s.causeCleared then (s.wf F.TUMB_RESTART_RESULT 1).resetNow 3 none
  else s.wf F.TUMB_RESTART_RESULT 3

/-- The action of a write of `v` at register address `a` (R5: WO, and the fields of `ownCommand`); `locked`: the block's lock
before the write (R7). -/
def State.regAction (s : State) (a : Nat) (locked : Bool) (v : Nat) : State :=
  if a = pdAddr then s.writePd v
  else if a = 0x40010000 then (if nbit v 3 && !locked then s.startRun else s)
  else if a = 0x40030014 then (if nbit v 31 && !locked then s.retagGo else s)
  else if a = 0x40070020 then (if nbit v 0 then s.updSaw fun w => { w with hovrReq := true } else s)
  else if a = 0x40090010 then (if nbit v 0 && bitsOf v 16 16 == 0xA5C3 then s.trip 0x0B else s)
  else if a = 0x40090018 then (if nbit v 0 then s.restartReq else s)
  else if a = 0x40110018 then (if nbit v 0 then s.timeLoad else s)
  else if a = 0x400C0008 then
    (if nbit v 0 || nbit v 1 then s.rackInject (nbit v 0) (nbit v 1) (bitsOf v 8 6) else s)
  else s

/-- Whether a write would give the entry of one of contexts 48 to 55 another mask than the table of R369, which the device refuses. -/
def State.maskRefused (s : State) (a : Nat) (v : Word) : Bool :=
  let m := s.fixedMasks s.img ((a - 0x40030400) / 8)
  decide (0x40030580 ≤ a ∧ a < 0x400305C0) &&
    (if a % 8 = 0 then v &&& 0xFFFEFFFE#32 != BitVec.ofNat 32 (m.1 + 65536 * m.2.1) else v &&& 0xFFFF#32 != BitVec.ofNat 32 m.2.2)

/-- A write command (R4 to R7): only context 55 may write a register (R53, R82 and the chapters), which the gate holds
other contexts to. -/
def State.doWrite (s : State) (ctx a n : Nat) (v : Word) : State :=
  if n = 0 ∨ 256 < n then s
  else match s.gate ctx a n .write with
    | (false, t) => t
    | (true, t) => if n ≠ 4 ∨ a % 4 ≠ 0 ∨ ctx ≠ 55 ∨ t.maskRefused a v then t else (t.storeReg a v).regAction a (t.locked a) v.toNat

/-- `REGISTER_WRITE` (R5, R7). -/
def execRegisterWrite (ctx : Fin 64) (addr : Word) (size : Nat) (val : Word) (s : State) : Out :=
  .next (s.doWrite ctx addr.toNat size val)

end Sys2Proof.Machine
end

