-- ==== Sys2Proof/Machine/Dispatch.lean ====
section
/-!
DEFINITION. What each command does: one arm for each row of the table, each a direct call of its meaning.
-/
namespace Sys2Proof.Machine

/-- The effect of a command on everything but the queue. -/
def exec (i : Instr) (s : State) : Host.Outcome State Fault Refusal :=
  match i with
  | .registerWrite ctx addr size val => Sys2Proof.Machine.execRegisterWrite ctx addr size val s
  | .readClear ctx addr size => Sys2Proof.Machine.execReadClear ctx addr size s
  | .tickNumLoRead => Sys2Proof.Machine.execTickNumLoRead s
  | .tickStartLoRead => Sys2Proof.Machine.execTickStartLoRead s
  | .timeNsRead => Sys2Proof.Machine.execTimeNsRead s
  | .tumbTimeLoRead => Sys2Proof.Machine.execTumbTimeLoRead s
  | .mirrLastLoRead => Sys2Proof.Machine.execMirrLastLoRead s
  | .plxTsqIdRead p => Sys2Proof.Machine.execPlxTsqIdRead p s
  | .gateVq0Read => Sys2Proof.Machine.execGateVq0Read s
  | .pdOffRequest d => Sys2Proof.Machine.execPdOffRequest d s
  | .pdOnRequest d => Sys2Proof.Machine.execPdOnRequest d s
  | .pdPowerUpDone d => Sys2Proof.Machine.execPdPowerUpDone d s
  | .tickRun => Sys2Proof.Machine.execTickRun s
  | .timeLoad => Sys2Proof.Machine.execTimeLoad s
  | .timeIncWrite v => Sys2Proof.Machine.execTimeIncWrite v s
  | .tumbCmdTrip key => Sys2Proof.Machine.execTumbCmdTrip key s
  | .rackCmdWake tgt => Sys2Proof.Machine.execRackCmdWake tgt s
  | .rackCmdPark tgt => Sys2Proof.Machine.execRackCmdPark tgt s
  | .retagGo count colour => Sys2Proof.Machine.execRetagGo count colour s
  | .retagDone => Sys2Proof.Machine.execRetagDone s
  | .canSleep p => Sys2Proof.Machine.execCanSleep p s
  | .tickBoundary => Sys2Proof.Machine.execTickBoundary s
  | .freezeDonePoint => Sys2Proof.Machine.execFreezeDonePoint s
  | .gather => Sys2Proof.Machine.execGather s
  | .executeWindowStart => Sys2Proof.Machine.execExecuteWindowStart s
  | .executeWindowEnd => Sys2Proof.Machine.execExecuteWindowEnd s
  | .dispatch => Sys2Proof.Machine.execDispatch s
  | .tailStart env => Sys2Proof.Machine.execTailStart env s
  | .tickWatchdogExpiry intervalNs => Sys2Proof.Machine.execTickWatchdogExpiry intervalNs s
  | .tickReferenceLost => Sys2Proof.Machine.execTickReferenceLost s
  | .replyReceive port f => Sys2Proof.Machine.execReplyReceive port f s
  | .forceApply => Sys2Proof.Machine.execForceApply s
  | .imageEccTrip addr => Sys2Proof.Machine.execImageEccTrip addr s
  | .deferredCommit => Sys2Proof.Machine.execDeferredCommit s
  | .twinCompare t env => Sys2Proof.Machine.execTwinCompare t env s
  | .injectionIntervalExpiry t => Sys2Proof.Machine.execInjectionIntervalExpiry t s
  | .injectionTestTail t env => Sys2Proof.Machine.execInjectionTestTail t env s
  | .engineSramEccError e => Sys2Proof.Machine.execEngineSramEccError e s
  | .bayFaultEvent b k => Sys2Proof.Machine.execBayFaultEvent b k s
  | .bayWindowClear => Sys2Proof.Machine.execBayWindowClear s
  | .fenceDecision => Sys2Proof.Machine.execFenceDecision s
  | .fenceEffect => Sys2Proof.Machine.execFenceEffect s
  | .bayDrained b => Sys2Proof.Machine.execBayDrained b s
  | .stringPortUp str => Sys2Proof.Machine.execStringPortUp str s
  | .stringPortDown str => Sys2Proof.Machine.execStringPortDown str s
  | .cueSend str => Sys2Proof.Machine.execCueSend str s
  | .relayCueSend str fs => Sys2Proof.Machine.execRelayCueSend str fs s
  | .rollcallSend str => Sys2Proof.Machine.execRollcallSend str s
  | .rollcallAnswerReceive port f => Sys2Proof.Machine.execRollcallAnswerReceive port f s
  | .delaysReceive f => Sys2Proof.Machine.execDelaysReceive f s
  | .admissionRequestSend str pos => Sys2Proof.Machine.execAdmissionRequestSend str pos s
  | .serviceRspReceive port f => Sys2Proof.Machine.execServiceRspReceive port f s
  | .serviceReqTimeout str => Sys2Proof.Machine.execServiceReqTimeout str s
  | .stationAdmit str pos => Sys2Proof.Machine.execStationAdmit str pos s
  | .stationAdmissionLoss str pos => Sys2Proof.Machine.execStationAdmissionLoss str pos s
  | .admitSend => Sys2Proof.Machine.execAdmitSend s
  | .admitReceive f => Sys2Proof.Machine.execAdmitReceive f s
  | .probationStart str pos => Sys2Proof.Machine.execProbationStart str pos s
  | .probationEnd str pos => Sys2Proof.Machine.execProbationEnd str pos s
  | .rejoinAckSet station => Sys2Proof.Machine.execRejoinAckSet station s
  | .heardMapsSend => Sys2Proof.Machine.execHeardMapsSend s
  | .heardMapsReceive maps => Sys2Proof.Machine.execHeardMapsReceive maps s
  | .relayEnd str => Sys2Proof.Machine.execRelayEnd str s
  | .forwardedReplyReceive str f => Sys2Proof.Machine.execForwardedReplyReceive str f s
  | .marionetteForward m port f => Sys2Proof.Machine.execMarionetteForward m port f s
  | .marionettePortDown m port => Sys2Proof.Machine.execMarionettePortDown m port s
  | .marionetteRollcallReceive m port t f => Sys2Proof.Machine.execMarionetteRollcallReceive m port t f s
  | .rollcallAnswerSend m turn => Sys2Proof.Machine.execRollcallAnswerSend m turn s
  | .serviceReqRead m port f => Sys2Proof.Machine.execServiceReqRead m port f s
  | .serviceReqWrite m port f => Sys2Proof.Machine.execServiceReqWrite m port f s
  | .serviceReqCommit m port f => Sys2Proof.Machine.execServiceReqCommit m port f s
  | .serviceReqDiscard m port f => Sys2Proof.Machine.execServiceReqDiscard m port f s
  | .marionetteCueReceive m port t f => Sys2Proof.Machine.execMarionetteCueReceive m port t f s
  | .marionetteReleaseReceive m port f => Sys2Proof.Machine.execMarionetteReleaseReceive m port f s
  | .stationSample m smp quals => Sys2Proof.Machine.execStationSample m smp quals s
  | .stationReplySend m => Sys2Proof.Machine.execStationReplySend m s
  | .stationApply m => Sys2Proof.Machine.execStationApply m s
  | .stationHoldExpiry m => Sys2Proof.Machine.execStationHoldExpiry m s
  | .objectControllerApply site => Sys2Proof.Machine.execObjectControllerApply site s
  | .pairLaneUp lane => Sys2Proof.Machine.execPairLaneUp lane s
  | .pairLaneDown lane => Sys2Proof.Machine.execPairLaneDown lane s
  | .heartbeatSend => Sys2Proof.Machine.execHeartbeatSend s
  | .heartbeatReceive f => Sys2Proof.Machine.execHeartbeatReceive f s
  | .grantSend => Sys2Proof.Machine.execGrantSend s
  | .grantReceive f => Sys2Proof.Machine.execGrantReceive f s
  | .helloSend => Sys2Proof.Machine.execHelloSend s
  | .helloReceive f => Sys2Proof.Machine.execHelloReceive f s
  | .pairTripReceive f => Sys2Proof.Machine.execPairTripReceive f s
  | .leasePoint => Sys2Proof.Machine.execLeasePoint s
  | .claimTickStart => Sys2Proof.Machine.execClaimTickStart s
  | .claimTickEnd => Sys2Proof.Machine.execClaimTickEnd s
  | .handover => Sys2Proof.Machine.execHandover s
  | .handoverCheck => Sys2Proof.Machine.execHandoverCheck s
  | .handoverTick => Sys2Proof.Machine.execHandoverTick s
  | .handoverBoundary => Sys2Proof.Machine.execHandoverBoundary s
  | .handoverUnconfirmed => Sys2Proof.Machine.execHandoverUnconfirmed s
  | .startWindowExpiry => Sys2Proof.Machine.execStartWindowExpiry s
  | .spareWaitExpiry => Sys2Proof.Machine.execSpareWaitExpiry s
  | .mirrorStreamStart => Sys2Proof.Machine.execMirrorStreamStart s
  | .mirrCommitSend => Sys2Proof.Machine.execMirrCommitSend s
  | .mirrorRecordLimit => Sys2Proof.Machine.execMirrorRecordLimit s
  | .mirrDataReceive f => Sys2Proof.Machine.execMirrDataReceive f s
  | .mirrCommitReceive f => Sys2Proof.Machine.execMirrCommitReceive f s
  | .mirrorApplyDone => Sys2Proof.Machine.execMirrorApplyDone s
  | .mirrAckReceive f => Sys2Proof.Machine.execMirrAckReceive f s
  | .recopyStart => Sys2Proof.Machine.execRecopyStart s
  | .copyDataSend n => Sys2Proof.Machine.execCopyDataSend n s
  | .sweepSend => Sys2Proof.Machine.execSweepSend s
  | .sweepReceive f => Sys2Proof.Machine.execSweepReceive f s
  | .sweepAnswerReceive f => Sys2Proof.Machine.execSweepAnswerReceive f s
  | .rehearsalSelect => Sys2Proof.Machine.execRehearsalSelect s
  | .rehearseInReceive f => Sys2Proof.Machine.execRehearseInReceive f s
  | .rehearseOutReceive f => Sys2Proof.Machine.execRehearseOutReceive f s
  | .rehearsalCompare => Sys2Proof.Machine.execRehearsalCompare s
  | .triadLinkUp l => Sys2Proof.Machine.execTriadLinkUp l s
  | .triadLinkDown l => Sys2Proof.Machine.execTriadLinkDown l s
  | .tsyncSend => Sys2Proof.Machine.execTsyncSend s
  | .tsyncReceive l f => Sys2Proof.Machine.execTsyncReceive l f s
  | .inputPhaseStart => Sys2Proof.Machine.execInputPhaseStart s
  | .idigReceive l f => Sys2Proof.Machine.execIdigReceive l f s
  | .blockExchangeStart => Sys2Proof.Machine.execBlockExchangeStart s
  | .iblkReceive l f => Sys2Proof.Machine.execIblkReceive l f s
  | .inputVote => Sys2Proof.Machine.execInputVote s
  | .voteDeadline => Sys2Proof.Machine.execVoteDeadline s
  | .outputPhaseStart => Sys2Proof.Machine.execOutputPhaseStart s
  | .odigReceive l f => Sys2Proof.Machine.execOdigReceive l f s
  | .oblkReceive l f => Sys2Proof.Machine.execOblkReceive l f s
  | .outputVote => Sys2Proof.Machine.execOutputVote s
  | .triadSelfTrip => Sys2Proof.Machine.execTriadSelfTrip s
  | .triadTripReceive l f => Sys2Proof.Machine.execTriadTripReceive l f s
  | .triadForceReceive l f => Sys2Proof.Machine.execTriadForceReceive l f s
  | .forceEffect => Sys2Proof.Machine.execForceEffect s
  | .rsDataReceive l f => Sys2Proof.Machine.execRsDataReceive l f s
  | .rsCommitReceive l f => Sys2Proof.Machine.execRsCommitReceive l f s
  | .joinCompare => Sys2Proof.Machine.execJoinCompare s
  | .coldStartPropose => Sys2Proof.Machine.execColdStartPropose s
  | .coldStartEnter => Sys2Proof.Machine.execColdStartEnter s
  | .switchMessageReceive l f => Sys2Proof.Machine.execSwitchMessageReceive l f s
  | .changeStage => Sys2Proof.Machine.execChangeStage s
  | .stageComplete => Sys2Proof.Machine.execStageComplete s
  | .changeSwitch => Sys2Proof.Machine.execChangeSwitch s
  | .switchTick => Sys2Proof.Machine.execSwitchTick s
  | .switchStopEnd => Sys2Proof.Machine.execSwitchStopEnd s
  | .switchResume => Sys2Proof.Machine.execSwitchResume s
  | .changeRollback => Sys2Proof.Machine.execChangeRollback s
  | .changeComplete => Sys2Proof.Machine.execChangeComplete s
  | .versionSend => Sys2Proof.Machine.execVersionSend s
  | .versionReceive f => Sys2Proof.Machine.execVersionReceive f s
  | .fieldDieSilence => Sys2Proof.Machine.execFieldDieSilence s
  | .telegramReceive p udpPort payload => Sys2Proof.Machine.execTelegramReceive p udpPort payload s
  | .telegramSkewExpiry conn => Sys2Proof.Machine.execTelegramSkewExpiry conn s
  | .telegramWatchdogExpiry conn => Sys2Proof.Machine.execTelegramWatchdogExpiry conn s
  | .passwordLockExpiry => Sys2Proof.Machine.execPasswordLockExpiry s
  | .tagEccError addr uncorrectable => Sys2Proof.Machine.execTagEccError addr uncorrectable s
  | .powerOnReset => Sys2Proof.Machine.execPowerOnReset s
  | .resetNAssert => Sys2Proof.Machine.execResetNAssert s
  | .tapSysreset => Sys2Proof.Machine.execTapSysreset s
  | .bootStepOverrun => Sys2Proof.Machine.execBootStepOverrun s
  | .dbgNonce => Sys2Proof.Machine.execDbgNonce s
  | .dbgHold => Sys2Proof.Machine.execDbgHold s
  | .dbgToken token => Sys2Proof.Machine.execDbgToken token s
  | .debugHoldTimeout => Sys2Proof.Machine.execDebugHoldTimeout s
  | .attest => Sys2Proof.Machine.execAttest s
  | .lifecycleSeal => Sys2Proof.Machine.execLifecycleSeal s
  | .lifecycleRetire => Sys2Proof.Machine.execLifecycleRetire s
  | .keyslot => Sys2Proof.Machine.execKeyslot s
  | .securityEngineFault code => Sys2Proof.Machine.execSecurityEngineFault code s
  | .plantPortUp p => Sys2Proof.Machine.execPlantPortUp p s
  | .plantFrameReceive p fr => Sys2Proof.Machine.execPlantFrameReceive p fr s
  | .arpRequest p fr => Sys2Proof.Machine.execArpRequest p fr s
  | .icmpEchoRequest p fr => Sys2Proof.Machine.execIcmpEchoRequest p fr s
  | .lineForward p fr residenceNs => Sys2Proof.Machine.execLineForward p fr residenceNs s
  | .announceReceive p a => Sys2Proof.Machine.execAnnounceReceive p a s
  | .syncReceive p sy => Sys2Proof.Machine.execSyncReceive p sy s
  | .followUpReceive p sy => Sys2Proof.Machine.execFollowUpReceive p sy s
  | .delayReqSend p id => Sys2Proof.Machine.execDelayReqSend p id s
  | .delayRespReceive p dr => Sys2Proof.Machine.execDelayRespReceive p dr s
  | .announceReceiptTimeout p => Sys2Proof.Machine.execAnnounceReceiptTimeout p s
  | .serviceRequestReceive d => Sys2Proof.Machine.execServiceRequestReceive d s
  | .login => Sys2Proof.Machine.execLogin s
  | .logout => Sys2Proof.Machine.execLogout s
  | .password => Sys2Proof.Machine.execPassword s
  | .read => Sys2Proof.Machine.execRead s
  | .write => Sys2Proof.Machine.execWrite s
  | .variableWriteApply => Sys2Proof.Machine.execVariableWriteApply s
  | .force => Sys2Proof.Machine.execForce s
  | .unforce => Sys2Proof.Machine.execUnforce s
  | .slotWrite => Sys2Proof.Machine.execSlotWrite s
  | .restart => Sys2Proof.Machine.execRestart s
  | .bayClear => Sys2Proof.Machine.execBayClear s
  | .logRead => Sys2Proof.Machine.execLogRead s
  | .health => Sys2Proof.Machine.execHealth s
  | .sessionIdleTimeout => Sys2Proof.Machine.execSessionIdleTimeout s
  | .fieldCommandSend => Sys2Proof.Machine.execFieldCommandSend s
  | .fieldCommandReceive c => Sys2Proof.Machine.execFieldCommandReceive c s
  | .fieldApply => Sys2Proof.Machine.execFieldApply s
  | .fieldSample x => Sys2Proof.Machine.execFieldSample x s
  | .fieldStatusReceive st => Sys2Proof.Machine.execFieldStatusReceive st s
  | .fieldHoldExpiry => Sys2Proof.Machine.execFieldHoldExpiry s
  | .fieldWatchdogExpiry => Sys2Proof.Machine.execFieldWatchdogExpiry s
  | .doOverload ch => Sys2Proof.Machine.execDoOverload ch s
  | .doOvertemp ch => Sys2Proof.Machine.execDoOvertemp ch s
  | .doGroupOverload g => Sys2Proof.Machine.execDoGroupOverload g s
  | .doOpenWire ch present => Sys2Proof.Machine.execDoOpenWire ch present s
  | .doTestPulse ch => Sys2Proof.Machine.execDoTestPulse ch s
  | .doPulseEnd ch fell => Sys2Proof.Machine.execDoPulseEnd ch fell s
  | .aoCompliance ch reached => Sys2Proof.Machine.execAoCompliance ch reached s
  | .aoReadbackFault ch present => Sys2Proof.Machine.execAoReadbackFault ch present s
  | .lPlusLow low => Sys2Proof.Machine.execLPlusLow low s
  | .canFrameReceive p f => Sys2Proof.Machine.execCanFrameReceive p f s
  | .canSendDue p => Sys2Proof.Machine.execCanSendDue p s
  | .canTxComplete p => Sys2Proof.Machine.execCanTxComplete p s
  | .canTxError p => Sys2Proof.Machine.execCanTxError p s
  | .canBusOff p => Sys2Proof.Machine.execCanBusOff p s
  | .canBusOffRecovery p => Sys2Proof.Machine.execCanBusOffRecovery p s
  | .canWake p ev => Sys2Proof.Machine.execCanWake p ev s
  | .supplyMonitor rail ns => Sys2Proof.Machine.execSupplyMonitor rail ns s
  | .clockMonitor ev => Sys2Proof.Machine.execClockMonitor ev s
  | .pwrFailAssert => Sys2Proof.Machine.execPwrFailAssert s
  | .retainFlushDone => Sys2Proof.Machine.execRetainFlushDone s
  | .retainGenerationCommit => Sys2Proof.Machine.execRetainGenerationCommit s
  | .rackFrameReceive w => Sys2Proof.Machine.execRackFrameReceive w s
  | .rackFrameSend => Sys2Proof.Machine.execRackFrameSend s
  | .chainHeadDetect => Sys2Proof.Machine.execChainHeadDetect s
  | .selftestPassDue item => Sys2Proof.Machine.execSelftestPassDue item s
  | .itemAged item => Sys2Proof.Machine.execItemAged item s
  | .panelUpdateStart => Sys2Proof.Machine.execPanelUpdateStart s
  | .panelRecordCommitted => Sys2Proof.Machine.execPanelRecordCommitted s
  | .panelUpdateDone => Sys2Proof.Machine.execPanelUpdateDone s
  | .panelAonRedraw => Sys2Proof.Machine.execPanelAonRedraw s
  | .nop e => Sys2Proof.Machine.execNop e s
  | .mov e d a => Sys2Proof.Machine.execMov e d a s
  | .sel e d a b => Sys2Proof.Machine.execSel e d a b s
  | .cvt e d a frm into rm => Sys2Proof.Machine.execCvt e d a frm into rm s
  | .satw e d a ty => Sys2Proof.Machine.execSatw e d a ty s
  | .ldx e d a off ty count => Sys2Proof.Machine.execLdx e d a off ty count s
  | .stx e a b off ty count => Sys2Proof.Machine.execStx e a b off ty count s
  | .ldxg e d a pos ty part count => Sys2Proof.Machine.execLdxg e d a pos ty part count s
  | .ldxk e d a idx ty count => Sys2Proof.Machine.execLdxk e d a idx ty count s
  | .stxo e a b h ty qual count => Sys2Proof.Machine.execStxo e a b h ty qual count s
  | .add e k d a b => Sys2Proof.Machine.execAdd e k d a b s
  | .sub e k d a b => Sys2Proof.Machine.execSub e k d a b s
  | .mul e k d a b => Sys2Proof.Machine.execMul e k d a b s
  | .div e k d a b => Sys2Proof.Machine.execDiv e k d a b s
  | .rem e k d a b => Sys2Proof.Machine.execRem e k d a b s
  | .adds e k d a b => Sys2Proof.Machine.execAdds e k d a b s
  | .subs e k d a b => Sys2Proof.Machine.execSubs e k d a b s
  | .muls e k d a b => Sys2Proof.Machine.execMuls e k d a b s
  | .neg e k d a => Sys2Proof.Machine.execNeg e k d a s
  | .abs e k d a => Sys2Proof.Machine.execAbs e k d a s
  | .min e k d a b => Sys2Proof.Machine.execMin e k d a b s
  | .max e k d a b => Sys2Proof.Machine.execMax e k d a b s
  | .ceq e k d a b => Sys2Proof.Machine.execCeq e k d a b s
  | .cne e k d a b => Sys2Proof.Machine.execCne e k d a b s
  | .clt e k d a b => Sys2Proof.Machine.execClt e k d a b s
  | .cle e k d a b => Sys2Proof.Machine.execCle e k d a b s
  | .sqrt e k d a => Sys2Proof.Machine.execSqrt e k d a s
  | .lim e k d a b => Sys2Proof.Machine.execLim e k d a b s
  | .and e d a b => Sys2Proof.Machine.execAnd e d a b s
  | .or e d a b => Sys2Proof.Machine.execOr e d a b s
  | .xor e d a b => Sys2Proof.Machine.execXor e d a b s
  | .not e d a => Sys2Proof.Machine.execNot e d a s
  | .shl e d a b => Sys2Proof.Machine.execShl e d a b s
  | .shr e d a b => Sys2Proof.Machine.execShr e d a b s
  | .sar e d a b => Sys2Proof.Machine.execSar e d a b s
  | .rol e d a b => Sys2Proof.Machine.execRol e d a b s
  | .btst e d a b => Sys2Proof.Machine.execBtst e d a b s
  | .bset e d a b => Sys2Proof.Machine.execBset e d a b s
  | .bclr e d a b => Sys2Proof.Machine.execBclr e d a b s
  | .lnot e d a => Sys2Proof.Machine.execLnot e d a s
  | .bfx e d a pos lenM1 => Sys2Proof.Machine.execBfx e d a pos lenM1 s
  | .bins e d a pos lenM1 => Sys2Proof.Machine.execBins e d a pos lenM1 s
  | .popc e d a => Sys2Proof.Machine.execPopc e d a s
  | .qtest e d a b => Sys2Proof.Machine.execQtest e d a b s
  | .qany e d a b => Sys2Proof.Machine.execQany e d a b s
  | .qmrg e d a b => Sys2Proof.Machine.execQmrg e d a b s
  | .br e off => Sys2Proof.Machine.execBr e off s
  | .brt e c off => Sys2Proof.Machine.execBrt e c off s
  | .brf e c off => Sys2Proof.Machine.execBrf e c off s
  | .loop e ctr count bound n => Sys2Proof.Machine.execLoop e ctr count bound n s
  | .call e vd va fn => Sys2Proof.Machine.execCall e vd va fn s
  | .ret e vr => Sys2Proof.Machine.execRet e vr s
  | .endTask e => Sys2Proof.Machine.execEndTask e s
  | .ton e d a b key => Sys2Proof.Machine.execTon e d a b key s
  | .tof e d a b key => Sys2Proof.Machine.execTof e d a b key s
  | .tp e d a b key => Sys2Proof.Machine.execTp e d a b key s
  | .rtrig e d a key => Sys2Proof.Machine.execRtrig e d a key s
  | .ftrig e d a key => Sys2Proof.Machine.execFtrig e d a key s
  | .ctu e d va b key => Sys2Proof.Machine.execCtu e d va b key s
  | .ctd e d va b key => Sys2Proof.Machine.execCtd e d va b key s
  | .ctud e d va b key => Sys2Proof.Machine.execCtud e d va b key s
  | .hyst e d a vb key => Sys2Proof.Machine.execHyst e d a vb key s
  | .intg e d a vb key => Sys2Proof.Machine.execIntg e d a vb key s
  | .stepgo e d a b key => Sys2Proof.Machine.execStepgo e d a b key s
  | .stepis e d a key => Sys2Proof.Machine.execStepis e d a key s
  | .oreset e a key => Sys2Proof.Machine.execOreset e a key s
  | .ridx e d => Sys2Proof.Machine.execRidx e d s
  | .rnxt e => Sys2Proof.Machine.execRnxt e s
  | .ared e n a op k => Sys2Proof.Machine.execAred e n a op k s
  | .clock e d => Sys2Proof.Machine.execClock e d s
  | .tickn e d => Sys2Proof.Machine.execTickn e d s
  | .jrnl e a vb => Sys2Proof.Machine.execJrnl e a vb s
  | .tgsend e a => Sys2Proof.Machine.execTgsend e a s
  | .streq e a => Sys2Proof.Machine.execStreq e a s
  | .panel e a b => Sys2Proof.Machine.execPanel e a b s
  | .stobj e d a b => Sys2Proof.Machine.execStobj e d a b s
  | .stack e a => Sys2Proof.Machine.execStack e a s
  | .resetNRelease => Sys2Proof.Machine.execResetNRelease s
  | .pwrFailRelease => Sys2Proof.Machine.execPwrFailRelease s
  | .plantPortDown p => Sys2Proof.Machine.execPlantPortDown p s
  | .serviceLinkUp => Sys2Proof.Machine.execServiceLinkUp s
  | .serviceLinkDown => Sys2Proof.Machine.execServiceLinkDown s
  | .ptpHoldoverExpiry => Sys2Proof.Machine.execPtpHoldoverExpiry s
  | .canRxError p => Sys2Proof.Machine.execCanRxError p s
  | .rackFrameGap => Sys2Proof.Machine.execRackFrameGap s
  | .selftestRequestAged item => Sys2Proof.Machine.execSelftestRequestAged item s
  | .aonWaveformDone => Sys2Proof.Machine.execAonWaveformDone s
  | .nvmOperationComplete => Sys2Proof.Machine.execNvmOperationComplete s
  | .debugAccess addr size kind data => Sys2Proof.Machine.execDebugAccess addr size kind data s
  | .partnerFrameReceive port f => Sys2Proof.Machine.execPartnerFrameReceive port f s
  | .marionettePowerUp m ty => Sys2Proof.Machine.execMarionettePowerUp m ty s
  | .marionettePowerLoss m => Sys2Proof.Machine.execMarionettePowerLoss m s
  | .marionettePortUp m port => Sys2Proof.Machine.execMarionettePortUp m port s

end Sys2Proof.Machine
end

