-- ==== Sys2Proof/Safety.lean ====
section
/-!
DEFINITION. What statements about runs speak of: the invariant of a state, and what a command leaves as it was.
-/
namespace Sys2Proof.Machine

/-- The invariant of a state: registers, memory and the numbered records in their one canonical form, at most 32 violation records
(R373), at most 16 entries in each transmit timestamp queue (R405). -/
structure State.Inv (s : State) : Prop where
  regs : tabWf resetWord s.regs = true
  mem : memWf s.mem = true
  eng : tabWf (fun _ => ({} : Engine)) s.eng = true
  sta : tabWf (fun _ => ({} : Sta)) s.sta = true
  str : tabWf (fun _ => ({} : StrS)) s.str = true
  mario : tabWf (fun _ => ({} : Mario)) s.mario = true
  tasks : tabWf (fun _ => ({} : TaskRec)) s.tasks = true
  tgRx : tabWf (fun _ => ({} : TgRx)) s.tgRx = true
  dirty : tabWf (fun _ => false) s.dirty = true
  viol : s.viol.length ≤ 32
  tsqA : s.plantA.tsq.length ≤ 16
  tsqB : s.plantB.tsq.length ≤ 16

/-- Every register but those at the listed addresses holds what it held. -/
def RegsBut (l : List Nat) (s t : State) : Prop := ∀ a, a ∉ l → t.reg a = s.reg a

/-- Every byte of memory reads as before. -/
def MemSame (s t : State) : Prop := ∀ a, t.rdB a = s.rdB a

/-- Every byte of memory outside the `n` bytes from `a` reads as before. -/
def MemBut (a n : Nat) (s t : State) : Prop := ∀ b, b < a ∨ a + n ≤ b → t.rdB b = s.rdB b

/-- The state but for its registers is unchanged. -/
def OnlyRegs (s t : State) : Prop := t = { s with regs := t.regs }

/-- Only the registers at the listed addresses differ. -/
def OnlyRegsAt (l : List Nat) (s t : State) : Prop := OnlyRegs s t ∧ RegsBut l s t

/-- What a trip for `cause` leaves (R344, R346, R364): TRIPPED, TRIP_N low, the cause, tick and time of the trip, no activation
on any engine, nothing in flight or deferred, no session, the SAFE command to the field die; memory as it was. -/
def Tripped (cause : Nat) (s t : State) : Prop :=
  t.dev = .tripped ∧ t.tripN = false ∧ t.rfb F.TUMB_STAT_TRIPPED = true ∧ t.rf F.TUMB_STAT_CAUSE = cause ∧
  t.rf F.TUMB_STAT_TICK_LO = s.tick.toNat % 65536 ∧
  t.tripTime = BitVec.ofNat 64 (s.ns.toNat + 2 ^ 32 * s.wrap.toNat) ∧
  (∀ e, (t.getEng e).cur = none ∧ (t.getEng e).ready = []) ∧ t.flights = [] ∧ t.deferred = [] ∧ t.svc.session = none ∧
  t.fctl.safe = true ∧ t.tick = s.tick ∧ t.mem = s.mem

/-- The request `r` stands at the front of the service queue and is to be acted on: its operation is permitted in this state, its
authorisation holds, and the NOR flash takes its log entry (R361, R419, R420, R423). -/
def Granted (op : Nat) (r : SvcReq) (q : List SvcReq) (s : State) : Prop :=
  s.svc.queue = r :: q ∧ r.op = op ∧ s.opAllowed op = true ∧ (s.authorise r).1 = 0 ∧ s.ret.norOk = true

/-- The last thing sent is the answer to `r` with this status, detail and body, as the datagram of its interface, and the request has left the queue. -/
def Answered (r : SvcReq) (q : List SvcReq) (status detail : Nat) (body : List Byte) (s t : State) : Prop :=
  t.tx = s.tx ++ [Tx.svc (r.rsp status detail body) (s.svcOut (r.rsp status detail body))] ∧ t.svc.queue = q

/-! ### An Azwin instruction -/

/-- Engine `e` executes activation `a` of task `d` in the execute window (R40, R159): it holds it, the image has the task, and the
activation has neither ended nor stopped at a checkpoint nor, on the trailing engine of a twin, caught up with the leading one. -/
def Executing (s : State) (e : Fin 12) (a : Act) (d : TaskDef) : Prop :=
  (s.getEng e).cur = some a ∧ s.img.tasks[a.task]? = some d ∧ s.mayRun e = true ∧ s.sched.execOpen = true

/-- That activation at an instruction of `w` words. -/
def atInstr (s : State) (e : Fin 12) (a : Act) (d : TaskDef) (w : Nat) : X :=
  { s := s, e := e, a := a, t := d.img, d := d, nxt := a.pc + w }

/-- Engine `e` holds activation `a`, and nothing else differs but its register `SEQ_ENGn`: no byte of memory, no other engine, no
other register, no port. -/
def Holds (e : Fin 12) (a : Act) (s t : State) : Prop :=
  t = { s with eng := t.eng, regs := t.regs } ∧ RegsBut [(F.SEQ_ENG_TASK e).addr] s t ∧
  t.getEng e = { s.getEng e with cur := some a } ∧ ∀ k, k ≠ e.val → t.getEng k = s.getEng k

/-- Engine `e` has retired one more instruction, which left `b`, and nothing else differs (R159). -/
def Went (e : Fin 12) (b : Act) (s t : State) : Prop := Holds e { b with steps := b.steps + 1 } s t

/-- What an instruction leaves whose operands and write made `y` of the activation `a`, and which neither ends the activation nor its
record: the activation at the next word, a `LOOP`'s back edge taken (R104). A trip at the gate ends it (R374). In TWIN mode a task
without ARRAY whose write would open a 1,025th entry stops at its checkpoint before it (R162). -/
def Ran (s : State) (e : Fin 12) (a : Act) (d : TaskDef) (y : X) (t : State) : Prop :=
  if y.s.dev = .tripped then t = y.s
  else if s.twinMode e = true ∧ d.img.array = false ∧ 1024 < y.a.staged.length then Holds e { a with check := true } s t
  else Holds e { Act.loops { y.a with pc := y.nxt } with steps := a.steps + 1 } y.s t

/-- The activation `a` after an instruction of `w` words that wrote `v` to register `r` and no more. -/
def landed (a : Act) (r : Fin 64) (v : Dword) (w : Nat) : Act :=
  Act.loops { (a.updFrame fun f => { f with v := tset 0 f.v r v }) with pc := a.pc + w }

/-- A truth value as a register holds it. -/
def oneIf (p : Prop) [Decidable p] : Dword := if p then 1 else 0

/-- The engine that an Azwin instruction runs on. -/
def engineOf (i : Instr) : Option (Fin 12) :=
  match i with
  | .nop e => some e
  | .mov e _ _ => some e
  | .sel e _ _ _ => some e
  | .cvt e _ _ _ _ _ => some e
  | .satw e _ _ _ => some e
  | .ldx e _ _ _ _ _ => some e
  | .stx e _ _ _ _ _ => some e
  | .ldxg e _ _ _ _ _ _ => some e
  | .ldxk e _ _ _ _ _ => some e
  | .stxo e _ _ _ _ _ _ => some e
  | .add e _ _ _ _ => some e
  | .sub e _ _ _ _ => some e
  | .mul e _ _ _ _ => some e
  | .div e _ _ _ _ => some e
  | .rem e _ _ _ _ => some e
  | .adds e _ _ _ _ => some e
  | .subs e _ _ _ _ => some e
  | .muls e _ _ _ _ => some e
  | .neg e _ _ _ => some e
  | .abs e _ _ _ => some e
  | .min e _ _ _ _ => some e
  | .max e _ _ _ _ => some e
  | .ceq e _ _ _ _ => some e
  | .cne e _ _ _ _ => some e
  | .clt e _ _ _ _ => some e
  | .cle e _ _ _ _ => some e
  | .sqrt e _ _ _ => some e
  | .lim e _ _ _ _ => some e
  | .and e _ _ _ => some e
  | .or e _ _ _ => some e
  | .xor e _ _ _ => some e
  | .not e _ _ => some e
  | .shl e _ _ _ => some e
  | .shr e _ _ _ => some e
  | .sar e _ _ _ => some e
  | .rol e _ _ _ => some e
  | .btst e _ _ _ => some e
  | .bset e _ _ _ => some e
  | .bclr e _ _ _ => some e
  | .lnot e _ _ => some e
  | .bfx e _ _ _ _ => some e
  | .bins e _ _ _ _ => some e
  | .popc e _ _ => some e
  | .qtest e _ _ _ => some e
  | .qany e _ _ _ => some e
  | .qmrg e _ _ _ => some e
  | .br e _ => some e
  | .brt e _ _ => some e
  | .brf e _ _ => some e
  | .loop e _ _ _ _ => some e
  | .call e _ _ _ => some e
  | .ret e _ => some e
  | .endTask e => some e
  | .ton e _ _ _ _ => some e
  | .tof e _ _ _ _ => some e
  | .tp e _ _ _ _ => some e
  | .rtrig e _ _ _ => some e
  | .ftrig e _ _ _ => some e
  | .ctu e _ _ _ _ => some e
  | .ctd e _ _ _ _ => some e
  | .ctud e _ _ _ _ => some e
  | .hyst e _ _ _ _ => some e
  | .intg e _ _ _ _ => some e
  | .stepgo e _ _ _ _ => some e
  | .stepis e _ _ _ => some e
  | .oreset e _ _ => some e
  | .ridx e _ => some e
  | .rnxt e => some e
  | .ared e _ _ _ _ => some e
  | .clock e _ => some e
  | .tickn e _ => some e
  | .jrnl e _ _ => some e
  | .tgsend e _ => some e
  | .streq e _ => some e
  | .panel e _ _ => some e
  | .stobj e _ _ _ => some e
  | .stack e _ => some e
  | _ => none

end Sys2Proof.Machine
end

