-- ==== Sys2Proof/Certificates/Slice0/Obligations.lean ====
section
/-!
DEFINITION. The statements about the machine, by family of commands.
-/
open Sys2Proof Sys2Proof.Machine

/-- A step runs the command at the front of the queue on the queue's rest; on an empty queue a period of the time clock
passes (log entry 1). -/
def Obligations.StepRunsFront : Prop :=
  (∀ (c : Instr) (rest : List Instr) (s : State), s.pending = c :: rest → step s = exec c { s with pending := rest }) ∧
  (∀ s : State, s.pending = [] → step s = .next s.clockPeriod)

/-- A period of the time clock adds `TIME_INC` to the time counter with its 28-bit fraction, and counts its wraps
(R406). The monotonic time is loaded in BOOTING, READY and SYNCING; elsewhere a load is ignored and sets LOAD_REFUSED
(R408). A `TIME_INC` outside its range takes the nearer limit and sets CLAMP (R407). The tick generator starts with
tick 0 when `TICK_CFG.RUN` is set and the phase points pass the checks of R34, and the freeze of tick 0 begins; if one
fails, the device refuses the image and no generator starts (R54). A locked or a set RUN makes the write void (R7,
R53). -/
def Obligations.TimeRuns : Prop :=
  (∀ s : State, s.pending = [] → ∃ t, step s = .next t ∧
     (2 ^ 28 * (t.ns.toNat + 2 ^ 32 * t.wrap.toNat) + t.acc.toNat) % 2 ^ 92 =
       (2 ^ 28 * (s.ns.toNat + 2 ^ 32 * s.wrap.toNat) + s.acc.toNat + (s.reg 0x4011000C).toNat) % 2 ^ 92 ∧
     t.regs = s.regs ∧ t.mem = s.mem ∧ t.tx = s.tx) ∧
  (∀ s : State, s.Inv →
     (∃ t, exec .timeLoad s = .next t ∧
       (if s.dev = .booting ∨ s.dev = .ready ∨ s.dev = .syncing then
         t = { s with ns := s.reg 0x40110010, wrap := s.reg 0x40110014, acc := 0 }
        else OnlyRegsAt [0x40110020] s t ∧ t.ns = s.ns ∧ t.wrap = s.wrap ∧ t.rfb F.TIME_STAT_LOAD_REFUSED = true)) ∧
     (∀ v : Word, ∃ t, exec (.timeIncWrite v) s = .next t ∧ OnlyRegsAt [0x4011000C, 0x40110020] s t ∧
       (t.reg 0x4011000C).toNat = max 0x3FF7CED9 (min 0x40083127 v.toNat) ∧
       t.rfb F.TIME_STAT_CLAMP = (s.rfb F.TIME_STAT_CLAMP || decide (v.toNat < 0x3FF7CED9 ∨ 0x40083127 < v.toNat)))) ∧
  (∀ s : State, s.Inv →
     (s.locked 0x40010000 = false → s.rfb F.TICK_CFG_RUN = false → s.phaseOk = true →
       ∃ u, exec .tickRun s = .next u.beginFreeze ∧ u.rfb F.TICK_CFG_RUN = true ∧ u.rfb F.TICK_STAT_RUNNING = true ∧
         RegsBut [0x40010000, 0x40010034] s u ∧
         u = { s with regs := u.regs, tick := 0, phase := 0, tlen := 62500 * 2 ^ s.rf F.TICK_CFG_TB
                      tstart := BitVec.ofNat 64 (s.ns.toNat + 2 ^ 32 * s.wrap.toNat) }) ∧
     (s.locked 0x40010000 = false → s.rfb F.TICK_CFG_RUN = false → s.phaseOk = false →
       ∃ t, exec .tickRun s = .next t ∧ t.dev = .refused ∧ t.rfb F.TICK_CFG_RUN = false ∧ t.mem = s.mem ∧
         RegsBut [F.MIRR_STAT_MERGING.addr, F.TRI_STAT_SET.addr, F.TRI_STAT_MODE.addr] s t) ∧
     (s.locked 0x40010000 = true ∨ s.rfb F.TICK_CFG_RUN = true → exec .tickRun s = .next s))

/-- What reset leaves: BOOTING (R22), every register at its Reset column (R8), no command waiting, all transmitters
squelched, held by the power-on reset. -/
def Obligations.ResetState : Prop :=
  State.reset.dev = .booting ∧ (∀ a, State.reset.reg a = resetWord a) ∧ State.reset.pending = [] ∧
  State.reset.squelch = true ∧ State.reset.boot.por = true ∧ State.reset.reg 0x4001003C = 0x03FF03FF#32 ∧
  State.reset.reg 0x40000010 = 0x0FFF0FFF#32 ∧ State.reset.reg 0x40010004 = 0x02BC0050#32

/-- The reset state meets the invariant. -/
def Obligations.ResetInv : Prop := State.reset.Inv

/-- Every step keeps the invariant: registers and memory stay canonical, the bounded queues stay within their bounds. -/
def Obligations.StepKeepsInv : Prop := ∀ s t : State, s.Inv → step s = .next t → t.Inv

/-- Every one of the 323 commands completes with a next state in every state, but for an Azwin instruction whose operands
the load-time verifier refuses (R113), which never runs: that one stops, and names the check it fails. (Code 0 of
`Instr.check` is no check of the verifier: it marks an arrival larger than the wire allows.) -/
def Obligations.EveryCommandCompletes : Prop :=
  (∀ (c : Instr) (s : State), c.check = none ∨ c.check = some 0 → ∃ t, exec c s = .next t) ∧
  (∀ (c : Instr) (s : State) (k : Nat), c.check = some k → k ≠ 0 → exec c s = .fault (.verifierRefuses k))

/-- A write through the gate gives each field what its access code says (R5, R7): RW the written bits, RWL the written
bits until the lock bit is set, W1C its old bits but for those written 1; every other field keeps its bits. For a
register whose write does no more than that. The writes that act (R5): `TIME_CTRL.LOAD` loads the time (R408),
`TIME_INC` is held to its range (R407), `TUMB_CMD.TRIP` with its key trips (R364), `RACK_CMD` injects (R473),
`TICK_CFG.RUN` starts the tick generator unless the block was locked (R7, R54), `SAW_HOVR.START` requests a handover
(R260, R266), each as its own command does it. The device refuses another mask than the table of R369 in an entry of
contexts 48 to 55: such a write changes nothing. -/
def Obligations.RegisterWriteFields : Prop :=
  (∀ (addr val : Word) (s : State) (b : BlockDef) (i : Nat) (r : RegDef) (f : FieldDef), s.Inv →
     s.gateOk 55 addr.toNat 4 .write = true → addr.toNat % 4 = 0 → findReg addr.toNat = some (b, i, r) → f ∈ r.fields →
     ownCommand addr.toNat f.lo = false → fixedBits addr.toNat = 0 →
     addr.toNat ∉ [0x40000010, 0x40010000, 0x40030014, 0x40070020, 0x40090010, 0x40090018, 0x400C0008, 0x400D0000, 0x400E0000,
       0x4011000C, 0x40110018] →
     ∃ t, exec (.registerWrite 55 addr 4 val) s = .next t ∧ OnlyRegsAt [addr.toNat] s t ∧
       (∀ k, f.lo ≤ k → k ≤ f.hi → nbit (t.reg addr.toNat).toNat k =
         match f.acc with
         | .rw => nbit val.toNat k
         | .rwl => if s.locked addr.toNat then nbit (s.reg addr.toNat).toNat k else nbit val.toNat k
         | .w1c => nbit (s.reg addr.toNat).toNat k && !nbit val.toNat k
         | _ => nbit (s.reg addr.toNat).toNat k)) ∧
  (∀ (val : Word) (s : State), s.Inv → (∀ a ∈ [0x40110018, 0x4011000C, 0x40090010, 0x400C0008, 0x40010000, 0x40070020], s.gateOk 55 a 4 .write = true) →
     (nbit val.toNat 0 = true → ∃ u, OnlyRegsAt [] s u ∧ exec (.registerWrite 55 0x40110018 4 val) s = exec .timeLoad u) ∧
     (exec (.registerWrite 55 0x4011000C 4 val) s = exec (.timeIncWrite val) s) ∧
     (nbit val.toNat 0 = true → ∃ u, OnlyRegsAt [] s u ∧
       exec (.registerWrite 55 0x40090010 4 val) s = exec (.tumbCmdTrip (BitVec.ofNat 16 (val.toNat / 65536))) u) ∧
     (nbit val.toNat 0 = true → nbit val.toNat 1 = false → ∃ u, OnlyRegsAt [] s u ∧
       exec (.registerWrite 55 0x400C0008 4 val) s = exec (.rackCmdWake (BitVec.ofNat 6 (val.toNat / 256))) u) ∧
     (nbit val.toNat 0 = false → nbit val.toNat 1 = true → ∃ u, OnlyRegsAt [] s u ∧
       exec (.registerWrite 55 0x400C0008 4 val) s = exec (.rackCmdPark (BitVec.ofNat 6 (val.toNat / 256))) u) ∧
     (nbit val.toNat 3 = true → nbit val.toNat 31 = false → s.locked 0x40010000 = false → ∃ u, OnlyRegsAt [0x40010000] s u ∧
       u.rfb F.TICK_CFG_RUN = s.rfb F.TICK_CFG_RUN ∧ exec (.registerWrite 55 0x40010000 4 val) s = exec .tickRun u) ∧
     (nbit val.toNat 0 = true → ∃ t, exec (.registerWrite 55 0x40070020 4 val) s = .next t ∧
       t = { s with regs := t.regs, saw := { s.saw with hovrReq := true } } ∧ RegsBut [] s t)) ∧
  (∀ (addr val : Word) (s : State), s.gateOk 55 addr.toNat 4 .write = true → 0x40030580 ≤ addr.toNat → addr.toNat < 0x400305C0 →
     let m := s.fixedMasks s.img ((addr.toNat - 0x40030400) / 8)
     (if addr.toNat % 8 = 0 then val &&& 0xFFFEFFFE#32 ≠ BitVec.ofNat 32 (m.1 + 65536 * m.2.1)
      else val &&& 0xFFFF#32 ≠ BitVec.ofNat 32 m.2.2) →
     exec (.registerWrite 55 addr 4 val) s = .next s)

/-- An access through the gate that is not 4 bytes wide or not 4-byte aligned reads 0 and has no effect on write (R4); so
does one at an address that no register holds (R15). A read of a register returns its word and sets its RC fields, and
no other field of it, back to their Reset column (R5), for a register whose read latches nothing. -/
def Obligations.RegisterReads : Prop :=
  (∀ (ctx : Fin 64) (addr val : Word) (n : Nat) (s : State), 1 ≤ n → n ≤ 256 →
     (n ≠ 4 ∨ addr.toNat % 4 ≠ 0 ∨ findReg addr.toNat = none) →
     (s.gateOk ctx addr.toNat n .write = true → exec (.registerWrite ctx addr n val) s = .next s) ∧
     (s.gateOk ctx addr.toNat n .read = true → exec (.readClear ctx addr n) s = .next { s with rdata := 0 })) ∧
  (∀ (ctx : Fin 64) (addr : Word) (s : State) (b : BlockDef) (i : Nat) (r : RegDef), s.Inv →
     s.gateOk ctx addr.toNat 4 .read = true → addr.toNat % 4 = 0 → findReg addr.toNat = some (b, i, r) →
     addr.toNat ∉ [0x40010020, 0x40010028, 0x40110004, 0x40090004, 0x40060018, 0x40120024, 0x40130024, 0x40030020] →
     ∃ t, exec (.readClear ctx addr 4) s = .next t ∧ t.rdata = s.readReg addr.toNat ∧
       t = { s with rdata := t.rdata, regs := t.regs } ∧ RegsBut [addr.toNat] s t ∧
       (∀ f ∈ r.fields, ∀ k, f.lo ≤ k → k ≤ f.hi → nbit (t.reg addr.toNat).toNat k =
         if f.acc = .rc then nbit f.rst (k - f.lo) else nbit (s.reg addr.toNat).toNat k))

/-- The reads that latch the other half of a number, or remove a queue's head: `TICK_NUM_LO`, `TICK_START_LO` (R53),
`TIME_NS` (R406), `TUMB_TIME_LO` (R364), `MIRR_LAST_LO` (R293), `GATE_VQ0` (R379), `PLx_TSQ_ID` (R405), each by
context 55, whose read mask passes colour 15. -/
def Obligations.LatchingReads : Prop :=
  ∀ s : State, s.Inv → nbit (s.rf (F.GATE_CTX_RW_READ_MASK 55)) 15 = true →
    (∃ t, exec .tickNumLoRead s = .next t ∧ t.rdata = s.tick.setWidth 32 ∧ t.reg 0x40010024 = (s.tick >>> 32).setWidth 32 ∧
      RegsBut [0x40010024] s t ∧ t = { s with rdata := t.rdata, regs := t.regs }) ∧
    (∃ t, exec .tickStartLoRead s = .next t ∧ t.rdata = s.tstart.setWidth 32 ∧
      t.reg 0x4001002C = (s.tstart >>> 32).setWidth 32 ∧
      RegsBut [0x4001002C] s t ∧ t = { s with rdata := t.rdata, regs := t.regs }) ∧
    (∃ t, exec .timeNsRead s = .next t ∧ t.rdata = s.ns ∧ t.reg 0x40110008 = s.wrap ∧
      RegsBut [0x40110008] s t ∧ t = { s with rdata := t.rdata, regs := t.regs }) ∧
    (∃ t, exec .tumbTimeLoRead s = .next t ∧ t.rdata = s.tripTime.setWidth 32 ∧
      t.reg 0x40090008 = (s.tripTime >>> 32).setWidth 32 ∧
      RegsBut [0x40090008] s t ∧ t = { s with rdata := t.rdata, regs := t.regs }) ∧
    (∃ t, exec .mirrLastLoRead s = .next t ∧
      t.rdata = BitVec.ofNat 32 (if s.dev = .syncing ∨ s.dev = .standby then s.mirr.applied else s.mirr.lastSent.getD 0) ∧
      t.reg 0x4006001C =
        BitVec.ofNat 32 ((if s.dev = .syncing ∨ s.dev = .standby then s.mirr.applied else s.mirr.lastSent.getD 0) / 2 ^ 32) ∧
      RegsBut [0x4006001C] s t ∧ t = { s with rdata := t.rdata, regs := t.regs }) ∧
    (∃ t, exec .gateVq0Read s = .next t ∧
      match s.viol with
      | [] => t = { s with rdata := 0 }
      | v :: l => t.rdata = v.w0 ∧ t.reg 0x40030024 = v.w1 ∧ t.reg 0x40030028 = v.w2 ∧ t.reg 0x4003002C = v.w3 ∧
          t.viol = l ∧ RegsBut [0x40030024, 0x40030028, 0x4003002C] s t ∧
          t = { s with rdata := t.rdata, regs := t.regs, viol := l }) ∧
    (∀ p, ∃ t, exec (.plxTsqIdRead p) s = .next t ∧
      match (s.plant p).tsq with
      | [] => nbit t.rdata.toNat 31 = false ∧ t = { s with rdata := t.rdata }
      | e :: l => t.rdata = BitVec.ofNat 32 (e.id.toNat + 2 ^ 16 * e.seq.toNat + 2 ^ 31) ∧
          t.reg (match p with | .a => 0x40120028 | .b => 0x40130028) = e.ns ∧
          RegsBut [match p with | .a => 0x40120028 | .b => 0x40130028] s t ∧
          t = ({ s with rdata := t.rdata, regs := t.regs } : State).updPlant p fun x => { x with tsq := l })

/-- Power domains. An accepted off request of a switchable domain whose condition of R18 holds clears ON, and the
domain is switched off with its ACK at the end of the tick (R19), or at once where no tick runs; else ON returns to 1
and DENIED sets; during a flush it waits for its end (R472). An on request sets ON and takes back a switch-off not yet
carried out; ACK sets when the domain has come up, with its registers in reset (R20). The domains that do not switch
ignore both requests. No other field of `SYS_PD` changes. Rack-chain commands queue for injection (R467, R473).
CAN_SLEEP cancels what has not started, and the port sleeps once no frame of its own is on its bus (R451). -/
def Obligations.PowerDomainsAndRackCommands : Prop :=
  (∀ (d : Fin 12) (s : State), s.Inv →
     (d.val ∈ [4, 5, 6, 8, 9, 11] → s.ret.flushing = false → s.pdOffOk d.val = true → s.rfb F.TICK_STAT_RUNNING = true →
       ∃ t, exec (.pdOffRequest d) s = .next t ∧ RegsBut [0x40000010] s t ∧
         t = { s with regs := t.regs, ret := { s.ret with offDue := s.ret.offDue.filter (· != d.val) ++ [d.val] } } ∧
         ∀ k, k < 32 → nbit (t.reg 0x40000010).toNat k = (nbit (s.reg 0x40000010).toNat k && decide (k ≠ d.val))) ∧
     (d.val ∈ [4, 5, 6, 8, 9, 11] → s.ret.flushing = false → s.pdOffOk d.val = true → s.rfb F.TICK_STAT_RUNNING = false →
       ∃ t, exec (.pdOffRequest d) s = .next t ∧ RegsBut [0x40000010] s t ∧ t.mem = s.mem ∧
         (d.val = 11 → t.field = {}) ∧ (d.val ≠ 11 → OnlyRegs s t) ∧
         ∀ k, k < 32 → nbit (t.reg 0x40000010).toNat k =
           (nbit (s.reg 0x40000010).toNat k && decide (k ≠ d.val ∧ k ≠ 16 + d.val))) ∧
     (d.val ∈ [4, 5, 6, 8, 9, 11] → s.ret.flushing = false → s.pdOffOk d.val = false →
       ∃ t, exec (.pdOffRequest d) s = .next t ∧ OnlyRegsAt [0x40000010] s t ∧
         ∀ k, k < 32 → nbit (t.reg 0x40000010).toNat k = (nbit (s.reg 0x40000010).toNat k || decide (k = d.val ∨ k = 31))) ∧
     (d.val ∈ [4, 5, 6, 8, 9, 11] → s.ret.flushing = true → exec (.pdOffRequest d) s =
       .next { s with ret := { s.ret with offLater := s.ret.offLater ++ [d.val] } }) ∧
     (d.val ∈ [4, 5, 6, 8, 9, 11] → ∃ t, exec (.pdOnRequest d) s = .next t ∧ RegsBut [0x40000010] s t ∧
       t = { s with regs := t.regs, ret := { s.ret with offDue := s.ret.offDue.filter (· != d.val) } } ∧
       ∀ k, k < 32 → nbit (t.reg 0x40000010).toNat k = (nbit (s.reg 0x40000010).toNat k || decide (k = d.val))) ∧
     (d.val ∉ [4, 5, 6, 8, 9, 11] → exec (.pdOffRequest d) s = .next s ∧ exec (.pdOnRequest d) s = .next s) ∧
     (nbit (s.reg 0x40000010).toNat d = true → nbit (s.reg 0x40000010).toNat (16 + d.val) = false →
       ∃ t, exec (.pdPowerUpDone d) s = .next t ∧
         (∀ k, k < 32 → nbit (t.reg 0x40000010).toNat k = (nbit (s.reg 0x40000010).toNat k || decide (k = 16 + d.val))) ∧
         (d.val = 8 → t.mem = s.mem ∧ ∀ a, 0x40200000 ≤ a → a < 0x40280000 → t.reg a = resetWord a) ∧
         (d.val = 9 → t.mem = s.mem ∧ ∀ a, 0x40280000 ≤ a → a < 0x40300000 → t.reg a = resetWord a) ∧
         (d.val = 11 → t.mem = s.mem ∧ t.field = {} ∧ ∀ a, 0x40100000 ≤ a → a < 0x40110000 → t.reg a = resetWord a) ∧
         (d.val ∈ [4, 5, 6] → MemBut (0x30000000 + 0x4000000 * (d.val - 4)) 0x4000000 s t ∧
           (∀ e, e / 4 = d.val - 4 → t.getEng e = {}) ∧
           ∀ a, 0x40050100 + 16 * (d.val - 4) ≤ a → a < 0x40050110 + 16 * (d.val - 4) → t.reg a = resetWord a)) ∧
     (nbit (s.reg 0x40000010).toNat d = false ∨ nbit (s.reg 0x40000010).toNat (16 + d.val) = true →
       exec (.pdPowerUpDone d) s = .next s)) ∧
  (∀ s : State, s.Inv →
     (∀ tgt : BitVec 6, exec (.rackCmdWake tgt) s =
       .next { s with rack := { s.rack with inject := s.rack.inject ++ [(true, false, tgt.toNat)] } }) ∧
     (∀ tgt : BitVec 6, exec (.rackCmdPark tgt) s =
       .next { s with rack := { s.rack with inject := s.rack.inject ++ [(false, true, tgt.toNat)] } }) ∧
     (∀ p : Fin 2, ∃ t, exec (.canSleep p) s = .next t ∧ (t.can p).pend = (s.can p).pend.filter (·.started) ∧
       t.can (1 - p.val) = s.can (1 - p.val) ∧ t.mem = s.mem ∧ t.tx = s.tx ∧
       ((s.can p).wakeDue = false → t.rfb (F.CAN_CTRL_SLEEP p) = true) ∧
       ((s.can p).wakeDue = false → (∀ x ∈ (s.can p).pend, x.started = false) →
         t.rf (F.CAN_STAT_STATE p) = 3 ∧ (t.can p).stb = true) ∧
       ((∃ x ∈ (s.can p).pend, x.started = true) → (t.can p).stb = (s.can p).stb)))

/-- The causes of a trip that a command of their own reports, in a state from which the Tumbler trips (R22, R343): the
supervisor's command with its key, a tick-watchdog interval (R47), silence of the field die (R345), an error of memory
outside bank L (R69), an uncorrectable tag error (R377), a clock fault (R532), a triad self-trip (R310). Where these
commands trip nothing: a wrong key, an interval within the limits, a field die with fewer than three silent ticks, an
error of bank L, which marks its line, a corrected tag error, which is counted, a fault shorter than the bounds of its
clock monitor. -/
def Obligations.TripCauses : Prop :=
  (∀ s : State, s.Inv → trippable s.dev = true →
     (∃ t, exec (.tumbCmdTrip 0xA5C3) s = .next t ∧ Tripped 0xB s t) ∧
     (∀ ns, s.rfb F.TICK_STAT_RUNNING = true → s.tick.toNat ≠ 0 → 10 * ns < 8 * s.tb ∨ 125 * s.tb < 100 * ns →
       ∃ t, exec (.tickWatchdogExpiry ns) s = .next t ∧ Tripped 3 s t) ∧
     (s.expectsField = true → 3 ≤ s.fctl.misses → ∃ t, exec .fieldDieSilence s = .next t ∧ Tripped 8 s t) ∧
     (∀ addr : Word, 0x82800000 ≤ addr.toNat → addr.toNat < 0x90000000 →
       ∃ t, exec (.imageEccTrip addr) s = .next t ∧ Tripped 0xB s t) ∧
     (∀ addr : Word, 0x82800000 ≤ addr.toNat → addr.toNat < 0x90000000 →
       ∃ t, exec (.tagEccError addr true) s = .next t ∧ Tripped 0xB s t ∧ t.colourOf addr.toNat = 0) ∧
     (∀ ns, 4000 ≤ ns → ∃ t, exec (.clockMonitor (.refRange ns)) s = .next t ∧ Tripped 0xA s t) ∧
     (s.isTriad = true → s.dev = .member ∨ s.dev = .benched → s.tri.outVoted = some s.n →
       s.rf F.TRI_CFG_TRIPCNT ≤ s.rf F.TRI_STAT_MINCNT →
       ∃ t, exec .triadSelfTrip s = .next t ∧ Tripped 0xC s t)) ∧
  (∀ s : State,
     (∀ key : BitVec 16, key ≠ 0xA5C3 → exec (.tumbCmdTrip key) s = .next s) ∧
     (∀ ns, 8 * s.tb ≤ 10 * ns → 100 * ns ≤ 125 * s.tb → exec (.tickWatchdogExpiry ns) s = .next s) ∧
     (s.fctl.misses < 3 → exec .fieldDieSilence s = .next s) ∧
     (∀ addr : Word, 0x80000000 ≤ addr.toNat → addr.toNat < 0x82800000 → ∃ t, exec (.imageEccTrip addr) s = .next t ∧
       t.eccBad = tset false s.eccBad ((addr.toNat - 0x80000000) / 64) true ∧ t = { s with eccBad := t.eccBad }) ∧
     (∀ addr : Word, 0x80000000 ≤ addr.toNat → ∃ t, exec (.tagEccError addr false) s = .next t ∧
       OnlyRegs s t ∧ (addr.toNat < 0x90000000 → t = s.inc F.GATE_ECC_CORR)) ∧
     (∀ ns, ns < 4000 → exec (.clockMonitor (.refRange ns)) s = .next s) ∧
     (∀ ns, ns < 1000 → exec (.clockMonitor (.refStop ns)) s = .next s ∧ exec (.clockMonitor (.pllUnlock ns)) s = .next s ∧
       ∀ en, exec (.clockMonitor (.laneRefStop ns en)) s = .next s) ∧
     (∀ ns, exec (.clockMonitor (.laneRefStop ns false)) s = .next s))

/-- RETAG_GO gives a run of lines its colour and sets BUSY; a retag that touches the reserved region, or to colour 0,
changes no line and sets REFUSED (R366, R379). RETAG_DONE clears BUSY. Only the lines of the run change their colour. -/
def Obligations.GateRetag : Prop :=
  ∀ s : State, s.Inv →
    (∀ (count : BitVec 22) (colour : BitVec 4), s.locked 0x40030014 = false →
      let n := if count = 0 then 4194304 else count.toNat
      let first := s.rf F.GATE_RETAG_A_LINE
      let code := s.rfb F.GATE_RETAG_A_REGION
      let base := if code then 0x20000000 else 0x80000000
      ∃ t, exec (.retagGo count colour) s = .next t ∧ t.mem = s.mem ∧ RegsBut [0x40030014, 0x40030018] s t ∧
        (if (code = false ∧ 0x3E4000 < first + n) ∨ colour = 0 then
           t.rfb F.GATE_RETAG_S_REFUSED = true ∧ ∀ a, t.colourOf a = s.colourOf a
         else t.rfb F.GATE_RETAG_S_BUSY = true ∧
           (∀ i, first ≤ i → i < first + n → (code = true → i < 131072) →
             tget false s.tagBad (if code then 4194304 + i else i) = false → t.colourOf (base + 64 * i) = colour.toNat) ∧
           (∀ a, a < base + 64 * first ∨ base + 64 * (first + n) ≤ a → t.colourOf a = s.colourOf a))) ∧
    (∃ t, exec .retagDone s = .next t ∧ OnlyRegsAt [0x40030018] s t ∧ t.rfb F.GATE_RETAG_S_BUSY = false)

/-- A tick boundary increments the tick number and latches the start time (R31, R53), but for the boundary at which a
PAIR member may enter SYNCING (R263), of which this says only that the tick begins. Without a running generator
nothing happens, at the boundary, in the tail and at the loss of the reference. With the reference lost the generator
holds the last tick length, sets HOLDOVER and clears LOCKED (R50; that LOCKED clears is the model's choice, log entry
139). The tail: the violation queue of a device that has not tripped is emptied (R373), and the health record of 128
bytes is made anew (R505). -/
def Obligations.TickBoundary : Prop :=
  (∀ s : State, s.Inv → ∃ t, exec .tickBoundary s = .next t ∧
     (s.rfb F.TICK_STAT_RUNNING = false → t = s) ∧
     (s.rfb F.TICK_STAT_RUNNING = true → (s.due ≠ some .syncing → s.isPair = false ∨ s.dev ≠ .ready →
         t.tick = s.tick + 1 ∧ t.tstart = BitVec.ofNat 64 (s.ns.toNat + 2 ^ 32 * s.wrap.toNat)) ∧ t.phase = 0)) ∧
  (∀ s : State, s.Inv → s.rfb F.TICK_STAT_RUNNING = true → s.tickSrc ≠ 0 →
     ∃ t, exec .tickReferenceLost s = .next t ∧ OnlyRegsAt [0x40010034] s t ∧ t.rfb F.TICK_STAT_HOLDOVER = true ∧
       t.rfb F.TICK_STAT_LOCKED = false ∧ t.tlen = s.tlen) ∧
  (∀ (env : TailEnv) (s : State), s.Inv → s.rfb F.TICK_STAT_RUNNING = true →
     ∃ t, exec (.tailStart env) s = .next t ∧ t.hlth.record = t.healthRecord env ∧ t.hlth.record.length = 128 ∧
       (t.dev ≠ .tripped → t.viol = [])) ∧
  (∀ (env : TailEnv) (s : State), s.rfb F.TICK_STAT_RUNNING = false →
     exec (.tailStart env) s = .next s ∧ exec .tickReferenceLost s = .next s)

/-- The freeze-done point in SOLO and PAIR: a part of a frozen task without its gather is a freeze overrun, which
trips the device with cause 2 and is recorded as the first tick fault (R39, R46). With every gather made it changes
nothing; in TRIAD, where the gathers end later (R76), it changes nothing. At D a task whose deadline is this tick and
which has not finished is an overrun: in SOLO and PAIR, but in the tick of a handover, it trips the device with cause
1 and the telegrams of the tick are not sent (R45, R355). Otherwise no telegram of the tick is left waiting and no
byte of memory changes; of station L's outputs those of the deadline classes take the value that dispatch reads for
them, and every other keeps the one it held (R44, R428). -/
def Obligations.Overruns : Prop :=
  (∀ s : State, s.Inv →
     (s.isTriad = true ∨ s.ungathered = [] → exec .freezeDonePoint s = .next s) ∧
     (s.isTriad = false → s.ungathered ≠ [] → trippable s.dev = true → ∃ t, exec .freezeDonePoint s = .next t ∧ Tripped 2 s t ∧
       (s.rf F.TICK_OVR_KIND = 0 → t.rf F.TICK_OVR_KIND = 2 ∧ t.rf F.TICK_OVR_TICK_LO = s.tick.toNat % 65536))) ∧
  (∀ s : State, s.Inv → s.rfb F.TICK_STAT_RUNNING = true →
     (s.isTriad = false → s.handsOver = false → (∃ x ∈ s.flights, x.deadline = s.tick.toNat ∧ x.finished = none) →
       trippable s.dev = true → ∃ t, exec .dispatch s = .next t ∧ Tripped 1 s t ∧
         (∀ x ∈ t.tx, x ∉ s.tx → ∀ p d, x ≠ Tx.udp p d) ∧
         (s.rf F.TICK_OVR_KIND = 0 → t.rf F.TICK_OVR_KIND = 1 ∧ t.rf F.TICK_OVR_TICK_LO = s.tick.toNat % 65536)) ∧
     (s.isTriad = true ∨ s.handsOver = true ∨ (∀ x ∈ s.flights, x.deadline = s.tick.toNat → x.finished ≠ none) →
       s.dev ≠ .tripped → ∃ t, exec .dispatch s = .next t ∧ t.tgSend = [] ∧ t.mem = s.mem ∧
         (s.fieldOn = true → ∀ i, i < 32 → t.fctl.held.getD i 0 =
           let h := s.rf F.FIELD_BASE_BASE + 32 + i
           if (s.rangeOf h).any (fun r => s.deadlineAt s.tick.toNat r.cls) then s.dispatchValue h else s.fctl.held.getD i 0)))

/-- GATHER puts every part of a frozen task that has no gather yet in flight, with the deadline of R33, in TRIAD once the
input vote of the tick is complete (R76), unless the gate trips the device; it changes no byte of memory. The execute
window: at its start every engine without an activation takes the ready one that comes first (R40); at its end a queue
whose engines stand at one instruction boundary, with a later deadline and its last instruction not retired, is
suspended, and any other goes on holding what it holds; the trailing engine then runs on to the boundary of the
leading one, and the two are suspended there (R41, R159). An engine that may not run does nothing. Neither changes
memory. -/
def Obligations.GatherAndExecute : Prop :=
  (∀ s : State, s.Inv →
     (s.isTriad = false ∨ s.tri.inVoted = some s.n → ∃ t, exec .gather s = .next t ∧ t.mem = s.mem ∧ t.tick = s.tick ∧
       (t.dev ≠ .tripped → ∀ q ∈ s.ungathered, ∃ x ∈ t.flights, x.task = q.2.task ∧ x.shard = q.2.shard ∧
         x.f = s.tick.toNat ∧ x.deadline = s.tick.toNat + 2 ^ q.1.img.cls - 1 ∧ x.gathered = true)) ∧
     (s.isTriad = true → s.tri.inVoted ≠ some s.n → exec .gather s = .next s)) ∧
  (∀ s : State, s.Inv →
     (s.isTriad = false → s.serving = true → s.handsOver = false →
       (∀ e a, e < 12 → a ∈ (s.getEng e).ready → a.done = false) → (∀ e a, e < 12 → (s.getEng e).cur = some a → a.check = false) →
       ∃ t, exec .executeWindowStart s = .next t ∧ t.sched.execOpen = true ∧ t.mem = s.mem ∧ ∀ e, e < 12 →
         (∀ a, (s.getEng e).cur = some a → t.getEng e = s.getEng e) ∧
         ((s.getEng e).cur = none → (s.getEng e).ready = [] → t.getEng e = s.getEng e) ∧
         ((s.getEng e).cur = none → (s.getEng e).ready ≠ [] → ∃ a ∈ (s.getEng e).ready, s.nextReady (s.getEng e).ready = some a ∧
           (t.getEng e).cur = some a ∧ (t.getEng e).ready = (s.getEng e).ready.erase a)) ∧
     (∃ t, exec .executeWindowEnd s = .next t ∧ t.sched.execOpen = false ∧ t.mem = s.mem ∧ ∀ e, e < 12 →
         (∀ a, (s.getEng (s.leader e)).cur = some a → s.suspends a = true → s.level e = true →
           (t.getEng e).cur = none ∧ (t.getEng e).ready = (s.getEng e).ready ++ (s.getEng e).cur.toList) ∧
         (∀ a, (s.getEng (s.leader e)).cur = some a → s.suspends a = false ∨ s.level e = false → t.getEng e = s.getEng e) ∧
         ((s.getEng (s.leader e)).cur = none → t.getEng e = s.getEng e)) ∧
     (∀ i e, engineOf i = some e → i.check = none → s.mayRun e = false → exec i s = .next s) ∧
     (∀ (e : Fin 12) (a : Act), s.twinMode e = true → e.val % 2 = 1 → s.sched.execOpen = false → s.mayRun e = true → s.dev ≠ .tripped →
       (s.getEng e).cur = some a → s.img.tasks[a.task]? ≠ none → a.staged.length ≤ 1024 →
       exec (.nop e) s = .next (((s.updEng e fun g => { g with
         cur := some { Act.loops { a with pc := a.pc + 1 } with steps := a.steps + 1 } }).engRegs e).settle e)))

/-- Two engines of a twin at the same point whose digests, totals or ends differ: a mismatch, which sets the twin's
MISMATCH and trips the device with cause 4 (R165, R178). Before both have reached the point nothing is compared. A
match outside the span from F_d to D, with no injection test due and no duplicate bank: the comparison is counted and
the segment waits in staging for the next F_d, no byte of memory changing yet (R165, R269). Injection tests (R168): an
expired interval marks the twin; a second later a twin without a comparison is tested in a tail; in the test a match
of the injected comparison is a comparator fault, which trips with cause 5; otherwise the test is counted and the next
one inverts the next bit. -/
def Obligations.TwinAgreement : Prop :=
  (∀ (n : Fin 6) (env : CmpEnv) (s : State), s.Inv → s.twinMode (2 * n.val) = true →
     (∀ a b, (s.getEng (2 * n.val)).cur = some a → (s.getEng (2 * n.val + 1)).cur = some b →
       (a.done || a.check) = true → (b.done || b.check) = true → trippable s.dev = true →
       (a.digest ≠ b.digest ∨ a.total ≠ b.total ∨ a.done ≠ b.done ∨ (s.getEng (2 * n.val)).ecc = true ∨
         (s.getEng (2 * n.val + 1)).ecc = true) →
       ∃ t, exec (.twinCompare n env) s = .next t ∧ Tripped 4 s t ∧ t.rfb (F.TWIN_STAT_MISMATCH n) = true) ∧
     (∀ a, (s.getEng (2 * n.val)).cur = some a → (a.done || a.check) = false → exec (.twinCompare n env) s = .next s) ∧
     ((s.getEng (2 * n.val)).cur = none → exec (.twinCompare n env) s = .next s)) ∧
  (∀ (n : Fin 6) (env : CmpEnv) (s : State) (a b : Act), s.Inv → s.twinMode (2 * n.val) = true → s.dev ≠ .tripped →
     (s.getEng (2 * n.val)).cur = some a → (s.getEng (2 * n.val + 1)).cur = some b →
     (a.done || a.check) = true → (b.done || b.check) = true → a.rehearsal = false →
     a.digest = b.digest → a.total = b.total → a.done = b.done →
     (s.getEng (2 * n.val)).ecc = false → (s.getEng (2 * n.val + 1)).ecc = false →
     nbit s.sched.injDue n = false → s.dupRuns = false → s.commitSpan = false →
     ∃ t, exec (.twinCompare n env) s = .next t ∧ t.deferred = s.deferred ++ [(2 * n.val, a)] ∧ t.mem = s.mem ∧
       t.rf (F.TWIN_CMP_COUNT n) = min (2 ^ 32 - 1) (s.rf (F.TWIN_CMP_COUNT n) + 1) ∧ t.dev = s.dev) ∧
  (∀ (n : Fin 6) (s : State), s.Inv →
     (s.injElapsed n 0 = true → exec (.injectionIntervalExpiry n) s =
       .next { s with sched := { s.sched with injDue := s.sched.injDue ||| 2 ^ n.val } }) ∧
     (s.injElapsed n 0 = false → exec (.injectionIntervalExpiry n) s = .next s) ∧
     (∀ env : CmpEnv, nbit s.sched.injDue n = true → s.injElapsed n 1000000000 = true → env.dupDisagrees = false →
       ∃ t, exec (.injectionTestTail n env) s = .next t ∧ t.mem = s.mem ∧
         (env.injMatch = true → trippable s.dev = true → Tripped 5 s t ∧ t.rfb (F.TWIN_STAT_INJ_MISS n) = true) ∧
         (env.injMatch = false → t.dev = s.dev ∧
           t.rf (F.TWIN_INJ_COUNT n) = min (2 ^ 32 - 1) (s.rf (F.TWIN_INJ_COUNT n) + 1) ∧
           t.hlth.injPass = min (2 ^ 32 - 1) (s.hlth.injPass + 1) ∧
           t.sched.injBit = tset 0 s.sched.injBit n ((tget 0 s.sched.injBit n + 1) % 64))))

/-- A deferred segment of variable bytes commits: every staged byte stands in memory, every other byte reads as before
(R91, R269). For a segment that passes the gate and touches no retained item. Accepted force and unforce requests take
effect at a boundary, before its freeze (R72): the queue empties; a force of a handle with the table not full makes
the forced value of the handle the given one, an unforce leaves the handle without an entry of its own index. -/
def Obligations.CommitsAndForces : Prop :=
  (∀ (s : State) (e : Nat) (a : Act) (base : Nat) (bs : List (Nat × Byte)), s.Inv → s.dev ≠ .tripped → s.commitSpan = true →
     s.deferred = [(e, a)] → a.staged = [.line base bs] → varBase ≤ base → base < sotBase → s.retained = [] →
     s.gateOk (4 * e + (s.img.tasks[a.task]?).elim 0 (·.set)) base 64 .write = true →
     (bs.map Prod.fst).Nodup → ∃ t, exec .deferredCommit s = .next t ∧ t.deferred = [] ∧
       (∀ x ∈ bs, t.rdB x.1 = x.2) ∧ (∀ c, c ∉ bs.map Prod.fst → t.rdB c = s.rdB c) ∧
       (a.done = true → (tget {} t.tasks (taskKey a.task a.shard)).acts = (tget {} s.tasks (taskKey a.task a.shard)).acts + 1 ∧
         (tget {} t.tasks (taskKey a.task a.shard)).fault = a.fault.isSome)) ∧
  (∀ (s : State) (h : Nat) (v : Word), s.Inv → h < 5242880 →
     (s.svc.forces = [(true, h, v.toNat)] → s.forceIdx h = none → s.forceFree ≠ none →
       ∃ t : State, exec .forceApply s = .next t.freezeOnce ∧ t.svc.forces = [] ∧ t.forced h = some v ∧
         (s.dirOf h ≠ 2 → ∀ c, c < forceBase ∨ forceBase + 16384 ≤ c → t.rdB c = s.rdB c)) ∧
     (∀ i, s.svc.forces = [(false, h, 0)] → s.forceIdx h = some i →
       ∃ t : State, exec .forceApply s = .next t.freezeOnce ∧ t.svc.forces = [] ∧ t.forceEntry i = none ∧
         (s.dirOf h ≠ 2 → ∀ c, c < forceBase + 16 * i ∨ forceBase + 16 * i + 16 ≤ c → t.rdB c = s.rdB c)))

/-- Bay fault events (R171): each is counted; the one that reaches LIMIT, and any failed built-in test, makes the bay
due for fencing under AUTO. The counts are cleared at the ticks whose number divides by 2^WIN. Fencing (R172 to R175):
under AUTO, with a placement that fits, found for the lowest-numbered due bay, the fence waits for the next boundary;
with none a standby or a member in SYNCING drops the request and notes the condition, and any other device is to trip
at that boundary. The effect sets FENCED and DRAINING of the bay, clears DUE, and the placement is in force; a drained
bay asks for its domain to be switched off. -/
def Obligations.BaysFenced : Prop :=
  (∀ s : State, s.Inv →
     (∀ (b : Fin 3) (k : BayEvent), k ≠ .bist → ∃ t, exec (.bayFaultEvent b k) s = .next t ∧ t.mem = s.mem ∧
       t.rf (F.SEQ_BAYEVT_COUNT b) = min 255 (s.rf (F.SEQ_BAYEVT_COUNT b) + 1) ∧
       t.rf (F.SEQ_BAYEVT_TOTAL b) = min 65535 (s.rf (F.SEQ_BAYEVT_TOTAL b) + 1) ∧
       (s.rf F.SEQ_FENCE_CFG_LIMIT ≤ min 255 (s.rf (F.SEQ_BAYEVT_COUNT b) + 1) → s.rfb F.SEQ_FENCE_CFG_AUTO = true →
         nbit (s.rf F.SEQ_FENCE_FENCED) b = false → nbit (t.rf F.SEQ_FENCE_DUE) b = true)) ∧
     (∀ b : Fin 3, s.rfb F.SEQ_FENCE_CFG_AUTO = true → nbit (s.rf F.SEQ_FENCE_FENCED) b = false →
       ∃ t, exec (.bayFaultEvent b .bist) s = .next t ∧ t.mem = s.mem ∧ nbit (t.rf F.SEQ_FENCE_DUE) b = true) ∧
     (∃ t, exec .bayWindowClear s = .next t ∧ OnlyRegsAt [0x40050030, 0x40050034, 0x40050038] s t ∧
       (if s.tick.toNat % 2 ^ s.rf F.SEQ_FENCE_CFG_WIN = 0 then ∀ b, b < 3 → t.rf (F.SEQ_BAYEVT_COUNT b) = 0 else t = s)) ∧
     (∀ e : Fin 12, (s.getEng e).cur ≠ none ∨ (s.getEng e).ready ≠ [] → s.twinMode e = true →
       ∃ t, exec (.engineSramEccError e) s = .next t ∧ t.mem = s.mem ∧ (t.getEng e).ecc = true ∧
         nbit (t.rf F.SEQ_FENCE_MARK) (e.val / 4) = true) ∧
     (∀ e : Fin 12, (s.getEng e).cur ≠ none → s.twinMode e = false →
       ∃ t, exec (.engineSramEccError e) s = .next t ∧ t.mem = s.mem ∧ (t.getEng e).cur = none ∧
         nbit (t.rf F.SEQ_FENCE_MARK) (e.val / 4) = true)) ∧
  (∀ s : State, s.Inv →
     (∀ b, b < 3 → nbit (s.rf F.SEQ_FENCE_DUE) b = true → (∀ k, k < b → nbit (s.rf F.SEQ_FENCE_DUE) k = false) →
       s.sched.newPlaced = none → s.rfb F.SEQ_FENCE_CFG_AUTO = true →
       ∃ t, exec .fenceDecision s = .next t ∧ t.mem = s.mem ∧ t.dev = s.dev ∧
         match s.findPlace s.img s.sched.placed (s.rf F.SEQ_FENCE_FENCED ||| 2 ^ b) s.sched.shed with
         | some (pl, shed) => t.sched.newPlaced = some (b, pl, shed) ∧ t.regs = s.regs
         | none =>
           if s.dev = .standby ∨ s.dev = .syncing then
             nbit (t.rf F.SEQ_FENCE_DUE) b = false ∧ t.hlth.cond = s.hlth.cond ||| 512 ∧ t.sched = s.sched
           else t.sched.fenceTrip = true ∧ t.regs = s.regs) ∧
     (∀ b pl shed, b < 3 → s.sched.newPlaced = some (b, pl, shed) → s.since ≠ 0 → s.awaitsMove = false →
       ∃ t, exec .fenceEffect s = .next t ∧ t.sched.placed = pl ∧ t.sched.shed = shed ∧ t.sched.newPlaced = none ∧
         nbit (t.rf F.SEQ_FENCE_FENCED) b = true ∧ nbit (t.rf F.SEQ_FENCE_DRAINING) b = true ∧
         nbit (t.rf F.SEQ_FENCE_DUE) b = false) ∧
     (∀ b : Fin 3, nbit (s.rf F.SEQ_FENCE_DRAINING) b = true →
       (∀ e, 4 * b.val ≤ e → e < 4 * b.val + 4 → (s.getEng e).cur = none ∧ (s.getEng e).ready = []) →
       (∀ p ∈ s.deferred, p.1 / 4 ≠ b.val) → nbit (s.rf F.SEQ_FENCE_FENCED) b = true → s.ret.flushing = false →
       (∀ p ∈ s.sched.placed, bayOf p.code ≠ b.val) → s.rfb F.TICK_STAT_RUNNING = true →
       ∃ t, exec (.bayDrained b) s = .next t ∧ t = { s with regs := t.regs, ret := t.ret } ∧
         RegsBut [0x40050024, 0x40000010] s t ∧ nbit (t.rf F.SEQ_FENCE_DRAINING) b = false ∧
         nbit (t.reg 0x40000010).toNat (4 + b.val) = false ∧ 4 + b.val ∈ t.ret.offDue))

/-- A string port comes up and goes down (R179): `STRs_STAT.UP`, and nothing else. A frame whose FCS fails is discarded
and counted by that check alone, whichever command brings it (R190). -/
def Obligations.StringPortsAndFrames : Prop :=
  (∀ (str : Fin 16) (s : State), s.Inv →
     (∃ t, exec (.stringPortUp str) s = .next t ∧ OnlyRegsAt [(F.STR_STAT_UP str).addr] s t ∧ t.rfb (F.STR_STAT_UP str) = true) ∧
     (∃ t, exec (.stringPortDown str) s = .next t ∧ OnlyRegsAt [(F.STR_STAT_UP str).addr] s t ∧ t.rfb (F.STR_STAT_UP str) = false)) ∧
  (∀ (port : Fin 16) (f : Frame) (s : State), s.Inv → s.hears port = true → f.etherType = 0x88B5 → f.fcsOk = false →
     ∀ c ∈ [Instr.replyReceive port f, .rollcallAnswerReceive port f, .serviceRspReceive port f, .partnerFrameReceive port f],
       ∃ t, exec c s = .next t ∧ t = { s with regs := t.regs, hlth := { s.hlth with linkErr := t.hlth.linkErr } } ∧
         RegsBut [(F.STR_ERR0_FCS port).addr] s t ∧
         t.rf (F.STR_ERR0_FCS port) = satAdd (F.STR_ERR0_FCS port).wid (s.rf (F.STR_ERR0_FCS port)) 1 ∧
         t.hlth.linkErr = min (2 ^ 32 - 1) (s.hlth.linkErr + 1))

/-- A REPLY that passes the checks between σ and W lands in bank L (R63, R64, R201): the slots of its due runs take
VALUE and quality, AGE the tick of receipt; the station is heard in this tick; no byte outside bank L changes. The
cues of a tick leave once, in order, on a string whose device may send them (R220, R279); with the cues withheld none
leaves on any string in that tick, which counts as withheld and is one without DRIVE (R429): the CAN frames that have
not started are cancelled. -/
def Obligations.RepliesAndCues : Prop :=
  (∀ (port : Fin 16) (f : Frame) (d : StaDef) (s : State), s.Inv → s.dev ≠ .tripped → s.hears port = true →
     s.checkStr port f = none → s.srcSta (s.strOf port) f = some d → f.kind = 2 →
     s.reached (s.rf F.TICK_PH2_SAMPLE) = true → 1000 * s.inTick ≤ s.rf F.TICK_PH1_REPLY_END * s.tb →
     f.payload.length = 16 + replyLen (s.dueRuns d s.n) → s.isPair = false → s.eccBad = [] →
     let l := landRuns (s.dueRuns d s.n) (f.payload.drop 16) ((f.payload.drop 16).drop (valueLen (s.dueRuns d s.n)))
       (BitVec.ofNat 8 (b2n (nbit (beAt f.payload 0 4) 0)))
     (l.map (·.1)).Nodup → (∀ x ∈ l, x.1 < 5242880 ∧ s.gateOk 48 (bankL + 8 * x.1) 8 .write = true) →
     ∃ t, exec (.replyReceive port f) s = .next t ∧
       (∀ x ∈ l, t.slotL x.1 = ⟨x.2.1, x.2.2 &&& 0x79#8, s.tick.setWidth 24⟩) ∧
       (∀ c, (∀ x ∈ l, c < bankL + 8 * x.1 ∨ bankL + 8 * x.1 + 8 ≤ c) → t.rdB c = s.rdB c) ∧
       (t.getSta (128 * s.strOf port + d.pos)).u = some s.n ∧
       (t.getSta (128 * s.strOf port + d.pos)).status = BitVec.ofNat 32 (beAt f.payload 0 4) ∧ t.dev = s.dev) ∧
  (∀ (str : Fin 16) (s : State), s.Inv → s.mayCue = true → s.rfb (F.STR_CTRL_EN str) = true → s.squelch = false →
     ((s.getStr str).cueTick = some s.n → exec (.cueSend str) s = .next s) ∧
     ((s.getStr str).cueTick ≠ some s.n → s.withholds = false → s.mirr.withheld ≠ some s.n → s.rfb (F.STR_STAT_RELAY str) = false → ∃ t, exec (.cueSend str) s = .next t ∧
       t.tx = s.tx ++ (s.cueFrames str).map (Tx.str str) ∧ (t.getStr str).cueTick = some s.n ∧
       t = { s with tx := t.tx, str := t.str }) ∧
     ((s.getStr str).cueTick ≠ some s.n → s.withholds = true → s.mirr.withheld ≠ some s.n →
       ∃ t, exec (.cueSend str) s = .next t ∧ t.tx = s.tx ∧ t.mirr.withheld = some s.n ∧ t.setsDrive = false ∧
       (∀ p, p < 2 → (t.can p).pend = (s.can p).pend.filter (·.started)) ∧ t.rf F.MIRR_CNT_WITHHELD = satAdd F.MIRR_CNT_WITHHELD.wid (s.rf F.MIRR_CNT_WITHHELD) 1) ∧
     (s.mirr.withheld = some s.n → exec (.cueSend str) s = .next s))

/-- A roll-call request leaves with the present tick, and the port remembers its tick and its departure (R202, R205).
The standby's relay sends the frames that the active passed over the pair link, marked as relayed (R236). Every frame
that a device sends on a string passes the checks that a receiver of that string makes (R187 to R190). -/
def Obligations.RollcallAndRelay : Prop :=
  (∀ (str : Fin 16) (s : State), s.Inv →
     (s.mayRoll str = true → s.isPair = false → (s.getStr str).rcTick ≠ some s.n → ∃ t f, exec (.rollcallSend str) s = .next t ∧
       t.tx = s.tx ++ [Tx.str str f] ∧ f.kind = 3 ∧ f.tick = s.tick ∧
       frameErr f stringKinds (some s.img.pairId) (some (s.strOf str)) = none ∧
       (t.getStr str).rcTick = some s.n ∧ (t.getStr str).rcDep = s.mono ∧ t = { s with tx := t.tx, str := t.str }) ∧
     (∀ f : Frame, s.pairUse = true → s.dev = .standby → s.saw.role = .standby → s.rfb (F.STR_CTRL_EN str) = true →
       s.squelch = false → frameErr f stringKinds (some s.img.pairId) (some str.val) = none → f.kind = 1 →
       f.tick.toNat = s.n → f.epoch.toNat = s.rf F.SAW_EPOCH_EPOCH →
       ∃ t g, exec (.relayCueSend str [f]) s = .next t ∧ t.tx = s.tx ++ [Tx.str str g] ∧ g.payload = f.payload ∧ g.tick = f.tick ∧
         frameFlag g 1 = true ∧ g.src = BitVec.ofNat 8 s.srcCode ∧
         frameErr g stringKinds (some s.img.pairId) (some str.val) = none ∧
         t.rfb (F.STR_STAT_RELAYING str) = true ∧ (t.getStr str).relayTick = some s.n ∧ t.mem = s.mem)) ∧
  (∀ (s : State) (port kind flags member : Nat) (p : List Byte), kind ∈ stringKinds → p.length ≤ 9150 → port < 16 →
     frameErr (s.strFrame port kind flags member p) stringKinds (some s.img.pairId) (some (s.strOf port)) = none)

/-- A roll-call answer to the last request gives the station's identity, its delay from the port that measured it and
whether it misfits (R206, R208, R209): the delay is half of the round trip less turn-around and forwarding, and the
forwarding on the way out; a station that no list entry has misfits by reason 1, one of another type by reason 2; a
DELAYS message gives the other end's delays (R538). -/
def Obligations.RollcallAnswers : Prop :=
  ∀ s : State, s.Inv →
    (∀ (port : Fin 16) (f : Frame), s.hears port = true → s.checkStr port f = none → f.kind = 3 → frameFlag f 2 = true →
      (s.getStr port).rcTick = some f.tick.toNat → f.src.toNat < 128 → 36 ≤ f.payload.length →
      let k := 128 * s.strOf port + f.src.toNat
      ∃ t, exec (.rollcallAnswerReceive port f) s = .next t ∧ t.mem = s.mem ∧ t.saw.pathSeen = true ∧
        (t.getSta k).typ = BitVec.ofNat 32 (beAt f.payload 0 4) ∧ (t.getSta k).serial = BitVec.ofNat 64 (beAt f.payload 4 8) ∧
        (t.getSta k).fw = BitVec.ofNat 32 (beAt f.payload 12 4) ∧ (t.getSta k).state = beAt f.payload 22 1 ∧
        (t.getSta k).dAB = beAt f.payload 24 2 ∧ (t.getSta k).dBA = beAt f.payload 26 2 ∧
        (let fw := s.forwarding port (s.hopOf port f.src.toNat)
         let delay := (((s.mono : Int) - (s.getStr port).rcDep - beAt f.payload 28 4 - fw.1 - fw.2) / 2 + fw.1).toNat
         (s.strOf port = port → (t.getSta k).delay = some delay) ∧ (s.strOf port ≠ port → (t.getSta k).other = some delay)) ∧
        ((t.getSta k).matched = true ↔ (t.getSta k).misfit = 0) ∧
        (s.staDef k = none → (t.getSta k).misfit = 1) ∧
        (∀ d, s.staDef k = some d → beAt f.payload 0 4 ≠ d.typ.toNat → (t.getSta k).misfit = 2)) ∧
    (∀ f : Frame, s.pairErr f = none → f.kind = 0x15 → s.isPair = true → f.strNo.toNat < 16 → beAt f.payload 8 2 ≤ 128 →
      f.payload.length = 16 + 4 * beAt f.payload 8 2 →
      ∃ t, exec (.delaysReceive f) s = .next t ∧ t = { s with sta := t.sta } ∧
        ∀ p, p < beAt f.payload 8 2 → (t.getSta (128 * f.strNo.toNat + p)).other =
          if beAt f.payload (16 + 4 * p) 4 = 0xFFFFFFFF then none else some (beAt f.payload (16 + 4 * p) 4))

/-- Admission requests (R213, R214): the next request of an attempt leaves, once a tick and after the tick's roll-call
request, and waits for its response; the response of a RESULT 0 goes on to the next step or ends the attempt after its
last, any other ends the attempt. A request without a response for 4 ticks is repeated, at most 3 times and only by
the device that drives, with a new RSP_AT and nothing else changed; then the attempt is given up. -/
def Obligations.AdmissionRequests : Prop :=
  ∀ s : State, s.Inv →
    (∀ (str : Fin 16) (pos : Fin 128), s.asks str pos = true →
      s.admDue (128 * str.val + pos.val) ≠ 0 → (s.getSta (128 * str.val + pos.val)).req = [] →
      (s.getSta (128 * str.val + pos.val)).reqTick ≠ s.n →
      ∃ t f, exec (.admissionRequestSend str pos) s = .next t ∧ t.tx = s.tx ++ [Tx.str str.val f] ∧ f.kind = 4 ∧
        (t.getSta (128 * str.val + pos.val)).req = f.payload ∧ (t.getSta (128 * str.val + pos.val)).reqTick = s.n ∧
        (t.getSta (128 * str.val + pos.val)).admStep = s.admDue (128 * str.val + pos.val) ∧
        t = { s with tx := t.tx, sta := t.sta, str := t.str }) ∧
    (∀ (str : Fin 16) (pos : Fin 128), s.asks str pos = false ∨ (s.getSta (128 * str.val + pos.val)).reqTick = s.n →
      exec (.admissionRequestSend str pos) s = .next s) ∧
    (∀ (port : Fin 16) (f : Frame), s.hears port = true → s.checkStr port f = none → f.kind = 5 → 12 ≤ f.payload.length →
      beAt f.payload 0 1 < 128 →
      let k := 128 * s.strOf port + beAt f.payload 0 1
      (s.getSta k).req ≠ [] → beAt f.payload 2 2 = (s.getSta k).reqSeq →
      ∃ t, exec (.serviceRspReceive port f) s = .next t ∧ t = { s with sta := t.sta } ∧ (t.getSta k).req = [] ∧
        (beAt f.payload 8 1 ≠ 0 → (t.getSta k).admStep = 0) ∧
        (beAt f.payload 8 1 = 0 → (s.getSta k).admStep < 9 → (t.getSta k).admStep = (s.getSta k).admStep + 1) ∧
        (beAt f.payload 8 1 = 0 → (s.getSta k).admStep = 9 → (t.getSta k).admStep = 0 ∧ (t.getSta k).admReady = true) ∧
        (beAt f.payload 8 1 = 0 → 10 ≤ (s.getSta k).admStep → (t.getSta k).admStep = 0)) ∧
    (∀ (str : Fin 16), ∃ t, exec (.serviceReqTimeout str) s = .next t ∧ t = { s with tx := t.tx, sta := t.sta } ∧ ∀ pos, pos < 128 →
        let x := s.getSta (128 * str.val + pos)
        let y := t.getSta (128 * str.val + pos)
        if x.req = [] ∨ s.n < x.reqTick + 4 then y = x
        else if x.tries < 3 then
          y = x ∨ (s.drives = true ∧ ∃ rsp, y = { x with
            req := x.req.take 8 ++ beBytes 4 rsp ++ x.req.drop 12, reqTick := s.n, tries := x.tries + 1 })
        else y.req = [] ∧ y.admStep = 0) ∧
    (∀ (str : Fin 16) (pos : Fin 128), s.asks str pos = true →
      let x := s.getSta (128 * str.val + pos.val)
      x.req ≠ [] → x.reqTick + 4 ≤ s.n → x.tries < 3 →
      (∀ q, q < 128 → q ≠ pos.val → (s.getSta (128 * str.val + q)).req = []) →
      ∃ t f, exec (.serviceReqTimeout str) s = .next t ∧ t.tx = s.tx ++ [Tx.str str.val f] ∧ f.kind = 4 ∧
        f.payload = x.req.take 8 ++ beBytes 4 (s.rspAt str pos) ++ x.req.drop 12 ∧
        (t.getSta (128 * str.val + pos.val)).tries = x.tries + 1)

/-- Admission and its loss (R210, R213, R234), with the bit of the admission map, and the maps exchanged by a pair
(R539). Probation and acknowledgement (R151, R233, R234): at the device that drives, a station due for probation
enters it, AUTO or ACK as the list says; an AUTO probation ends after 2^c ticks with replies; a committed STACK
acknowledges a station in ACK probation. -/
def Obligations.AdmissionAndProbation : Prop :=
  (∀ s : State, s.Inv →
     (∀ (str : Fin 16) (pos : Fin 128), (s.getSta (128 * str.val + pos.val)).admReady = true →
       ∃ t, exec (.stationAdmit str pos) s = .next t ∧ t = { s with regs := t.regs, sta := t.sta } ∧
         (t.getSta (128 * str.val + pos.val)).admitted = true ∧
         nbit (t.rf (F.STR_ADMIT_ADMIT str (pos.val / 32))) (pos.val % 32) = true) ∧
     (∀ (str : Fin 16) (pos : Fin 128), (s.getSta (128 * str.val + pos.val)).lose = true →
       ∃ t, exec (.stationAdmissionLoss str pos) s = .next t ∧ t = { s with regs := t.regs, sta := t.sta } ∧
         (t.getSta (128 * str.val + pos.val)).admitted = false ∧ (t.getSta (128 * str.val + pos.val)).prob = 0 ∧
         nbit (t.rf (F.STR_ADMIT_ADMIT str (pos.val / 32))) (pos.val % 32) = false) ∧
     (s.isPair = true → s.drives = true → s.rfb F.PAIR_STAT_UP = true → ∃ t f, exec .admitSend s = .next t ∧
       t = { s with tx := s.tx ++ [Tx.pair f] } ∧ f.kind = 0x16 ∧ f.payload.length = 512 ∧
       ∀ k, k < 2048 → nbit (beAt f.payload (32 * (k / 128) + k % 128 / 8) 1) (k % 8) = (s.getSta k).admitted) ∧
     (∀ f : Frame, s.pairErr f = none → f.kind = 0x16 → s.isPair = true → s.dev ≠ .active → f.payload.length = 512 →
       (s.img.stations.map fun d => 128 * d.str + d.pos).Nodup → (∀ d ∈ s.img.stations, d.str < 16 ∧ d.pos < 128) →
       ∃ t, exec (.admitReceive f) s = .next t ∧ t = { s with regs := t.regs, sta := t.sta } ∧ ∀ d ∈ s.img.stations,
         (t.getSta (128 * d.str + d.pos)).admitted = nbit (beAt f.payload (32 * d.str + d.pos / 8) 1) (d.pos % 8))) ∧
  (∀ s : State, s.Inv →
     (∀ (str : Fin 16) (pos : Fin 128) (d : StaDef), s.staDef (128 * str.val + pos.val) = some d →
       (s.getSta (128 * str.val + pos.val)).probDue = true → (s.getSta (128 * str.val + pos.val)).admitted = true →
       (s.getSta (128 * str.val + pos.val)).prob = 0 → s.drives = true →
       ∃ t, exec (.probationStart str pos) s = .next t ∧ t = { s with regs := t.regs, sta := t.sta } ∧
         (t.getSta (128 * str.val + pos.val)).prob = (if d.ack then 2 else 1) ∧
         nbit (t.rf (F.STR_PROB_PROB str (pos.val / 32))) (pos.val % 32) = true) ∧
     (∀ (str : Fin 16) (pos : Fin 128) (d : StaDef), s.staDef (128 * str.val + pos.val) = some d →
       (s.getSta (128 * str.val + pos.val)).prob = 1 → 2 ^ s.slowest d ≤ (s.getSta (128 * str.val + pos.val)).streak → s.drives = true →
       ∃ t, exec (.probationEnd str pos) s = .next t ∧ t = { s with regs := t.regs, sta := t.sta } ∧
         (t.getSta (128 * str.val + pos.val)).prob = 0 ∧ (t.getSta (128 * str.val + pos.val)).probEnd = some s.n ∧
         nbit (t.rf (F.STR_PROB_PROB str (pos.val / 32))) (pos.val % 32) = false) ∧
     (∀ k : Fin 2049, (s.getSta k).ackPend = true → ∃ t, exec (.rejoinAckSet k) s = .next t ∧ t = { s with sta := t.sta } ∧
       (t.getSta k).ackPend = false ∧ (t.getSta k).ack = ((s.getSta k).ack || decide ((s.getSta k).prob = 2)) ∧
       ((s.getSta k).prob = 2 → (s.getSta k).ack = false → (t.getSta k).ackTick = s.n)))

/-- Break relay (R235, R237): the standby's maps of what it heard leave each tick; the active keeps them; the relay
ends after 16 quiet ticks; a forwarded reply counts as heard for a station that this end has not heard in the tick. -/
def Obligations.BreakRelay : Prop :=
  ∀ s : State, s.Inv →
    (∃ t, exec .heardMapsSend s = .next t ∧ t = { s with tx := t.tx } ∧ t.tx =
      if s.isPair = true ∧ s.dev = .standby then s.tx ++ [Tx.heard ((List.range 16).map fun k => (s.getStr k).heard)] else s.tx) ∧
    (∀ maps : List (BitVec 128), maps.length = 16 → s.isPair = true → s.dev = .active →
      ∃ t, exec (.heardMapsReceive maps) s = .next t ∧ t = { s with str := t.str } ∧
        ∀ k, k < 16 → (t.getStr k).peer = maps[k]?) ∧
    (∀ str : Fin 16, s.rfb (F.STR_STAT_RELAY str) = true →
      ∃ t, exec (.relayEnd str) s = .next t ∧ OnlyRegsAt [(F.STR_STAT_RELAY str).addr] { s with str := t.str } t ∧
        (16 ≤ (s.getStr str).quiet → t.rfb (F.STR_STAT_RELAY str) = false ∧ (t.getStr str).quiet = 0) ∧
        ((s.getStr str).quiet < 16 → t = s)) ∧
    (∀ (str : Fin 16) (f : Frame) (d : StaDef) (u : State), frameErr f stringKinds (some s.img.pairId) (some str.val) = none →
      f.kind = 2 → s.dev = .active → s.rfb (F.STR_STAT_RELAY str) = true → s.srcSta str f = some d →
      s.pairUse = true → f.epoch.toNat ≤ s.rf F.SAW_KNOWN_KNOWN → f.tick.toNat = s.n → (s.getSta (128 * str.val + d.pos)).u ≠ some s.n → s.land d f = some u → u.dev = .active →
      ∃ t, exec (.forwardedReplyReceive str f) s = .next t ∧ t.mem = u.mem ∧
        (t.getSta (128 * str.val + d.pos)).u = some s.n ∧ (t.getStr str).fwdNow = true)

/-- A marionette forwards a frame of its string out of its other port, HOPS raised in a roll-call request (R183, R203),
when no own frame leaves that port; ports go down and up (R185); power-up gives the power-up safe values and UNBOUND,
power loss leaves nothing (R185, R211). Roll-call at a marionette (R203, R204): a request from end A gives the
position of its hop count, one from end B does so until end A has been heard; a request that asks for its hop count is
kept until the instant it names; the answer to the first of these leaves by the request's port alone. -/
def Obligations.MarionetteTraffic : Prop :=
  (∀ (m : Fin 6144) (port : MPort) (s : State), s.Inv →
     (∀ f : Frame, (s.getMario m).powered = true → (s.getMario m).up port = true → (s.getMario m).up (otherPort port) = true →
       f.etherType = 0x88B5 → f.proto = 0xA7 → f.len ≤ 9216 → (s.getMario m).waiting (otherPort port) s.mono = none →
       ∃ t g, exec (.marionetteForward m port f) s = .next t ∧
         t = { s with tx := s.tx ++ [Tx.mario m (otherPort port) g], mario := t.mario } ∧
         (t.getMario m).out = (s.getMario m).out ∧ (t.getMario m).rc = (s.getMario m).rc ∧
         g.hops = (if f.kind = 3 ∧ frameFlag f 2 = false ∧ f.hops ≠ 0xFF then f.hops + 1 else f.hops) ∧
         g = { f with hops := g.hops }) ∧
     (∃ t, exec (.marionettePortDown m port) s = .next t ∧ t = { s with mario := t.mario } ∧ (t.getMario m).up port = false ∧
       (t.getMario m).up (otherPort port) = (s.getMario m).up (otherPort port) ∧ (t.getMario m).out = (s.getMario m).out ∧
       ∀ k, k ≠ m.val → t.getMario k = s.getMario k) ∧
     (∃ t, exec (.marionettePortUp m port) s = .next t ∧ t = { s with mario := t.mario } ∧ (t.getMario m).up port = true ∧
       (t.getMario m).up (otherPort port) = (s.getMario m).up (otherPort port) ∧ (t.getMario m).out = (s.getMario m).out ∧
       ∀ k, k ≠ m.val → t.getMario k = s.getMario k) ∧
     (∀ ty : MarioType, ∃ t, exec (.marionettePowerUp m ty) s = .next t ∧ t = { s with mario := t.mario } ∧
       (t.getMario m).powered = true ∧ (t.getMario m).st = .unbound ∧ (t.getMario m).out = ty.safe ∧ (t.getMario m).pos = none ∧
       (t.getMario m).objs = [] ∧ ∀ k, k ≠ m.val → t.getMario k = s.getMario k) ∧
     (∃ t, exec (.marionettePowerLoss m) s = .next t ∧ t = { s with mario := t.mario } ∧ t.getMario m = {} ∧
       ∀ k, k ≠ m.val → t.getMario k = s.getMario k)) ∧
  (∀ (m : Fin 6144) (s : State), s.Inv →
     (∀ (port : MPort) (time : Dword) (f : Frame), (s.getMario m).takes port f = true → f.kind = 3 → frameFlag f 2 = false →
       f.payload.length = 12 → ∃ t, exec (.marionetteRollcallReceive m port time f) s = .next t ∧ t = { s with mario := t.mario } ∧
         (frameFlag f 0 = false → (t.getMario m).pos = (if f.hops.toNat < 128 then some f.hops.toNat else none) ∧
           (t.getMario m).lastFromA = some f.tick.toNat ∧ (t.getMario m).portA = port) ∧
         (frameFlag f 0 = true → (s.getMario m).lastFromA = none → (s.getMario m).far = false →
           (t.getMario m).pos = (if f.hops.toNat < beAt f.payload 8 1 then some (beAt f.payload 8 1 - 1 - f.hops.toNat)
             else (s.getMario m).pos)) ∧
         (frameFlag f 0 = false → f.hops.toNat < 128 → beAt f.payload 0 1 ≤ f.hops.toNat →
           f.hops.toNat < beAt f.payload 0 1 + beAt f.payload 1 1 →
           (time.toNat + beAt f.payload 4 4 + (f.hops.toNat - beAt f.payload 0 1) * beAt f.payload 2 2, port, f) ∈ (t.getMario m).rc) ∧
         ∀ k, k ≠ m.val → k ≠ m.val % 2048 → t.getMario k = s.getMario k) ∧
     (∀ (turn : Word) (port : MPort) (f : Frame) (ty : MarioType) (d : Nat) (rest : List (Nat × MPort × Frame)),
       (s.getMario m).rc = (d, port, f) :: rest → (s.getMario m).ty = some ty →
       (s.getMario m).powered = true → (s.getMario m).far = false → (s.getMario m).up port = true →
       ∃ t g, exec (.rollcallAnswerSend m turn) s = .next t ∧ t = { s with tx := s.tx ++ [Tx.mario m port g], mario := t.mario } ∧
         g.kind = 3 ∧ frameFlag g 2 = true ∧ g.tick = f.tick ∧ g.tstart = f.tstart ∧ beAt g.payload 0 4 = ty.typ.toNat ∧
         beAt g.payload 4 8 = ty.serial.toNat ∧ (t.getMario m).rc = rest ∧ (t.getMario m).out = (s.getMario m).out))

/-- Parameter requests at a marionette (R196, R214, R215), with a SEQ other than the last answered: each gets one response
out of the request's port, whose RESULT is 0 where the request is carried out; a WRITE in UNBOUND sets the object, a
COMMIT that passes makes the marionette BOUND, a DISCARD makes it UNBOUND with its power-up safe values; a READ
changes no object. -/
def Obligations.MarionetteParameters : Prop :=
  ∀ (m : Fin 6144) (port : MPort) (f : Frame) (s : State), s.Inv → (s.getMario m).takes port f = true → f.kind = 4 →
    (s.getMario m).pos = some (beAt f.payload 0 1) → f.payload.length = 12 + beAt f.payload 6 2 →
    (s.getMario m).lastSeq ≠ some (beAt f.payload 2 2) →
    (beAt f.payload 1 1 = 1 → ∃ t g, exec (.serviceReqRead m port f) s = .next t ∧
      t = { s with tx := s.tx ++ [Tx.mario m port g], mario := t.mario, free := t.free } ∧ g.kind = 5 ∧
      (t.getMario m).objs = (s.getMario m).objs ∧ (t.getMario m).st = (s.getMario m).st ∧
      (beAt f.payload 4 2 ∈ [1, 2, 3, 4, 5, 6, 7] → beAt g.payload 8 1 = 0)) ∧
    (beAt f.payload 1 1 = 2 → ∃ t g, exec (.serviceReqWrite m port f) s = .next t ∧
      t = { s with tx := s.tx ++ [Tx.mario m port g], mario := t.mario, free := t.free } ∧ g.kind = 5 ∧
      ((s.getMario m).st = .unbound → (s.getMario m).objLen (beAt f.payload 4 2) = some (beAt f.payload 6 2) →
        (t.getMario m).obj (beAt f.payload 4 2) = some (f.payload.drop 12) ∧ beAt g.payload 8 1 = 0) ∧
      ((s.getMario m).st ≠ .unbound → beAt f.payload 4 2 ≠ 3 →
        (t.getMario m).objs = (s.getMario m).objs ∧ beAt g.payload 8 1 = 4)) ∧
    (beAt f.payload 1 1 = 3 → (s.getMario m).st = .unbound → ∃ t g, exec (.serviceReqCommit m port f) s = .next t ∧
      t = { s with tx := s.tx ++ [Tx.mario m port g], mario := t.mario, free := t.free } ∧ g.kind = 5 ∧
      beAt g.payload 8 1 = (s.getMario m).commitResult ∧
      (t.getMario m).st = (if (s.getMario m).commitResult = 0 then .bound else .unbound)) ∧
    (beAt f.payload 1 1 = 4 → ∃ t g, exec (.serviceReqDiscard m port f) s = .next t ∧
      t = { s with tx := s.tx ++ [Tx.mario m port g], mario := t.mario, free := t.free } ∧ g.kind = 5 ∧ beAt g.payload 8 1 = 0 ∧
      (t.getMario m).st = .unbound ∧ (t.getMario m).objs = [] ∧
      ((s.getMario m).isCtl = false → (t.getMario m).out = (s.getMario m).ty.elim [] (·.safe)))

/-- Cues and releases at a marionette (R225, R226, R230): the epoch of an accepted frame becomes E_max; a section of the
right length that comes in time, first for its tick, is held; a RELEASE with SAFE puts the outputs at their SAFE
values. -/
def Obligations.MarionetteCues : Prop :=
  ∀ (m : Fin 6144) (port : MPort) (f : Frame) (s : State), s.Inv → (s.getMario m).takes port f = true →
    (s.getMario m).st ≠ .unbound → (s.getMario m).accepts f = true →
    (∀ time : Dword, f.kind = 1 → ∃ t, exec (.marionetteCueReceive m port time f) s = .next t ∧ t = { s with mario := t.mario } ∧
      (t.getMario m).emax = f.epoch.toNat ∧ (t.getMario m).out = (s.getMario m).out ∧
      (∀ c, (sectionsFrom 128 (f.payload.drop 4)).find? (fun c => (s.getMario m).pos == some c.1) = some c →
        c.2.2.length = (s.getMario m).secLen f.tick.toNat → (s.getMario m).heldFor f.tick.toNat = none →
        (∀ x ∈ (s.getMario m).closed, x.1 ≠ f.tick.toNat) → (s.getMario m).cueEst ≠ none →
        (s.getMario m).tooLate f.tick.toNat (time.toNat + f.len * s.lineTime m / 10) = false →
        (⟨f.tick.toNat, f.epoch.toNat, nbit c.2.1 0, f.memberNo.toNat, c.2.2⟩ : Held) ∈ (t.getMario m).held ∧
        (t.getMario m).cueTick = some f.tick.toNat)) ∧
    (f.kind = 7 → (s.getMario m).isCtl = false → ∃ t, exec (.marionetteReleaseReceive m port f) s = .next t ∧
      t = { s with mario := t.mario } ∧ (t.getMario m).emax = f.epoch.toNat ∧
      (frameFlag f 3 = true → (t.getMario m).out = (s.getMario m).safeOut ∧ (t.getMario m).safe = true ∧
        (t.getMario m).rejoin = true) ∧
      (frameFlag f 3 = false → (t.getMario m).out = (s.getMario m).out))

/-- A station with an estimate samples its inputs and sends its reply out of both ports (R217, R222); at its apply instant
a section held for the tick resets its miss count, and a tick without one counts as a miss, the outputs going to their
SAFE values as the count passes the hold time (R227, R228). A triad object controller at its apply instant (R312):
with two candidates or more the miss count is 0, and an object on which no two agree is in its safe state; with fewer
the tick counts as a miss; every bound path goes on to the next tick, and no other marionette changes. -/
def Obligations.MarionetteCycle : Prop :=
  (∀ (m : Fin 6144) (s : State), s.Inv → (s.getMario m).powered = true → (s.getMario m).st ≠ .unbound →
     (∀ x qs, (s.getMario m).cueEst ≠ none → (s.getMario m).isCtl = false → ∃ t,
       exec (.stationSample m x qs) s = .next t ∧ t = { s with mario := t.mario } ∧ (t.getMario m).ins = x.values ∧
       (t.getMario m).quals = qs ∧ (t.getMario m).own = x.status ∧ (t.getMario m).out = (s.getMario m).out ∧
       (t.getMario m).smpTick = (s.getMario m).nowTick s.mono) ∧
     ((s.getMario m).cueEst ≠ none → (s.getMario m).upA = true → (s.getMario m).upB = true → ∃ t f,
       exec (.stationReplySend m) s = .next t ∧
       t = { s with tx := s.tx ++ [Tx.mario m .a f, Tx.mario m .b f], mario := t.mario } ∧ f.kind = 2 ∧
       f.tick = BitVec.ofNat 64 (s.getMario m).smpTick ∧ (t.getMario m).out = (s.getMario m).out) ∧
     (∀ c, (s.getMario m).isCtl = false → (s.getMario m).applies = some c →
       ∃ t, exec (.stationApply m) s = .next t ∧ t = { s with mario := t.mario } ∧ (t.getMario m).applies = some (c + 1) ∧
       (∀ h, (s.getMario m).heldFor c = some h → (t.getMario m).k = 0 ∧
         (h.inhibit = true → (t.getMario m).out = (s.getMario m).safeOut ∧ (t.getMario m).safe = true) ∧
         (h.inhibit = false → (s.getMario m).rejoin = false →
           (t.getMario m).st = .running ∧ (t.getMario m).lastApplied = some c)) ∧
       ((s.getMario m).heldFor c = none →
         (t.getMario m).k = min ((s.getMario m).par 4 0 2 + 1) ((s.getMario m).k + 1) ∧
         ((s.getMario m).k < (s.getMario m).par 4 0 2 → (t.getMario m).out = (s.getMario m).out))) ∧
     ((s.getMario m).isCtl = false → (s.getMario m).applies ≠ none → (s.getMario m).holdsSection = false →
       (s.getMario m).k = (s.getMario m).par 4 0 2 →
       ∃ t, exec (.stationHoldExpiry m) s = .next t ∧ t = { s with mario := t.mario } ∧
         (t.getMario m).out = (s.getMario m).safeOut ∧ (t.getMario m).safe = true ∧ (t.getMario m).rejoin = true)) ∧
  (∀ (site : Fin 2048) (s : State), s.Inv → (s.getMario site).isCtl = true → s.paths site ≠ [] →
     let n := s.ctlCloses site
     let x : Mario := { s.getMario site with objs := (s.getMario ((s.paths site).headD site)).objs }
     ∃ t, exec (.objectControllerApply site) s = .next t ∧ t = { s with mario := t.mario } ∧
       (2 ≤ (s.candidates site n).length → (t.getMario site).k = 0 ∧
         ∀ i o, (x.ty.elim [] (·.objects))[i]? = some o →
           agreed (x.dueRuns n) o (s.candidates site n) = none → i ∈ (t.getMario site).objSafe) ∧
       ((s.candidates site n).length < 2 → (t.getMario site).k = min (x.par 4 0 2 + 1) ((s.getMario site).k + 1)) ∧
       (∀ m ∈ s.paths site, (t.getMario m).applies = some (n + 1)) ∧
       ∀ k, k ≠ site.val → k ≠ site.val + 2048 → k ≠ site.val + 4096 → t.getMario k = s.getMario k)

/-- The messages of a pair that runs its link (R243, R249, R262): the active's HEARTBEAT, the standby's GRANT and the
HELLO of a member in READY or SYNCING leave over the pair link in the present tick, with what they say of lease,
eligibility and grade, and pass the checks of the partner. The lanes of the pair link: UP while a lane is up, HALF
while one is; a lost link ends a handover and discards what was staged of a record (R242, R261, R276); without
`PAIR_CTRL.EN`, or outside PAIR, the link stays idle (R17, R267). -/
def Obligations.SeesawSends : Prop :=
  (∀ s : State, s.Inv → s.pairUse = true → s.rfb F.PAIR_STAT_UP = true →
     (s.dev = .active → s.saw.role ≠ .relinquished → ∃ f, exec .heartbeatSend s = .next { s with tx := s.tx ++ [Tx.pair f] } ∧
       f.kind = 0x10 ∧ s.pairErr f = none ∧ f.tick = s.tick ∧ f.epoch = s.reg 0x40070008 ∧ f.payload.length = 48 ∧
       beAt f.payload 0 1 = 7 ∧ beAt f.payload 1 1 = s.rf F.HLTH_GRADE_GRADE ∧
       (nbit (beAt f.payload 2 1) 2 = true ↔ s.saw.role = .lapsed) ∧ (nbit (beAt f.payload 2 1) 3 = true ↔ s.saw.role = .unleased) ∧
       (s.mirr.recLeft = none → beAt f.payload 4 8 = 0)) ∧
     (s.dev = .standby → s.saw.role = .standby → ∃ t f, exec .grantSend s = .next t ∧ t.tx = s.tx ++ [Tx.pair f] ∧
       t = { s with tx := t.tx, regs := t.regs, saw := t.saw } ∧ f.kind = 0x11 ∧ s.pairErr f = none ∧ f.tick = s.tick ∧
       beAt f.payload 0 1 = 6 ∧ nbit (beAt f.payload 2 1) 0 = s.eligible ∧ t.rfb F.SAW_STAT_BARRED = !s.eligible) ∧
     (s.dev = .ready ∨ s.dev = .syncing → ∃ f, exec .helloSend s = .next { s with tx := s.tx ++ [Tx.pair f] } ∧ f.kind = 0x12 ∧
       s.pairErr f = none ∧ f.tick = s.tick ∧ f.payload.length = 48 ∧ beAt f.payload 0 1 = devCode s.dev)) ∧
  (∀ (lane : Fin 2) (s : State), s.Inv →
     (s.pairUse = true → ∃ t, exec (.pairLaneUp lane) s = .next t ∧ t.mem = s.mem ∧ RegsBut [0x40300004] s t ∧
       t.rfb F.PAIR_STAT_UP = true ∧
       t.rfb F.PAIR_STAT_HALF = !(if lane = 0 then s.rfb F.PAIR_STAT_LANE1 else s.rfb F.PAIR_STAT_LANE0)) ∧
     (s.pairUse = false → exec (.pairLaneUp lane) s = .next s) ∧
     (∃ t, exec (.pairLaneDown lane) s = .next t ∧ t.mem = s.mem ∧
       t.rfb F.PAIR_STAT_UP = (if lane = 0 then s.rfb F.PAIR_STAT_LANE1 else s.rfb F.PAIR_STAT_LANE0) ∧
       (t.rfb F.PAIR_STAT_UP = false → t.mirr.rx = [] ∧ (s.handedOver = false → t.saw.hovrLive = false))))

/-- What the messages do (R30, R244, R246, R248, R250, R251, R252, R253, R258, R267): a HEARTBEAT of the present tick
without LAPSED clears the standby's miss count and ends its claim, and the highest epoch it tells is known and stands
in the epoch record; before the partner's tick number is adopted a HEARTBEAT gives that number; a GRANT of the present
tick and epoch counts, and gives an unleased or lapsed active its lease; a HEARTBEAT and HELLO tell the partner's
address; a TRIP message is kept for this tick; a frame of the partner on a string is noted; a late HEARTBEAT counts as
missing. -/
def Obligations.SeesawReceives : Prop :=
  ∀ (f : Frame) (s : State), s.Inv → s.isPair = true →
    (s.pairErr f = none → f.kind = 0x10 → f.payload.length = 48 → s.dev = .standby → f.tick.toNat = s.n →
      nbit (beAt f.payload 2 1) 2 = false →
      ∃ t, exec (.heartbeatReceive f) s = .next t ∧ t.dev = s.dev ∧ t.rf F.SAW_STAT_MISS_HB = 0 ∧
        t.saw.hbTick = some s.n ∧ t.rf F.SAW_EPOCH_EPOCH = f.epoch.toNat ∧
        t.saw.role = (if s.saw.role = .claim then .standby else s.saw.role) ∧
        t.rf F.PAIR_STAT_PEER_ADDR = f.srcMac.toNat / 65536 % 2 ^ F.PAIR_STAT_PEER_ADDR.wid ∧
        t.rf F.SAW_KNOWN_KNOWN = max (s.rf F.SAW_KNOWN_KNOWN) (max (beAt f.payload 20 4) f.epoch.toNat) ∧
        MemBut 0x8F800000 4 s t ∧ (s.rf F.SAW_KNOWN_KNOWN < t.rf F.SAW_KNOWN_KNOWN → t.rdLe 0x8F800000 4 = t.rf F.SAW_KNOWN_KNOWN) ∧
        (t.rf F.SAW_KNOWN_KNOWN = s.rf F.SAW_KNOWN_KNOWN → t.mem = s.mem)) ∧
    (s.pairErr f = none → f.kind = 0x10 → f.payload.length = 48 → s.dev = .ready →
      ∃ t, exec (.heartbeatReceive f) s = .next t ∧ t.dev = s.dev ∧ t.saw.hbReady = some f.tick.toNat ∧ t.saw.hbReadyAt = s.n ∧
        t.rf F.SAW_STAT_MISS_HB = s.rf F.SAW_STAT_MISS_HB ∧ t.reg F.PAIR_LAT_LAT.addr = s.reg F.PAIR_LAT_LAT.addr ∧
        MemBut 0x8F800000 4 s t) ∧
    (s.pairErr f = none → f.kind = 0x10 → f.payload.length = 48 → s.dev ≠ .ready → f.tick.toNat < s.n →
      exec (.heartbeatReceive f) s = .next (s.inc F.PAIR_ERR_LATE)) ∧
    (s.pairErr f = none → f.kind = 0x11 → f.payload.length = 48 → s.dev = .active → f.tick.toNat = s.n → s.reached 40 = false →
      f.epoch.toNat = s.rf F.SAW_EPOCH_EPOCH → beAt f.payload 0 1 = 6 → s.handedOver = false →
      ∃ t, exec (.grantReceive f) s = .next t ∧ MemBut 0x8F800000 4 s t ∧ t.dev = s.dev ∧ t.saw.grantTick = some s.n ∧
        t.saw.role = (if s.saw.role = .unleased ∨ s.saw.role = .lapsed then .leased else s.saw.role) ∧
        t.saw.grantElig = nbit (beAt f.payload 2 1) 0 ∧
        (s.saw.hovrLive = true → t.saw.hovrLive = (beAt f.payload 1 1 == 0 && beAt f.payload 20 4 == 0))) ∧
    (s.pairErr f = none → f.kind = 0x12 → f.payload.length = 48 → s.dev = .ready →
      ∃ t, exec (.helloReceive f) s = .next t ∧ MemBut 0x8F800000 4 s t ∧
      t.rf F.PAIR_STAT_PEER_ADDR = beAt f.payload 1 1 % 2 ^ F.PAIR_STAT_PEER_ADDR.wid ∧
      t.saw.pLevels = some (beAt f.payload 4 2, beAt f.payload 6 2) ∧ (t.saw.helloPeer = true ↔ beAt f.payload 0 1 = 4)) ∧
    (s.pairErr f = none → f.kind = 0x13 → f.payload.length = 12 → s.dev = .standby →
      ∃ t, exec (.pairTripReceive f) s = .next t ∧ MemBut 0x8F800000 4 s t ∧
      t.saw.tripSeen = some (beAt f.payload 0 1) ∧ t.saw.partner = 0xA ∧ t.saw.hbHandover = 0) ∧
    (∀ port : Fin 16, s.hears port = true → s.checkStr port f = none → f.src.toNat = s.peerSrc →
      ∃ t, exec (.partnerFrameReceive port f) s = .next t ∧ t = { s with saw := t.saw } ∧ t.saw.sawFrame = true ∧
        t.saw.cueSrc = (s.saw.cueSrc || f.kind == 1))

/-- The lease (R246 to R248): at the lease point a leased active without a GRANT counts a miss; at LEASE misses it lapses
if it saw its partner on a string, and is unleased if not; a GRANT of the tick clears the count; a lapsed active
counts on and stays lapsed. The claim (R250, R251, R253 to R256): at LEASE + 1 missed heartbeats an eligible standby
claims and writes the epoch it will take into its epoch record, the next of its own parity above every epoch it knows
unless it has already written one; at the end of the claim tick a cue of the active abandons the claim, no reply from
the plant leaves it waiting, and otherwise the entry into ACTIVE is due. -/
def Obligations.LeaseAndClaim : Prop :=
  (∀ s : State, s.Inv → s.isPair = true → s.dev = .active →
     (s.saw.role = .leased → ∃ t, exec .leasePoint s = .next t ∧ t.mem = s.mem ∧ t.dev = .active ∧
       (s.saw.grantTick = some s.n → t.rf F.SAW_STAT_MISS_GRANT = 0 ∧ t.saw.role = .leased) ∧
       (s.saw.grantTick ≠ some s.n → t.rf F.SAW_STAT_MISS_GRANT = min 15 (s.rf F.SAW_STAT_MISS_GRANT + 1) ∧
         t.saw.role = (if min 15 (s.rf F.SAW_STAT_MISS_GRANT + 1) < s.rf F.SAW_CFG_LEASE then .leased
           else if s.saw.sawFrame then .lapsed else .unleased))) ∧
     (s.saw.role = .lapsed → ∃ t, exec .leasePoint s = .next t ∧ OnlyRegsAt [F.SAW_STAT_MISS_GRANT.addr, F.PAIR_MISS_GRANT.addr] s t ∧
       t.rf F.SAW_STAT_MISS_GRANT = (if s.saw.grantTick = some s.n then 0 else min 15 (s.rf F.SAW_STAT_MISS_GRANT + 1)))) ∧
  (∀ s : State, s.Inv → s.isPair = true → s.dev = .standby →
     (s.rf F.SAW_CFG_LEASE + 1 ≤ s.rf F.SAW_STAT_MISS_HB → s.eligible = true → s.rfb F.SAW_STAT_PATH_FAULT = false →
       ∃ t, exec .claimTickStart s = .next t ∧ t.saw.role = .claim ∧ t.dev = .standby ∧ t.due = s.due ∧
         t.rdLe 0x8F800000 4 = s.ownEpoch ∧ t.rdLe 0x8F800004 4 = s.ownEpoch ∧ t.rf F.SAW_KNOWN_KNOWN = s.ownEpoch ∧
         (s.saw.claimEpoch = none → s.ownEpoch % 2 = (if s.rfb F.SAW_STAT_END_B then 0 else 1) ∧
           s.rf F.SAW_KNOWN_KNOWN < s.ownEpoch ∧ s.ownEpoch ≤ s.rf F.SAW_KNOWN_KNOWN + 2) ∧
         MemBut 0x8F800000 64 s t) ∧
     (s.rf F.SAW_STAT_MISS_HB < s.rf F.SAW_CFG_LEASE + 1 → exec .claimTickStart s = .next s) ∧
     (s.saw.role = .claim → s.saw.claimTrip = none → ∃ t, exec .claimTickEnd s = .next t ∧
       (s.saw.cueSeen = some s.n → t.saw.role = .standby ∧ t.rfb F.SAW_STAT_PATH_FAULT = true ∧ t.mem = s.mem) ∧
       (s.saw.cueSeen = none → s.saw.replyTick = none → t.saw.role = .claim ∧ t.rfb F.SAW_STAT_NO_PATH = true ∧ t.mem = s.mem) ∧
       (s.saw.cueSeen = none → s.saw.replyTick = some s.n → s.mirr.applying = none → s.eligible = true →
         t.due = some .active ∧ t.saw.takeCause = 1 ∧ MemBut 0x8F800000 64 s t)))

/-- Planned handover (R260, R261): the check at a boundary refuses with the first reason that holds (whether a bay of
the partner drains is a free value, NOTES 24), or fixes the handover tick LEAD ticks ahead; a request while one is
under way changes nothing but the reason shown; at that tick the active sends RELEASE on its strings; at the boundary
after it holds no lease, freezes nothing and starts nothing; an ABORT before the lease point of that tick lets it
drive again; with neither the new epoch nor an abort it lapses. The end of the start window releases the transmitters
of a member, after START_WIN ticks, twice as many at end B (R262); an unleased active whose wait for a spare is over
calls each spare of its image once (R467). -/
def Obligations.HandoverRuns : Prop :=
  (∀ s : State, s.Inv →
     (s.saw.hovrReq = true → s.saw.hovrLive = false → ∃ t, exec .handoverCheck s = .next t ∧
       t = { s with regs := t.regs, saw := t.saw, free := t.free } ∧ t.saw.hovrReq = false ∧
       t.rf F.SAW_HOVR_REASON = s.handoverRefusal s.peerDrains ∧
       (s.handoverRefusal s.peerDrains = 0 → t.saw.hovrLive = true ∧ t.saw.hovrTick = s.n + s.rf F.SAW_CFG_HOVR_LEAD ∧
         t.rf F.SAW_HOVR_RESULT = 1) ∧
       (s.handoverRefusal s.peerDrains ≠ 0 → t.saw.hovrLive = false ∧ t.rf F.SAW_HOVR_RESULT = 3)) ∧
     (s.saw.hovrReq = true → s.saw.hovrLive = true → ∃ t, exec .handoverCheck s = .next t ∧
       t = { s with regs := t.regs, saw := { s.saw with hovrReq := false }, free := t.free } ∧
       RegsBut [F.SAW_HOVR_RESULT.addr] s t ∧ t.rf F.SAW_HOVR_RESULT = s.rf F.SAW_HOVR_RESULT ∧
       t.rf F.SAW_HOVR_REASON = s.handoverRefusal s.peerDrains) ∧
     (s.dev = .active → s.saw.hovrLive = true → s.n = s.saw.hovrTick → ∃ t, exec .handoverTick s = .next t ∧
       t = { s with tx := t.tx } ∧ ∀ k, k < 16 → s.rfb (F.STR_CTRL_EN k) = true → nbit (s.rf F.SYS_MODE_RATE1000) k = false →
         ∃ f, Tx.str k f ∈ t.tx ∧ f.kind = 7 ∧ f.tick = s.tick) ∧
     (s.isPair = true → s.dev = .standby → s.saw.hbHandover = s.n → 0 < s.n → s.epochFits = true →
       ∃ t, exec .handoverTick s = .next t ∧ t.rdLe 0x8F800000 4 = s.ownEpoch ∧ MemBut 0x8F800000 64 s t ∧ t.dev = .standby) ∧
     (s.dev = .active → s.saw.role ≠ .relinquished → s.saw.hovrLive = true → s.n = s.saw.hovrTick + 1 →
       ∃ t, exec .handoverBoundary s = .next t ∧ t.mem = s.mem ∧ t.dev = .active ∧ t.saw.role = .relinquished ∧ t.flights = s.flights ∧
         t.freezes = false ∧ ∀ e, t.mayRun e = true → s.mayRun e = true) ∧
     (∀ f : Frame, s.isPair = true → s.dev = .active → s.saw.role = .relinquished → s.pairErr f = none → f.kind = 0x11 →
       f.payload.length = 48 → f.tick.toNat = s.n → s.reached 40 = false → f.epoch.toNat = s.rf F.SAW_EPOCH_EPOCH →
       nbit (beAt f.payload 2 1) 2 = true → s.rfb F.IMG_CTRL_FREEZE_EN = false → beAt f.payload 0 1 = 6 →
       ∃ t, exec (.grantReceive f) s = .next t ∧ t.dev = .active ∧ t.saw.role = .leased ∧ t.saw.hovrLive = false ∧
         t.rf F.SAW_HOVR_RESULT = 4 ∧ MemBut 0x8F800000 4 s t) ∧
     (s.saw.role = .relinquished → s.saw.newEpoch = false → ∃ t, exec .handoverUnconfirmed s = .next t ∧ t.mem = s.mem ∧
       t.saw.role = .lapsed ∧ t.rf F.SAW_HOVR_RESULT = 5 ∧ t.saw.hovrLive = false)) ∧
  (∀ s : State, s.Inv → s.isPair = true →
     (s.dev ∈ [.ready, .syncing, .standby, .active] →
       s.rf F.SAW_CFG_START_WIN * (if s.rfb F.SAW_STAT_END_B then 2 else 1) ≤ s.saw.winTicks →
       ∃ t, exec .startWindowExpiry s = .next t ∧ t.squelch = false ∧ t.saw.winEnd = true) ∧
     (s.saw.winEnd = false → s.saw.winTicks < s.rf F.SAW_CFG_START_WIN → exec .startWindowExpiry s = .next s) ∧
     (s.dev = .active → s.saw.role = .unleased → ∀ w, s.saw.unleasedAt = some w → s.rf F.RACK_CFG_SPARE_WAIT ≠ 0 →
       w + s.rf F.RACK_CFG_SPARE_WAIT * 1000000000 ≤ s.mono → s.rack.spareWoken = false →
       ∃ t, exec .spareWaitExpiry s = .next t ∧ t = { s with rack := t.rack } ∧ t.rack.spareWoken = true ∧
         t.rack.inject = s.rack.inject ++ s.img.spares.map fun a => (true, false, a)))

/-- The active's stream (R270 to R274, R277): a stream clears the dirty bit of every mirrored line and changes no byte;
once a tick, from D on, the record leaves, and the next one opens; a tick over the limit is merged into the next
record. Copies (R284 to R286): a wanted recopy begins with MODE 3 and an empty record log; a copy under way goes on to
the line after the last one it sent, changing no byte. Acknowledgements at the active (R277): RESULT 0 drops the
records up to LAST; a NAK counts; any other result counts as a digest error, and a recopy is wanted. -/
def Obligations.MirrorSending : Prop :=
  (∀ s : State, s.Inv → s.isPair = true → s.isTriad = false → s.mirrors = true →
     (∃ t, exec .mirrorStreamStart s = .next t ∧ t.mem = s.mem ∧
       ∀ l ∈ s.dirtyMirrored, tget false t.dirty l = false) ∧
     (s.reached (s.rf F.TICK_PH0_DISPATCH) = true → s.mirr.copying = false → s.mirr.recLeft ≠ some s.n → s.mirr.mergeTick ≠ some s.n →
       (∃ t, exec .mirrCommitSend s = .next t ∧ t.mem = s.mem ∧ t.mirr.recLeft = some s.n ∧ t.mirr.lastSent = some s.n ∧
         t.mirr.lo = s.n + 1 ∧ t.mirr.frames = [] ∧ t.mirr.mergeTick = none ∧
         (s.rfb F.PAIR_STAT_UP = true → ∃ f, t.tx.getLast? = some (Tx.pair f) ∧ f.kind = 0x21 ∧ beAt f.payload 0 8 = s.n)) ∧
       (∃ t, exec .mirrorRecordLimit s = .next t ∧ t = { s with regs := t.regs, mirr := { s.mirr with mergeTick := some s.n } } ∧
         t.rfb F.MIRR_STAT_MERGING = true ∧ t.rf F.MIRR_CNT_MERGED = min 65535 (s.rf F.MIRR_CNT_MERGED + 1))) ∧
     (s.reached (s.rf F.TICK_PH0_DISPATCH) = false → exec .mirrCommitSend s = .next s) ∧
     (s.mirr.recLeft = some s.n → exec .mirrCommitSend s = .next s ∧ exec .mirrorRecordLimit s = .next s)) ∧
  (∀ s : State, s.Inv → s.isPair = true → s.isTriad = false → s.dev = .active →
     (s.mirr.wantCopy = true → s.saw.partner = 6 → ∃ t, exec .recopyStart s = .next t ∧
       t = { s with regs := t.regs, mirr := t.mirr } ∧ t.rf F.MIRR_STAT_MODE = 3 ∧ t.mirr.copying = true ∧ t.mirr.log = [] ∧
       t.mirr.wantCopy = false ∧ t.mirr.copyLine = 0) ∧
     (s.mirr.wantCopy = false → exec .recopyStart s = .next s) ∧
     (∀ n, s.mirrors = true → s.mirr.copying = true → ∃ t, exec (.copyDataSend n) s = .next t ∧ t.mem = s.mem ∧
       (∀ l, (takeRuns s.mirrorRuns s.mirr.copyLine (128 * n)).getLast? = some l → t.mirr.copyLine = l + 1) ∧
       t.mirr.copying = true)) ∧
  (∀ (f : Frame) (s : State), s.Inv → s.pairErr f = none → f.kind = 0x22 → s.isPair = true → s.dev = .active →
     f.payload.length = 140 → s.mirr.copying = false →
     ∃ t, exec (.mirrAckReceive f) s = .next t ∧ t.mem = s.mem ∧ t.dev = s.dev ∧
       (beAt f.payload 8 1 = 0 → t = { s with mirr := { s.mirr with
         log := s.mirr.log.filter (fun r => decide (beAt f.payload 0 8 < r.last)), ackTick := some (beAt f.payload 0 8), cpWait := t.mirr.cpWait } }) ∧
       (beAt f.payload 8 1 = 1 → t.rf F.MIRR_ERR_NAK = min 65535 (s.rf F.MIRR_ERR_NAK + 1)) ∧
       (2 ≤ beAt f.payload 8 1 → t.mirr.log = [] ∧ t.mirr.wantCopy = true ∧
         t.rf F.MIRR_ERR_DIGEST = min 65535 (s.rf F.MIRR_ERR_DIGEST + 1)))

/-- Mirror data at the standby (R273, R275, R284): lines of the lease's epoch are staged by their FSEQ and change no byte;
a COPY frame goes straight into the regions, and the first one that arrives, as FSEQ 0 does, begins the copy. A record
at the standby (R275, R276): complete and with its digest it is acknowledged and its apply begins; with frames missing
it is answered with their map and stays staged; its applied tick becomes its last when the apply is done. The apply of
a record ends: its tick is the applied one (R275, R280). -/
def Obligations.MirrorReceiving : Prop :=
  (∀ (f : Frame) (s : State), s.Inv → s.pairErr f = none → f.kind = 0x20 → s.takesMirror f = true → s.dev = .standby →
     1 ≤ beAt f.payload 2 1 → beAt f.payload 2 1 ≤ 128 → f.payload.length = 4 + 68 * beAt f.payload 2 1 →
     (nbit (beAt f.payload 3 1) 0 = false → s.mirr.staged + beAt f.payload 2 1 ≤ 122880 →
       ∃ t, exec (.mirrDataReceive f) s = .next t ∧ t = { s with mirr := { s.mirr with rx := t.mirr.rx } } ∧
         (beAt f.payload 0 2, dataEntries f.payload) ∈ t.mirr.rx) ∧
     (nbit (beAt f.payload 3 1) 0 = true → ∀ l d, dataEntries f.payload = [(l, d)] →
       inLines s.mirrorRuns l = true → s.mirrorImage = none → s.gateOk 52 (bankL + 64 * l) 64 .write = true →
       ∃ t, exec (.mirrDataReceive f) s = .next t ∧ t.rdBytes (bankL + 64 * l) 64 = d ∧ MemBut (bankL + 64 * l) 64 s t ∧
         t.mirr.rxCopying = true ∧
         t.mirr.cpFrames = (if beAt f.payload 0 2 = 0 ∨ s.mirr.rxCopying = false then 1 else s.mirr.cpFrames + 1) ∧
         t.rf F.MIRR_STAT_MODE = (if beAt f.payload 0 2 = 0 ∨ s.mirr.rxCopying = false then 3 else s.rf F.MIRR_STAT_MODE))) ∧
  (∀ (f : Frame) (s : State), s.Inv → s.pairErr f = none → f.kind = 0x21 → s.takesMirror f = true → s.dev = .standby →
     f.payload.length = 32 → nbit (beAt f.payload 22 1) 2 = false → s.mirr.applying = none → s.mirr.rehIn = none → s.rfb F.PAIR_STAT_UP = true →
     let fs := (List.range (beAt f.payload 20 2)).map fun i => (aget? i s.mirr.rx).getD []
     ((∀ i, i < beAt f.payload 20 2 → aget? i s.mirr.rx ≠ none) → linesIn fs = beAt f.payload 16 4 →
       fs.foldl foldEntries s.mirr.rxDig = BitVec.ofNat 64 (beAt f.payload 24 8) →
       ∃ t g, exec (.mirrCommitReceive f) s = .next t ∧ t.mem = s.mem ∧ t.tx = s.tx ++ [Tx.pair g] ∧ g.kind = 0x22 ∧
         beAt g.payload 0 8 = beAt f.payload 0 8 ∧ beAt g.payload 8 1 = 0 ∧ t.mirr.rx = [] ∧
         t.mirr.rxDig = BitVec.ofNat 64 (beAt f.payload 24 8) ∧
         t.mirr.applying.map (fun r => (r.last, r.frames)) = some (beAt f.payload 0 8, fs)) ∧
     ((∃ i, i < beAt f.payload 20 2 ∧ aget? i s.mirr.rx = none) →
       ∃ t g, exec (.mirrCommitReceive f) s = .next t ∧ t = { s with tx := s.tx ++ [Tx.pair g] } ∧ g.kind = 0x22 ∧
         beAt g.payload 8 1 = 1)) ∧
  (∀ (r : MRec) (s : State), s.Inv → s.mirr.applying = some r → s.mirr.rehIn = none →
     ∃ t, exec .mirrorApplyDone s = .next t ∧ t.mirr.applied = r.last ∧ t.mirr.applying = none ∧
       (r.frames = [] → t.mem = s.mem) ∧ t.rf F.MIRR_BOOK2_APPLIED = min (linesIn r.frames) 0x1FFFF)

/-- The sweep (R287, R288): the active sends digests of the next blocks in the tick of its record; the standby answers
on the state of that record, changing no byte; a mismatch marks the block's mirrored lines dirty again. Rehearsal
(R289, R290): the next candidate is chosen once an interval; the partner's result is kept, of the rehearsal that runs
or of the announced one; equal results count as passed, others as failed with REH_FAIL; an announcement of another
rehearsal replaces the one that was there. -/
def Obligations.MirrorSweepsAndRehearsals : Prop :=
  (∀ s : State, s.Inv → s.isPair = true → s.isTriad = false → s.rfb F.PAIR_STAT_UP = true →
     (s.maySweep = true → ∃ t f, exec .sweepSend s = .next t ∧ t.mem = s.mem ∧ t.tx = s.tx ++ [Tx.pair f] ∧ f.kind = 0x23 ∧
         beAt f.payload 4 8 = s.n % 2 ^ 64 ∧
         sweepEntries f.payload = (takeRuns s.blockRuns s.mirr.sweepBlock 16).map (fun b => (b % 2 ^ 32, s.blockDigest b))) ∧
     (∀ f : Frame, s.pairErr f = none → f.kind = 0x23 → s.takesMirror f = true → s.dev = .standby →
       nbit (beAt f.payload 1 1) 0 = false → 1 ≤ beAt f.payload 0 1 → beAt f.payload 0 1 ≤ 16 →
       f.payload.length = 12 + 12 * beAt f.payload 0 1 → s.mirr.applying = none → s.mirr.rxCopying = false →
       beAt f.payload 4 8 = s.mirr.applied → ∃ t g, exec (.sweepReceive f) s = .next t ∧ t.mem = s.mem ∧
         t.tx = s.tx ++ [Tx.pair g] ∧ g.kind = 0x23 ∧ nbit (beAt g.payload 1 1) 0 = true ∧ beAt g.payload 4 8 = s.mirr.applied) ∧
     (s.mirr.recLeft ≠ some s.n ∨ s.mirr.copying = true ∨ s.mirr.cpWait = true ∨ s.mirr.log ≠ [] ∨ s.mirr.mergeTick ≠ none →
       exec .sweepSend s = .next s) ∧
     (∀ (f : Frame) (r : MRec), s.pairErr f = none → f.kind = 0x23 → s.takesMirror f = true → s.dev = .standby →
       nbit (beAt f.payload 1 1) 0 = false → 1 ≤ beAt f.payload 0 1 → beAt f.payload 0 1 ≤ 16 →
       f.payload.length = 12 + 12 * beAt f.payload 0 1 → s.mirr.rxCopying = false → s.mirr.applying = some r →
       beAt f.payload 4 8 = r.last →
       exec (.sweepReceive f) s = .next { s with mirr := { s.mirr with rxSweep := some (r.last, sweepEntries f.payload) } }) ∧
     (∀ f : Frame, s.pairErr f = none → f.kind = 0x23 → s.dev = .active → nbit (beAt f.payload 1 1) 0 = true →
       nbit (beAt f.payload 1 1) 1 = true → f.payload.length = 12 + 12 * beAt f.payload 0 1 →
       ∃ t, exec (.sweepAnswerReceive f) s = .next t ∧ t.mem = s.mem ∧
         ∀ e ∈ sweepEntries f.payload, ∀ l, 64 * e.1 ≤ l → l < 64 * e.1 + 64 → inLines s.mirrorRuns l = true →
           tget false t.dirty l = true)) ∧
  (∀ s : State, s.Inv →
     (s.mirrors = true → s.imagesDiffer = false → s.rfb F.MIRR_REH_EN = true → s.mirr.rehTick + s.rf F.MIRR_REH_INTERVAL ≤ s.n →
       ∃ t, exec .rehearsalSelect s = .next t ∧ t = { s with mirr := t.mirr } ∧ t.mirr.rehTick = s.n ∧
         (∀ i, t.mirr.rehSel = some i → s.mirr.rehSel = some i ∨ s.candidate i = true)) ∧
     (∀ f : Frame, s.pairErr f = none → f.kind = 0x24 → s.takesMirror f = true → s.dev = .standby → 24 ≤ f.payload.length →
       2 ≤ beAt f.payload 3 1 → beAt f.payload 2 1 < beAt f.payload 3 1 →
       s.mirr.rehIn ≠ some (beAt f.payload 0 2, beAt f.payload 8 8, BitVec.ofNat 64 (beAt f.payload 16 8), beAt f.payload 3 1) →
       ∃ t, exec (.rehearseInReceive f) s = .next t ∧ t = { s with mirr := t.mirr, regs := t.regs, hlth := t.hlth } ∧
         t.mirr.rehParts = [(beAt f.payload 2 1, f.payload.drop 24)] ∧
         t.mirr.rehIn = some (beAt f.payload 0 2, beAt f.payload 8 8, BitVec.ofNat 64 (beAt f.payload 16 8), beAt f.payload 3 1)) ∧
     (∀ f : Frame, s.pairErr f = none → f.kind = 0x25 → s.takesMirror f = true → s.dev = .standby → f.payload.length = 24 →
       s.mirr.rehRun = some (beAt f.payload 0 2, beAt f.payload 8 8) ∨
         s.mirr.rehIn.map (fun r => (r.1, r.2.1)) = some (beAt f.payload 0 2, beAt f.payload 8 8) → exec (.rehearseOutReceive f) s =
         .next { s with mirr := { s.mirr with rehOut := some (beAt f.payload 4 4, BitVec.ofNat 64 (beAt f.payload 16 8)) } }) ∧
     (∀ a b, s.mirr.rehOut = some a → s.mirr.rehOwn = some b → ∃ t, exec .rehearsalCompare s = .next t ∧ t.mem = s.mem ∧
       t.mirr.rehOut = none ∧ t.mirr.rehOwn = none ∧ t.rfb F.MIRR_STAT_REH_FAIL = decide (a ≠ b) ∧
       (a = b → t.rf F.MIRR_REHS_PASS = min 65535 (s.rf F.MIRR_REHS_PASS + 1)) ∧
       (a ≠ b → t.rf F.MIRR_REHS_FAIL = min 65535 (s.rf F.MIRR_REHS_FAIL + 1))))

/-- Triad links and cold start (R294 to R297, R314): UP follows a link that the device runs, another stays idle (R17,
R320); TSYNC leaves on each link in use and passes a receiver's checks on it; a TSYNC of the present tick before F_d
gives the peer's tick, state and offset, one from the wrong member sets WIRING and says nothing else, a late one
counts; one from a serving peer makes a member in READY a joiner; the lowest-indexed member of a cold start proposes a
tick 16 ahead, and its entry into MEMBER is due there. Digests and blocks (R299 to R302, R307, R308): the input phase
fixes the set and sends this member's digests, the output phase adds its commit digest; digests and blocks of the
phase count until their points and are lost after them, a digest message that comes before the own phase start waits
for it; the exchange takes at most the cap of the phase and each member of the set sends its copies. None of them
changes a byte of memory. -/
def Obligations.TriadExchange : Prop :=
  (∀ (l : TriLink) (s : State), s.Inv →
     (s.triLane l = false → exec (.triadLinkUp l) s = .next s) ∧
     (s.triLane l = true → ∃ t, exec (.triadLinkUp l) s = .next t ∧ OnlyRegsAt [(F.TL_STAT_UP (tlIdx l)).addr] s t ∧
       t.rfb (F.TL_STAT_UP (tlIdx l)) = true) ∧
     (∃ t, exec (.triadLinkDown l) s = .next t ∧ t = { s with regs := t.regs, tri := t.tri } ∧
       RegsBut [(F.TL_STAT_UP (tlIdx l)).addr] s t ∧ t.rfb (F.TL_STAT_UP (tlIdx l)) = false ∧
       (match l with | .a => t.tri.downA | .b => t.tri.downB) = true) ∧
     (s.triOn = true → ∃ t, exec .tsyncSend s = .next t ∧ t = { s with tx := t.tx } ∧
       (s.triUse l = true → s.triLane l = true → ∃ f, Tx.triad l f ∈ t.tx ∧ f.kind = 0x30 ∧ s.triadErr l f = none ∧ f.tick = s.tick ∧
         f.payload.length = 56 ∧ beAt f.payload 0 1 = devCode s.dev ∧ nbit (beAt f.payload 2 1) 3 = s.wasMajority ∧
         beAt f.payload 48 8 = s.tri.start % 2 ^ 64)) ∧
     (∀ f : Frame, s.triadErr l f = none → f.kind = 0x30 → f.payload.length = 56 → s.triOn = true → s.dev ≠ .ready →
       (f.memberNo.toNat ≠ peerIdx s.tri.idx l → ∃ t, exec (.tsyncReceive l f) s = .next t ∧
         t = { s with regs := t.regs, rack := t.rack } ∧ RegsBut [(F.TL_STAT_UP (tlIdx l)).addr] s t ∧
         t.rfb (F.TL_STAT_WIRING (tlIdx l)) = true ∧ t.rack.dup = (s.rack.dup || f.memberNo.toNat == s.tri.idx)) ∧
       (f.memberNo.toNat = peerIdx s.tri.idx l → f.tick.toNat = s.n → s.reached (s.rf F.TICK_PH0_FREEZE_DONE) = false →
         ∃ t, exec (.tsyncReceive l f) s = .next t ∧ t = { s with regs := t.regs, tri := t.tri } ∧
           t.rfb (F.TL_STAT_WIRING (tlIdx l)) = false ∧ (t.peer l).tick = some s.n ∧ (t.peer l).state = beAt f.payload 0 1 ∧
           (t.peer l).maj = nbit (beAt f.payload 2 1) 3 ∧ (t.peer l).image = slice f.payload 8 16 ∧
           t.rf (F.TL_OFS_OFFSET (tlIdx l)) = wrapTo 32 (t.peer l).offset ∧
           (t.peer l).offset = (((s.mono : Int) - (t.peer l).delay) - ((beAt f.payload 24 8 : Int) - f.tstart.toNat)) - s.tstart.toNat) ∧
       (f.memberNo.toNat = peerIdx s.tri.idx l → f.tick.toNat = s.n → s.reached (s.rf F.TICK_PH0_FREEZE_DONE) = true →
         ∃ t, exec (.tsyncReceive l f) s = .next t ∧ t = { s with regs := t.regs } ∧
           t.rf (F.TL_ERR_LATE (tlIdx l)) = min 65535 (s.rf (F.TL_ERR_LATE (tlIdx l)) + 1))) ∧
     (∀ f : Frame, s.triadErr l f = none → f.kind = 0x30 → f.payload.length = 56 → s.mayJoin = true →
       s.rfb F.TRI_STAT_JOIN_FAIL = false → f.memberNo.toNat = peerIdx s.tri.idx l → s.mayAdopt f = true → beAt f.payload 0 1 = 8 →
       slice f.payload 8 16 = s.img.hash.take 16 → ∃ t, exec (.tsyncReceive l f) s = .next t ∧
         t = { s with regs := t.regs, tri := t.tri, tick := t.tick } ∧ t.rfb F.TRI_STAT_JOINING = true ∧ t.tri.start = 0 ∧
         (t.peer l).state = 8) ∧
     (s.mayJoin = true → s.tri.start = 0 → s.rfb F.TRI_STAT_JOINING = false → s.rf F.TRI_CFG1_START_WIN ≤ s.since →
       s.rfb F.TICK_STAT_LOCKED = true →
       (∀ k, s.counted (s.peer k) = true → (s.peer k).state ≠ 8 ∧ (s.peer k).state ≠ 9) → s.coldPeer l = true →
       (∀ k, s.coldPeer k = true → s.tri.idx < peerIdx s.tri.idx k) →
       ∃ t, exec .coldStartPropose s = .next t ∧ t = { s with tri := t.tri } ∧ t.tri.start = s.n + 16 ∧ t.tri.startFrom = s.tri.idx) ∧
     (s.isTriad = true → s.dev = .ready → s.addrOk = true → s.rfb F.SEC_DBG_UNLOCKED = false →
       s.rfb F.TRI_STAT_JOIN_FAIL = false → s.tri.start = s.n + 1 →
       ∃ t, exec .coldStartEnter s = .next t ∧ t.due = some .member ∧ t.mem = s.mem ∧ t.regs = s.regs ∧ t.tri.start = 0)) ∧
  (∀ s : State, s.Inv → s.votes = true →
     (s.tri.phaseTick ≠ s.n ∨ s.tri.phase = 0 → ∃ t, exec .inputPhaseStart s = .next t ∧ t.mem = s.mem ∧ t.dev = s.dev ∧ t.tri.phase = 1 ∧
       t.tri.phaseTick = s.n ∧ t.tri.formed = false ∧ t.tri.own = s.phaseDigests true ∧
       t.tri.set = reduceSet ((List.range 3).map s.linkUp) s.tri.idx s.setBase ∧
       (∀ l v, (s.peer l).early = some (1, s.n, v) → (t.peer l).digs = some v) ∧
       (∀ m, 1 ≤ m → m ≤ 3 → nbit (t.rf F.TRI_STAT_SET) (m - 1) = decide (m ∈ t.tri.set)) ∧
       (s.joins = false → t.rf F.TRI_STAT_MODE = (match t.tri.set.length with | 3 => 1 | 2 => 2 | 1 => 3 | _ => 0)) ∧
       (s.tri.idx ∈ t.tri.set → ∀ l, s.triUse l = true → s.triLane l = true → ∃ f, Tx.triad l f ∈ t.tx ∧ f.kind = 0x31 ∧ s.triadErr l f = none ∧
         f.tick = s.tick ∧ f.payload.length = 8 + 8 * s.nblk)) ∧
     (s.tri.phaseTick = s.n → s.tri.phase = 1 → (∀ x ∈ s.flights, x.deadline ≠ s.n) → ∃ t, exec .outputPhaseStart s = .next t ∧
       t.mem = s.mem ∧ t.dev = s.dev ∧ t.tri.phase = 2 ∧ t.tri.phaseTick = s.n ∧ t.tri.own = s.phaseDigests false ∧
       t.tri.commit = s.commitDigest ∧ t.tri.set = s.tri.set ∧
       (s.tri.idx ∈ s.tri.set → ∀ l, s.triUse l = true → s.triLane l = true → ∃ f, Tx.triad l f ∈ t.tx ∧ f.kind = 0x33 ∧ s.triadErr l f = none ∧
         f.tick = s.tick ∧ f.payload.length = 16 + 8 * s.nblk ∧ beAt f.payload 8 8 = s.commitDigest.toNat)) ∧
     (∀ (l : TriLink) (f : Frame), s.triadErr l f = none → f.memberNo.toNat = peerIdx s.tri.idx l → s.triUse l = true →
       s.tri.phaseTick = s.n → f.tick.toNat = s.n →
       (f.kind = 0x31 → s.tri.phase = 1 → f.payload.length = 8 + 8 * beAt f.payload 0 2 →
         ∃ t, exec (.idigReceive l f) s = .next t ∧
         if s.phaseStart + 9000 + s.tDig < s.inTick then t = s.inc (F.TL_ERR_LATE (tlIdx l))
         else t = { s with tri := t.tri } ∧ (t.peer l).digs = some (0, (List.range (beAt f.payload 0 2)).map fun i =>
           BitVec.ofNat 64 (beAt f.payload (8 + 8 * i) 8))) ∧
       (f.kind = 0x33 → s.tri.phase = 2 → f.payload.length = 16 + 8 * beAt f.payload 0 2 →
         ∃ t, exec (.odigReceive l f) s = .next t ∧
         if s.phaseStart + 9000 + s.tDig < s.inTick then t = s.inc (F.TL_ERR_LATE (tlIdx l))
         else t = { s with tri := t.tri } ∧ (t.peer l).digs = some (BitVec.ofNat 64 (beAt f.payload 8 8),
           (List.range (beAt f.payload 0 2)).map fun i => BitVec.ofNat 64 (beAt f.payload (16 + 8 * i) 8))) ∧
       (f.kind = 0x32 → s.tri.phase = 1 → f.payload.length = 8200 → ∃ t, exec (.iblkReceive l f) s = .next t ∧
         if s.phaseStart + 15000 + s.tDig + 8000 * s.cap < s.inTick then t = s.inc (F.TL_ERR_LATE (tlIdx l))
         else t = { s with tri := t.tri } ∧ aget? (beAt f.payload 0 2) (t.peer l).blocks =
           some ((List.range 1024).map fun i => BitVec.ofNat 64 (beAt f.payload (8 + 8 * i) 8))) ∧
       (f.kind = 0x34 → s.tri.phase = 2 → f.payload.length = 8200 → ∃ t, exec (.oblkReceive l f) s = .next t ∧
         if s.phaseStart + 15000 + s.tDig + 8000 * s.cap < s.inTick then t = s.inc (F.TL_ERR_LATE (tlIdx l))
         else t = { s with tri := t.tri } ∧ aget? (beAt f.payload 0 2) (t.peer l).blocks =
           some ((List.range 1024).map fun i => BitVec.ofNat 64 (beAt f.payload (8 + 8 * i) 8)))) ∧
     (∀ (l : TriLink) (f : Frame), s.triadErr l f = none → f.memberNo.toNat = peerIdx s.tri.idx l → s.triUse l = true →
       f.tick.toNat = s.n → f.kind = 0x33 → (s.tri.phaseTick ≠ s.n ∨ s.tri.phase < 2) → f.payload.length = 16 + 8 * beAt f.payload 0 2 →
       ∃ t, exec (.odigReceive l f) s = .next t ∧ t = { s with tri := t.tri } ∧ (t.peer l).early = some (2, s.n,
         BitVec.ofNat 64 (beAt f.payload 8 8), (List.range (beAt f.payload 0 2)).map fun i =>
           BitVec.ofNat 64 (beAt f.payload (16 + 8 * i) 8))) ∧
     (s.tri.phaseTick = s.n → s.tri.phase ≠ 0 → s.tri.formed = false → ∃ t, exec .blockExchangeStart s = .next t ∧ t.mem = s.mem ∧
       t.dev = s.dev ∧ t.tri.formed = true ∧ t.tri.xset.length ≤ s.cap ∧
       (s.tri.idx ∈ s.tri.set → ∀ b ∈ t.tri.xset, ∀ l, s.triUse l = true → s.triLane l = true → ∃ f, Tx.triad l f ∈ t.tx ∧
         f.kind = (if s.tri.phase = 2 then 0x34 else 0x32) ∧ s.triadErr l f = none ∧ f.payload.length = 8200 ∧ beAt f.payload 0 2 = b)))

/-- The slot vote (R304 to R306): of three usable copies of BIT type the value that two agree on, of other integers
the median; of two usable copies their common value, and of differing ones none in type BIT, in type U32 the one that
the side names within the tolerance and none beyond it; the safe value, not VALID, where there is none. The votes of a
tick (R301, R302, R309, R310): each changes no byte outside bank F; after the output vote a member in minority counts
it and is benched at the next boundary, a benched one in majority is a member again; a vote missing at its deadline
trips. -/
def Obligations.TriadVotes : Prop :=
  ((∀ (a b c tol : Word) (side : Bool),
     (a.toNat ≤ 1 → b.toNat ≤ 1 → c.toNat ≤ 1 → ∃ v, voteValue 0 tol side [a, b, c] = some v ∧
       ((v = a ∧ v = b) ∨ (v = a ∧ v = c) ∨ (v = b ∧ v = c))) ∧
     (∀ typ, typ = 1 ∨ typ = 3 → ∃ v, voteValue typ tol side [a, b, c] = some v ∧ (v = a ∨ v = b ∨ v = c) ∧
       v.toNat = a.toNat + b.toNat + c.toNat - min a.toNat (min b.toNat c.toNat) - max a.toNat (max b.toNat c.toNat)) ∧
     (∀ typ, typ = 2 ∨ typ = 4 → ∃ v, voteValue typ tol side [a, b, c] = some v ∧
       v.toInt = a.toInt + b.toInt + c.toInt - min a.toInt (min b.toInt c.toInt) - max a.toInt (max b.toInt c.toInt)) ∧
     (∀ typ, voteValue typ tol side [a, a] = some a ∧ voteValue typ tol side [a] = none ∧ voteValue typ tol side [] = none) ∧
     (a ≠ b → voteValue 0 tol side [a, b] = none) ∧
     (a ≠ b → slotNear 3 a b tol = true → (voteValue 3 tol side [a, b]).map (·.toNat) =
       some (if side then max a.toNat b.toNat else min a.toNat b.toNat)) ∧
     (a ≠ b → slotNear 3 a b tol = false → voteValue 3 tol side [a, b] = none)) ∧
   (∀ (s : State) (r : RangeD) (h : Nat) (cs : List Slot),
     (voteValue r.typ (BitVec.ofNat 32 (s.rf (F.TRI_VD_TOL_TOL r.n))) (s.rfb (F.TRI_VD_CFG_SIDE r.n))
         ((cs.filter (usable r.typ)).map (·.val)) = none →
       (s.voteSlot r h cs).1.val = s.safeOf r ∧ qb (s.voteSlot r h cs).1.qual 0 = false ∧ qb (s.voteSlot r h cs).1.qual 7 = true) ∧
     (∀ v, voteValue r.typ (BitVec.ofNat 32 (s.rf (F.TRI_VD_TOL_TOL r.n))) (s.rfb (F.TRI_VD_CFG_SIDE r.n))
         ((cs.filter (usable r.typ)).map (·.val)) = some v →
       (s.voteSlot r h cs).1.val = v ∧ qb (s.voteSlot r h cs).1.qual 0 = true ∧
       qb (s.voteSlot r h cs).1.qual 7 =
         !((cs.filter (usable r.typ)).length == 3 && (cs.filter (usable r.typ)).all fun x => x.val == v)))) ∧
  (∀ s : State, s.Inv → s.votes = true → s.tri.phaseTick = s.n →
     (s.tri.phase = 1 → s.tri.inVoted ≠ some s.n → ∃ t, exec .inputVote s = .next t ∧ t.tri.inVoted = some s.n ∧
       MemBut bankF 0x2800000 s t ∧ t.n = s.n) ∧
     (s.tri.phase = 2 → s.tri.outVoted ≠ some s.n → ∃ t, exec .outputVote s = .next t ∧ t.tri.outVoted = some s.n ∧
       MemBut bankF 0x2800000 s t ∧ t.n = s.n ∧
       (s.dev ≠ .ready → t.tri.majority = true → t.rf F.TRI_STAT_MINCNT = 0) ∧
       (s.dev ≠ .ready → t.tri.majority = false → t.rf F.TRI_STAT_MINCNT = min 15 (s.rf F.TRI_STAT_MINCNT + 1)) ∧
       (t.dev ≠ .tripped → t.dev = s.dev ∧ (s.dev = .benched → t.tri.majority = true → t.due = some .member) ∧
         (s.dev = .member → t.tri.majority = false → t.due = some .benched))) ∧
     (s.tri.phase = 1 → s.reached (s.rf F.TICK_PH0_DISPATCH) = false →
       (s.tri.inVoted = some s.n → exec .voteDeadline s = .next s) ∧
       (s.tri.inVoted ≠ some s.n → ∃ t, exec .voteDeadline s = .next t ∧ Tripped 2 s t)) ∧
     (s.tri.phase = 2 → (s.tri.outVoted = some s.n → exec .voteDeadline s = .next s) ∧
       (s.tri.outVoted ≠ some s.n → ∃ t, exec .voteDeadline s = .next t ∧ Tripped 1 s t)))

/-- Trips of members, joins and forces (R308, R315 to R318): a member's TRIP excludes it; a join copy is written
straight into the regions, its CURRENT record fixes tick j, and equal digests 2^k ticks later make the joiner a
member; a force takes effect in its tick, before its freeze, and is then no longer held. -/
def Obligations.TriadJoins : Prop :=
  ∀ (l : TriLink) (f : Frame) (s : State), s.Inv → s.isTriad = true → s.triadErr l f = none → f.memberNo.toNat = peerIdx s.tri.idx l →
    (f.kind = 0x35 → f.payload.length = 16 → ∃ t, exec (.triadTripReceive l f) s = .next t ∧ t.mem = s.mem ∧ t.dev = s.dev ∧
      (t.peer l).tripped = true ∧ (t.peer l).state = 0xA ∧ t.vector (peerIdx s.tri.idx l) = none ∧
      t.rf (F.TL_STAT_PEER_STATE (tlIdx l)) = 0xA) ∧
    (f.kind = 0x37 → s.fromSource l f = true → 1 ≤ beAt f.payload 2 1 → beAt f.payload 2 1 ≤ 128 →
      f.payload.length = 4 + 68 * beAt f.payload 2 1 → nbit (beAt f.payload 3 1) 0 = true →
      ∀ i d, dataEntries f.payload = [(i, d)] → inLines s.mirrorRuns i = true → s.mirrorImage = none →
      s.gateOk 52 (bankL + 64 * i) 64 .write = true →
      ∃ t, exec (.rsDataReceive l f) s = .next t ∧ t.rdBytes (bankL + 64 * i) 64 = d ∧ MemBut (bankL + 64 * i) 64 s t ∧
        t.mirr.rxCopying = true ∧
        t.mirr.cpFrames = (if beAt f.payload 0 2 = 0 ∨ s.mirr.rxCopying = false then 1 else s.mirr.cpFrames + 1)) ∧
    (f.kind = 0x38 → s.fromSource l f = true → f.payload.length = 32 → nbit (beAt f.payload 22 1) 0 = true → s.tri.joinTick = none →
      s.mirr.rxCopying = true → s.mirr.cpFrames = beAt f.payload 20 2 → s.mirr.cpLines = beAt f.payload 16 4 →
      s.mirr.cpDig = BitVec.ofNat 64 (beAt f.payload 24 8) → ∃ t, exec (.rsCommitReceive l f) s = .next t ∧
        t = { s with mirr := t.mirr, tri := t.tri } ∧ t.tri.joinTick = some (beAt f.payload 0 8) ∧ t.mirr.rxCopying = false ∧
        t.mirr.applied = beAt f.payload 0 8) ∧
    (∀ j, s.tri.joinTick = some j → s.joins = true → s.n = j + s.longest → s.tri.outVoted = some s.n → s.tri.joinMiss = false →
      (∃ m ∈ s.tri.majs, m ≠ s.tri.idx) → (∀ m ∈ s.tri.majs, m ≠ s.tri.idx → s.vector m = some (s.tri.commit, s.tri.own)) →
      ∃ t, exec .joinCompare s = .next t ∧ t.due = some .member ∧ t.mem = s.mem ∧ t.rfb F.TRI_STAT_JOINING = false) ∧
    (f.kind = 0x36 → s.triOn = true → f.payload.length = 24 → (beAt f.payload 0 1 = 1 ∨ beAt f.payload 0 1 = 2) →
      ∃ t, exec (.triadForceReceive l f) s = .next t ∧ t = { s with tri := t.tri } ∧
        t.tri.forces = s.tri.forces ++ [(beAt f.payload 16 8, beAt f.payload 0 1 == 1, beAt f.payload 4 4, beAt f.payload 8 4)]) ∧
    (∃ t : State, exec .forceEffect s = .next t.freezeOnce ∧ t.dev = s.dev ∧ t.tri.forces = s.tri.forces.filter (fun x => decide (s.n < x.1)) ∧
      ((∀ x ∈ s.tri.forces, x.1 ≠ s.n) → t.mem = s.mem ∧ t.regs = s.regs) ∧
      (∀ h v, h < 2 ^ 23 → s.tri.forces.filter (fun x => x.1 == s.n) = [(s.n, true, h, v)] → s.forceIdx h ≠ none ∨ s.forceFree ≠ none →
        t.forceIdx h ≠ none))

/-- Staging (R325, R340, R342): an accepted request is logged and begins it, one during a change or a handover is
refused with 0xB; its completion leaves the plan with PHASE 2, or the refusal's reason with what was staged before,
and PHASE 3 where nothing was. Rolling back and completing: the running slot's commit word is cleared before the
restart into the other slot (R336); the fuses burn the rollback counters and revoke the keys the manifest names (R337,
R388, R389). Versions (R334 to R336): a VERSION says image, its FROM and its levels; a member that follows its partner
and holds the other image as its own FROM translates, one whose image the partner's descends from translates back. -/
def Obligations.ChangeRequests : Prop :=
  (∀ (r : SvcReq) (q : List SvcReq) (s : State), s.Inv →
     (Granted 0x21 r q s → r.body.length = 12 → beAt r.body 3 1 = 0 → beAt r.body 0 1 = 1 →
       (s.chgBusy = false → s.saw.hovrLive = false → s.saw.hovrReq = false → s.saw.hbHandover = 0 → beAt r.body 1 1 < 2 → beAt r.body 1 1 ≠ s.boot.slot →
         ∃ t, exec .changeStage s = .next t ∧ t.mem = s.mem ∧ Answered r q 0xA 0 [] s t ∧ t.rf F.SYS_CHG_PHASE = 1 ∧
           s.logSeq < t.logSeq ∧ t.chg = { s.chg with staging := some (beAt r.body 1 1, r.actor) }) ∧
       (s.chgBusy = true ∨ s.saw.hovrLive = true ∨ s.saw.hovrReq = true ∨ s.saw.hbHandover ≠ 0 → ∃ t, exec .changeStage s = .next t ∧ t.mem = s.mem ∧ Answered r q 0xA 0 [] s t ∧ t.chg = s.chg ∧
         t.rf F.SYS_CHG_REASON = 0xB ∧ s.logSeq < t.logSeq)) ∧
     (∀ k actor, s.chg.staging = some (k, actor) → ∃ t, exec .stageComplete s = .next t ∧ t.mem = s.mem ∧ t.img = s.img ∧
       ((s.stageResult k).1.2 = none → t.chg = { s.chg with staging := none } ∧
         t.rf F.SYS_CHG_REASON = (s.stageResult k).1.1 % 16 ∧
         (s.chg.plan = none → s.chg.switch = none → s.chg.stopEnd = none → s.chg.translating = false → s.chg.back = false →
           t.rf F.SYS_CHG_PHASE = 3)) ∧
       (∀ p, (s.stageResult k).1.2 = some p → t.chg = { s.chg with staging := none, plan := some p } ∧ t.rf F.SYS_CHG_REASON = 0 ∧
         t.rf F.SYS_CHG_Z = min 255 p.z ∧ (s.chg.switch = none → s.chg.stopEnd = none → t.rf F.SYS_CHG_PHASE = 2))) ∧
     (s.chg.staging = none → exec .stageComplete s = .next s) ∧
     (Granted 0x21 r q s → r.body.length = 12 → beAt r.body 3 1 = 0 → beAt r.body 0 1 = 3 → s.chgBusy = false →
       s.candidateSlot (1 - s.boot.slot) = true →
       (s.slotImage (1 - s.boot.slot)).any (fun o => o.hash == s.img.prev) = true →
       ∃ u, exec .changeRollback s = .next (u.resetNow 3 (some (1 - s.boot.slot))) ∧ Answered r q 0xA 0 [] s u ∧ u.dev = s.dev ∧
         u.mem = s.mem ∧ u.committed s.boot.slot = false) ∧
     (Granted 0x21 r q s → r.body.length = 12 → beAt r.body 3 1 = 0 → beAt r.body 0 1 = 4 → s.chgBusy = false →
       (s.isPair = true → s.imagesDiffer = false) → tabWf (fun _ => (0 : Nat)) s.otp.ctr = true →
       ∃ t, exec .changeComplete s = .next t ∧ t.mem = s.mem ∧ Answered r q 0xA 0 [] s t ∧ s.logSeq < t.logSeq ∧
         (∀ c, c < 4 → tget 0 t.otp.ctr c = s.burnTo c) ∧
         (∀ k, k < 4 → nbit s.boot.revoke k = true → (tget {} t.otp.keys k).revoked = true) ∧ t.otp.life = s.otp.life)) ∧
  (∀ s : State, s.Inv → s.isPair = true →
     (s.rfb F.PAIR_STAT_UP = true → s.dev = .syncing ∨ s.dev = .standby ∨ s.dev = .active → ∃ f, exec .versionSend s =
       .next { s with tx := s.tx ++ [Tx.pair f] } ∧ f.kind = 0x14 ∧ s.pairErr f = none ∧ f.payload.length = 104 ∧
       f.payload.take 48 = slice s.img.hash 0 48 ∧ (f.payload.drop 48).take 48 = slice s.img.prev 0 48) ∧
     (∀ f : Frame, s.pairErr f = none → f.kind = 0x14 → f.payload.length = 104 → ∃ t, exec (.versionReceive f) s = .next t ∧
       t = { s with regs := t.regs, saw := t.saw, chg := t.chg } ∧ t.saw.versionAt = some s.n ∧
       t.saw.version = some (f.payload.take 48, (f.payload.drop 48).take 48, beAt f.payload 96 2, beAt f.payload 98 2) ∧
       (let shadow := decide (s.dev = .ready ∨ s.dev = .syncing ∨ s.dev = .standby ∨ s.saw.role = .relinquished)
        t.chg = { s.chg with
          translating := shadow && f.payload.take 48 != s.img.hash && s.translates (f.payload.take 48)
          back := shadow && f.payload.take 48 != s.img.hash && (f.payload.drop 48).take 48 == s.img.hash }) ∧
       (s.chg.switch = none → s.chg.stopEnd = none → s.chg.staging = none → s.chg.plan = none →
         (t.chg.translating = true → t.rf F.SYS_CHG_PHASE = 4) ∧
         (t.chg.translating = false → t.chg.back = true → t.rf F.SYS_CHG_PHASE = 5))))

/-- The switch (R330 to R333): an accepted request fixes the tick; in TRIAD it is 8 ticks ahead and the other members
follow a SWITCH that names their own plan; at that tick a device applies the plan and stops, a standby only stops, and
in any other state the switch is void (NOTES 40); Z ticks later it is READY, and one tick later it serves again. -/
def Obligations.ChangeSwitches : Prop :=
  ∀ s : State, s.Inv →
    (∀ r q p, Granted 0x21 r q s → r.body.length = 12 → beAt r.body 3 1 = 0 → beAt r.body 0 1 = 2 → s.chg.plan = some p →
      (s.switchRefusal (some p) (nbit (beAt r.body 2 1) 0) s.peersStaged (beAt r.body 4 8) = 0 →
        ∃ t, exec .changeSwitch s = .next t ∧ t.mem = s.mem ∧ s.logSeq < t.logSeq ∧ t.rf F.SYS_CHG_PHASE = 6 ∧
          t.chg = { s.chg with switch := some (if s.isTriad then s.n + 8 else beAt r.body 4 8) } ∧
          t.tx.getLast? = some (Tx.svc (r.rsp 0xA 0 []) (s.svcOut (r.rsp 0xA 0 []))) ∧
          (s.isTriad = true → ∀ l, s.triUse l = true → s.triLane l = true → ∃ f, Tx.triad l f ∈ t.tx ∧ f.kind = 0x39 ∧ s.triadErr l f = none ∧
            f.payload = switchPayload p (s.n + 8))) ∧
      (s.switchRefusal (some p) (nbit (beAt r.body 2 1) 0) s.peersStaged (beAt r.body 4 8) ≠ 0 →
        ∃ t, exec .changeSwitch s = .next t ∧ t.mem = s.mem ∧ t.chg = s.chg ∧ Answered r q 0xA 0 [] s t ∧
          t.rf F.SYS_CHG_REASON = s.switchRefusal (some p) (nbit (beAt r.body 2 1) 0) s.peersStaged (beAt r.body 4 8))) ∧
    (∀ l f p, s.triadErr l f = none → f.kind = 0x39 → s.isTriad = true → (s.dev = .member ∨ s.dev = .benched) → s.changing = false → s.chg.plan = some p → f.payload = switchPayload p (beAt f.payload 32 8) → s.n < beAt f.payload 32 8 →
      ∃ t, exec (.switchMessageReceive l f) s = .next t ∧ t = { s with regs := t.regs, chg := t.chg } ∧
        t.chg = { s.chg with switch := some (beAt f.payload 32 8) } ∧ t.rf F.SYS_CHG_PHASE = 6) ∧
    (∀ p, s.chg.plan = some p → s.chg.switch = some s.n →
      (s.dev = .standby → ∃ t, exec .switchTick s = .next t ∧ t.dev = .stopped ∧ t.mem = s.mem ∧ t.img = s.img ∧
        t.chg = { s.chg with switch := none } ∧ t.saw.role = .none) ∧
      (s.dev = .active ∨ s.dev = .member → ∃ t, exec .switchTick s = .next t ∧ t.dev = .stopped ∧ t.img = p.img ∧
        t.sched.placed = p.placed ∧ t.chg.switch = none ∧ t.chg.stopEnd = some (s.n + p.z) ∧ t.flights = [] ∧
        (∀ e, (t.getEng e).cur = none ∧ (t.getEng e).ready = [])) ∧
      (s.dev ≠ .standby → s.dev ≠ .active → s.dev ≠ .member → ∃ t, exec .switchTick s = .next t ∧
        t = { s with regs := t.regs, chg := { s.chg with switch := none } } ∧
        (s.chg.staging = none → s.chg.stopEnd = none → t.rf F.SYS_CHG_PHASE = 2))) ∧
    (∀ t, s.chg.switch = some t → t ≠ s.n → exec .switchTick s = .next s) ∧
    (s.dev = .stopped → s.chg.stopEnd = some s.n → ∃ t, exec .switchStopEnd s = .next t ∧ (t.dev = .tripped ∨ t.dev = .ready) ∧
      (s.rfb F.IMG_CTRL_FREEZE_EN = false → t.dev = .ready ∧ t.mem = s.mem ∧ t.chg = s.chg ∧ t.since = 0 ∧
        ∀ k, (t.getSta k).u = none)) ∧
    (s.dev = .ready → s.addrOk = true → s.rfb F.SEC_DBG_UNLOCKED = false → ∀ b, s.chg.stopEnd = some b → s.n = b + 1 → ∃ t, exec .switchResume s = .next t ∧
      t.chg = { s.chg with stopEnd := none, switch := t.chg.switch } ∧
      (s.chg.switch = none → s.chg.plan = none → s.chg.staging = none → s.chg.translating = false → s.chg.back = false →
        s.rf F.SYS_CHG_PHASE = 6 → t.rf F.SYS_CHG_PHASE = 0) ∧
      (t.dev = .tripped ∨ t.dev = if s.isTriad then .member else .active) ∧
      (s.rfb F.IMG_CTRL_FREEZE_EN = false → t.dev = (if s.isTriad then .member else .active) ∧ t.mem = s.mem))

/-- Received telegrams (R356): the first copy of a new sequence number opens a window; an equal second copy from the other
network gives the payload to the next freeze, a different one the safe values; a repeated one is ignored and counted;
the end of the window without its second copy, and the watchdog, give the safe values. Debug accesses go through the
gate as context 63 (R370 to R372): what passes reads or writes memory, what does not reads zeros, changes no byte and
leaves a violation record. -/
def Obligations.TelegramsAndDebug : Prop :=
  (∀ s : State, s.Inv →
     (∀ (p : PlantPort) (port : BitVec 16) (b d : List Byte) (g : TgDef) (seq : Nat), s.plantUp p = true →
       s.dev ∉ [.booting, .parked, .refused] → s.tgValid (p == .b) port b = some (g, seq, d) →
       ∃ t x, exec (.telegramReceive p port b) s = .next t ∧ t = { s with tgRx := t.tgRx } ∧ x = tget {} s.tgRx g.num ∧
         (x.openSeq = none → (∀ l, x.lastSeq = some l → l < seq) →
           (tget {} t.tgRx g.num).openSeq = some seq ∧ (tget {} t.tgRx g.num).openData = d ∧
           (tget {} t.tgRx g.num).openNet = (p == .b) ∧ (tget {} t.tgRx g.num).openAt = s.mono ∧
           (tget {} t.tgRx g.num).write = x.write) ∧
         (x.openSeq = some seq → x.openNet ≠ (p == .b) → s.mono ≤ x.openAt + 1000 * g.skw →
           (tget {} t.tgRx g.num).openSeq = none ∧ (tget {} t.tgRx g.num).lastSeq = some seq ∧
           (x.openData = d → (tget {} t.tgRx g.num).write = some (d, tgStatus true false false) ∧
             (tget {} t.tgRx g.num).acceptTick = s.n) ∧
           (x.openData ≠ d → ∃ st, (tget {} t.tgRx g.num).write = some (g.safe, st) ∧ st.getLsbD 1 = true)) ∧
         (x.openSeq = none → (∃ l, x.lastSeq = some l ∧ seq ≤ l) →
           tget {} t.tgRx g.num = { x with ignored := x.ignored + 1 })) ∧
     (∀ (p : PlantPort) (port : BitVec 16) (b : List Byte), s.tgValid (p == .b) port b = none →
       exec (.telegramReceive p port b) s = .next s) ∧
     (∀ (c : Byte) (g : TgDef), s.tgDef false c.toNat = some g →
       (∀ q, (tget {} s.tgRx g.num).openSeq = some q → (tget {} s.tgRx g.num).openAt + 1000 * g.skw ≤ s.mono → ∃ t, exec (.telegramSkewExpiry c) s = .next t ∧
         t = { s with tgRx := t.tgRx } ∧ (tget {} t.tgRx g.num).openSeq = none ∧ (tget {} t.tgRx g.num).lastSeq = some q ∧
         ∃ st, (tget {} t.tgRx g.num).write = some (g.safe, st) ∧ st.getLsbD 1 = true ∧ st.getLsbD 2 = true) ∧
       ((tget {} s.tgRx g.num).acceptTick + g.wd ≤ s.n → ∃ t, exec (.telegramWatchdogExpiry c) s = .next t ∧
         t = { s with tgRx := t.tgRx } ∧
         ∃ st, (tget {} t.tgRx g.num).write = some (g.safe, st) ∧ st.getLsbD 0 = false ∧ st.getLsbD 1 = true) ∧
       (s.n < (tget {} s.tgRx g.num).acceptTick + g.wd → exec (.telegramWatchdogExpiry c) s = .next s))) ∧
  (∀ (addr : Word) (size : Nat) (data : List Byte) (s : State), s.Inv → 1 ≤ size → size ≤ 256 →
     (s.gateOk 63 addr.toNat size .read = true → exec (.debugAccess addr size .read data) s =
       .next { s with rbytes := s.rdBytes addr.toNat size }) ∧
     (s.gateOk 63 addr.toNat size .write = true → s.retained = [] → data.length = size →
       ∃ t, exec (.debugAccess addr size .write data) s = .next t ∧ t.rdBytes addr.toNat size = data ∧
         MemBut addr.toNat size s t ∧ t.regs = s.regs) ∧
     (∀ kind, s.gateOk 63 addr.toNat size kind = false → ∃ t, exec (.debugAccess addr size kind data) s = .next t ∧
       t.mem = s.mem ∧ t.rbytes = (if kind = .write then s.rbytes else List.replicate size 0) ∧
       (s.viol.length < 32 → t.viol = s.viol ++ [s.violRec 63 addr.toNat size kind])))

/-- Reception (R399, R400, R416, R417, R423): with the channel off on the interface nothing is taken, nor on a plant
port that is down; a repeated request gets its kept response again; a well-formed one enters the queue, or is answered
busy when sixteen wait, and in BOOTING; a malformed header is answered 2, an unknown operation 1; an answer with a
refusal counts. Sessions and the password (R357 to R359, R419): a right password opens the session for the place that
asked, a wrong one counts and the fifth locks for ten minutes; LOGOUT and idleness end it; a password that stands in a
request is checked first; a new password is written over the record not in force, with its commit word; the end of a
lock lets the count stand. -/
def Obligations.ServiceQueueAndSessions : Prop :=
  (∀ (d : SvcDatagram) (s : State), s.Inv → s.dev ≠ .parked → s.boot.held = false →
     (s.svcOn d.iface = false → ∃ t, exec (.serviceRequestReceive d) s = .next t ∧ t = { s with regs := t.regs } ∧
       (d.iface = 0 → t = s)) ∧
     (s.ifaceUp d.iface = false → exec (.serviceRequestReceive d) s = .next s) ∧
     (s.svcOn d.iface = true → s.ifaceUp d.iface = true → d.sumOk = true → d.sumZero = false → 20 ≤ d.bytes.length → d.bytes.length ≤ 1472 →
       (∀ k, (s.svc.kept.find? fun k => k.ip == (svcParse d s.n).1.ip && k.port == (svcParse d s.n).1.port &&
           k.reqId == (svcParse d s.n).1.reqId) = some k →
         ∃ t, exec (.serviceRequestReceive d) s = .next t ∧ t.rf F.SVC_CNT_REQUESTS = satAdd F.SVC_CNT_REQUESTS.wid (s.rf F.SVC_CNT_REQUESTS) 1 ∧
           (k.status ≠ 0 → k.status ≠ 0xA → t.rf F.SVC_CNT_REFUSED = satAdd F.SVC_CNT_REFUSED.wid (s.rf F.SVC_CNT_REFUSED) 1) ∧
           t = { s with regs := t.regs, plantA := t.plantA, plantB := t.plantB, tx := s.tx ++ [Tx.svc k (s.svcOut k)] }) ∧
       ((∀ k ∈ s.svc.kept, k.reqId ≠ (svcParse d s.n).1.reqId) → s.dev = .booting → ∃ t, exec (.serviceRequestReceive d) s = .next t ∧
         t.mem = s.mem ∧ t.svc = s.svc ∧
         t.tx = s.tx ++ [Tx.svc ((svcParse d s.n).1.rsp 8 0 []) (s.svcOut ((svcParse d s.n).1.rsp 8 0 []))]) ∧
       ((∀ k ∈ s.svc.kept, k.reqId ≠ (svcParse d s.n).1.reqId) → s.dev ≠ .booting →
         ((svcParse d s.n).2 = true → (svcParse d s.n).1.op ∈ svcOps → s.svc.queue.length < 16 →
           ∃ t, exec (.serviceRequestReceive d) s = .next t ∧ t = { s with svc := t.svc } ∧
             t.svc.queue = s.svc.queue ++ [(svcParse d s.n).1] ∧
             t.svc.session.map (·.num) = s.svc.session.map (·.num)) ∧
         ((svcParse d s.n).2 = true → (svcParse d s.n).1.op ∈ svcOps → 16 ≤ s.svc.queue.length →
           ∃ t, exec (.serviceRequestReceive d) s = .next t ∧ t.mem = s.mem ∧ t.svc = s.svc ∧
             t.rf F.SVC_CNT_REFUSED = satAdd F.SVC_CNT_REFUSED.wid (s.rf F.SVC_CNT_REFUSED) 1 ∧
             t.tx = s.tx ++ [Tx.svc ((svcParse d s.n).1.rsp 8 0 []) (s.svcOut ((svcParse d s.n).1.rsp 8 0 []))]) ∧
         ((svcParse d s.n).2 = false → ∃ t, exec (.serviceRequestReceive d) s = .next t ∧
           Answered (svcParse d s.n).1 s.svc.queue 2 0 [] s t ∧ t.mem = s.mem) ∧
         ((svcParse d s.n).2 = true → (svcParse d s.n).1.op ∉ svcOps → ∃ t, exec (.serviceRequestReceive d) s = .next t ∧
           Answered (svcParse d s.n).1 s.svc.queue 1 0 [] s t ∧ t.mem = s.mem))) ∧
     (∃ t, exec .serviceLinkUp s = .next t ∧ OnlyRegsAt [0x40140010] s t ∧ t.rfb F.SVC_STAT_UP = true) ∧
     (∃ t, exec .serviceLinkDown s = .next t ∧ OnlyRegsAt [0x40140010] s t ∧ t.rfb F.SVC_STAT_UP = false)) ∧
  (∀ (r : SvcReq) (q : List SvcReq) (s : State), s.Inv → s.svc.queue = r :: q →
     (r.op = 0x01 → s.opAllowed 0x01 = true → s.pwBarred r.iface = false → r.body.length = 1 + beAt r.body 0 1 →
       1 ≤ beAt r.body 0 1 → beAt r.body 0 1 ≤ 64 → s.svc.session = none → s.ret.norOk = true → s.pwLocked = false →
       (s.inlineCheck r).1 = 0 → let u := (s.inlineCheck r).2
       ((u.pwCheck (r.body.drop 1)).1 = 0 → ∃ t x, exec .login s = .next t ∧ t.mem = s.mem ∧ t.svc.session = some x ∧
         x.iface = r.iface ∧ x.ip = r.ip ∧ x.port = r.port ∧ x.last = s.mono ∧ t.pwd = {} ∧ t.svc.queue = q ∧
         t.tx = s.tx ++ [Tx.svc { r.rsp 0 0 [] with session := x.num } (s.svcOut { r.rsp 0 0 [] with session := x.num })]) ∧
       ((u.pwCheck (r.body.drop 1)).1 ≠ 0 → ∃ t, exec .login s = .next t ∧ t.mem = s.mem ∧ t.svc.session = none ∧
         t.pwd.fails = u.pwd.fails + 1 ∧ Answered r q 5 0 [] s t ∧
         (4 ≤ u.pwd.fails → t.pwd.lockEnd = some (s.mono + 600000000000)))) ∧
     (∀ pw, r.op = 0x01 → s.opAllowed 0x01 = true → s.pwBarred r.iface = false → r.body.length = 1 + beAt r.body 0 1 →
       1 ≤ beAt r.body 0 1 → beAt r.body 0 1 ≤ 64 → s.svc.session = none → s.pwLocked = false → r.pw = some pw → (s.pwCheck pw).1 ≠ 0 →
       ∃ t, exec .login s = .next t ∧ t.mem = s.mem ∧ t.svc.session = none ∧ t.pwd.fails = s.pwd.fails + 1 ∧ Answered r q 5 0 [] s t) ∧
     (r.op = 0x02 → s.opAllowed 0x02 = true → (s.inlineCheck r).1 = 0 → ∃ t, exec .logout s = .next t ∧ t.mem = s.mem ∧ Answered r q 0 0 [] s t ∧
       t.svc.session = (if s.inSession r then none else s.svc.session)) ∧
     (∀ pw, Granted 0x03 r q s → r.pw = some pw → r.body.length = 1 + beAt r.body 0 1 → 1 ≤ beAt r.body 0 1 → beAt r.body 0 1 ≤ 64 →
       ∃ t, exec .password s = .next t ∧ t.mem = s.mem ∧ t.svc.session = none ∧ Answered r q 0 0 [] s t ∧
         ∃ salt, leAt (t.norBytes (if s.pwInForce.2 = some 0 then 0x6010000 else 0x6000000) 256) 0xFC 4 = logCommit ∧
           slice (t.norBytes (if s.pwInForce.2 = some 0 then 0x6010000 else 0x6000000) 256) 8 32 = salt ∧
           slice (t.norBytes (if s.pwInForce.2 = some 0 then 0x6010000 else 0x6000000) 256) 0x28 48 =
             pbkdf2 (r.body.drop 1) salt s.pwInForce.1.iter) ∧
     (∃ t, exec .sessionIdleTimeout s = .next t ∧ t = { s with svc := { s.svc with session := t.svc.session } } ∧
       t.svc.session = (if s.svc.session.any fun x => decide (x.last + s.rf F.SVC_CFG_IDLE * 10000000000 ≤ s.mono) then none
         else s.svc.session)) ∧
     (∃ t, exec .passwordLockExpiry s = .next t ∧ t = { s with pwd := t.pwd } ∧ t.pwd.fails = s.pwd.fails ∧
       ∀ e, s.pwd.lockEnd = some e → t.pwd.lockEnd = if e ≤ s.mono then none else some e))

/-- Requests that read (R360, R391, R421, R505): slots of both banks, variable bytes, journal records, change-log
entries, the health record and an attestation of the device leave in the answer, a line of colour 14 as zeros; a
password that stands in the request must be right. Before the first tail the health record holds free values where
nothing has been measured (log entry 163). None changes a byte of memory. -/
def Obligations.ServiceReads : Prop :=
  ∀ (r : SvcReq) (q : List SvcReq) (s : State), s.Inv → s.svc.queue = r :: q → (s.inlineCheck r).1 = 0 →
    (r.op = 0x10 → s.opAllowed 0x10 = true → r.body.length = 12 → beAt r.body 1 3 = 0 →
      beAt r.body 8 4 * spaceUnit (beAt r.body 0 1) ≤ 1452 →
      (∀ base unit size, (beAt r.body 0 1, base, unit, size) ∈
          [(1, bankF, 8, slotCount), (2, bankL, 8, slotCount), (3, varBase, 1, 0x4000000), (7, jrnlBase, 64, 524288)] →
        beAt r.body 4 4 + beAt r.body 8 4 ≤ size →
        let ps := lineParts (base + unit * beAt r.body 4 4) (unit * beAt r.body 8 4)
        (∀ p ∈ ps, s.gateOk 55 p.1 p.2 .read = true) →
        ((∀ p ∈ ps, s.colourOf p.1 ≠ 14) → ∃ t, exec .read s = .next t ∧ t.mem = s.mem ∧
          Answered r q 0 0 (s.rdBytes (base + unit * beAt r.body 4 4) (unit * beAt r.body 8 4)) s t) ∧
        ((∀ p ∈ ps, s.colourOf p.1 = 14) → ∃ t, exec .read s = .next t ∧ t.mem = s.mem ∧
          Answered r q 0 0 (List.replicate (unit * beAt r.body 8 4) 0) s t)) ∧
      (beAt r.body 0 1 = 0 ∨ 9 ≤ beAt r.body 0 1 → ∃ t, exec .read s = .next t ∧ t.mem = s.mem ∧ Answered r q 9 0 [] s t)) ∧
    (r.op = 0x31 → s.opAllowed 0x31 = true → r.body.length = 5 → 1 ≤ beAt r.body 4 1 → beAt r.body 4 1 ≤ 5 →
      let u := (({ s with svc := { s.svc with queue := q } } : State).inlineCheck r).2
      beAt r.body 0 4 < u.logSeq → leAt (u.norBytes (logAt (beAt r.body 0 4)) 256) 0xFC 4 = logCommit →
      leAt (u.norBytes (logAt (beAt r.body 0 4)) 256) 0 4 = beAt r.body 0 4 →
      ∃ t b, exec .logRead s = .next t ∧ t.mem = s.mem ∧ t.nor = u.nor ∧
        Answered r q 0 0 (u.norBytes (logAt (beAt r.body 0 4)) 256 ++ b) s t) ∧
    (r.op = 0x32 → ∃ t, exec .health s = .next t ∧ t.mem = s.mem ∧
      (r.body = [] → s.hlth.record ≠ [] → Answered r q 0 0 s.hlth.record s t) ∧
      (r.body = [] → s.hlth.record = [] → ∃ env, Answered r q 0 0 (s.healthRecord env) s t) ∧ (r.body ≠ [] → Answered r q 2 0 [] s t)) ∧
    (r.op = 0x30 → s.opAllowed 0x30 = true → r.body.length = 49 → ∃ t b, exec .attest s = .next t ∧ t.mem = s.mem ∧
      Answered r q 0 0 (s.attestBody (r.body.take 48) ++ b) s t ∧ (s.otp.life = 3 → b = List.replicate 96 0) ∧
      (s.otp.life ≠ 3 → ∃ d k, b = ecdsaSign d k (sha384 (s.attestBody (r.body.take 48))) ++
        (if nbit (beAt r.body 48 1) 0 then s.otp.cert else []) ∧ (s.otp.unwraps = true → d = s.otp.key)))

/-- Requests that write and force (R72, R73, R260, R269, R317, R422): an accepted WRITE waits for the next tick and is
applied in it between F_d and D; a force or unforce waits for the next boundary, in TRIAD for tick a + 8; a handover
request is noted. The log takes an entry first, and no byte of memory changes before the apply. Slot writes and bay
marks (R176, R420, R494): a chunk waits behind the erase of each sector it is first to touch and is answered only when
it has been programmed; an operation of the flash lands in order, or, as a free value has it, fails, is counted and
stays in front (the model's choice, log entry 186); a cleared bay mark leaves the others. -/
def Obligations.ServiceWrites : Prop :=
  (∀ (r : SvcReq) (q : List SvcReq) (s : State), s.Inv →
     (Granted 0x11 r q s → 5 ≤ r.body.length → writable s.img (beAt r.body 0 4) (r.body.drop 4).length = true →
       ∃ t, exec .write s = .next t ∧ t.mem = s.mem ∧ Answered r q 0 0 [] s t ∧ s.logSeq < t.logSeq ∧
         t.svc.writes = s.svc.writes ++ [(beAt r.body 0 4, r.body.drop 4, s.n)]) ∧
     (s.commitSpan = false → exec .variableWriteApply s = .next s) ∧
     (s.commitSpan = true → ∃ t, exec .variableWriteApply s = .next t ∧ t.dev = s.dev ∧ t.regs = s.regs ∧
       t.svc.writes = s.svc.writes.filter (fun w => decide (s.n ≤ w.2.2)) ∧
       ((∀ w ∈ s.svc.writes, s.n ≤ w.2.2) → t.mem = s.mem) ∧
       (∀ o d k, s.svc.writes = [(o, d, k)] → k < s.n → s.retained = [] →
         t.rdBytes (varBase + o) d.length = d ∧ MemBut (varBase + o) d.length s t)) ∧
     (Granted 0x12 r q s → r.body.length = 8 → beAt r.body 0 4 < slotCount → s.rangeOf (beAt r.body 0 4) ≠ none →
       (s.isTriad = true → s.tri.set.length = 3) → s.forcedHandles.length < 1024 →
       ∃ t, exec .force s = .next t ∧ t.mem = s.mem ∧ Answered r q 0 0 [] s t ∧ s.logSeq < t.logSeq ∧
         (s.isTriad = false → t.svc.forces = s.svc.forces ++ [(true, beAt r.body 0 4, (BitVec.ofNat 32 (beAt r.body 4 4)).toNat)]) ∧
         (s.isTriad = true → t.svc.forces = s.svc.forces ∧
           t.tri.forces = s.tri.forces ++ [(s.n + 8, true, beAt r.body 0 4, (BitVec.ofNat 32 (beAt r.body 4 4)).toNat)])) ∧
     (Granted 0x13 r q s → r.body.length = 4 → beAt r.body 0 4 < slotCount → s.rangeOf (beAt r.body 0 4) ≠ none →
       (s.isTriad = true → s.tri.set.length = 3) →
       ∃ t, exec .unforce s = .next t ∧ t.mem = s.mem ∧ Answered r q 0 0 [] s t ∧ s.logSeq < t.logSeq ∧
         (s.isTriad = false → ∃ v, t.svc.forces = s.svc.forces ++ [(false, beAt r.body 0 4, v)]) ∧
         (s.isTriad = true → ∃ v, t.tri.forces = s.tri.forces ++ [(s.n + 8, false, beAt r.body 0 4, v)])) ∧
     (Granted 0x23 r q s → r.body = [] → ∃ t, exec .handover s = .next t ∧ t.mem = s.mem ∧ Answered r q 0xA 0 [] s t ∧
       s.logSeq < t.logSeq ∧ t.saw = { s.saw with hovrReq := true })) ∧
  (∀ (r : SvcReq) (q : List SvcReq) (s : State), s.Inv →
     (Granted 0x20 r q s → 9 ≤ r.body.length → r.body.length ≤ 1032 → beAt r.body 1 3 = 0 → beAt r.body 0 1 < 2 →
       beAt r.body 4 4 + (r.body.length - 8) ≤ 0x3000000 → s.runningSlot (beAt r.body 0 1) = false →
       meets (beAt r.body 4 4) (r.body.length - 8) 0xFFC 4 = false →
       ∃ t, exec .slotWrite s = .next t ∧ t.mem = s.mem ∧ t.tx = s.tx ∧ t.svc.queue = q ∧ s.logSeq < t.logSeq ∧
         t.rfb F.NVM_STAT_BUSY = true ∧
         ∃ ers, t.ret.ops = s.ret.ops ++ ers ++
             [NvmOp.mk (slotBase (beAt r.body 0 1) + beAt r.body 4 4) 0 (r.body.drop 8) (some (r.rsp 0 0 []))] ∧
           ∀ i, beAt r.body 4 4 / 65536 ≤ i → i ≤ (beAt r.body 4 4 + (r.body.length - 8) - 1) / 65536 →
             (beAt r.body 0 1, i) ∉ s.svc.erased → NvmOp.mk (slotBase (beAt r.body 0 1) + 65536 * i) 65536 [] none ∈ ers) ∧
     (∀ p l, s.ret.ops = p :: l → s.ret.suspended = false → ∃ t, exec .nvmOperationComplete s = .next t ∧ t.mem = s.mem ∧
       if s.draw.1 % 2 = 1 then
         t.ret.ops = s.ret.ops ∧ t.tx = s.tx ∧ t.rf F.NVM_ERR_FAIL = min 65535 (s.rf F.NVM_ERR_FAIL + 1) ∧
         (tabWf (fun _ => (0xFF : Byte)) s.nor = true →
           ∀ a, a < p.addr ∨ p.addr + max p.erase p.bytes.length ≤ a → tget 0xFF#8 t.nor a = tget 0xFF#8 s.nor a)
       else
         t.ret.ops = l ∧ t.rf F.NVM_ERR_FAIL = s.rf F.NVM_ERR_FAIL ∧
         (p.erase = 0 → tabWf (fun _ => (0xFF : Byte)) s.nor = true → t.norBytes p.addr p.bytes.length = p.bytes) ∧
         (p.erase ≠ 0 → ∀ a, p.addr ≤ a → a < p.addr + p.erase → tget 0xFF#8 t.nor a = 0xFF#8) ∧
         t.tx = s.tx ++ (match p.rsp with | some x => [Tx.svc x (s.svcOut x)] | none => [])) ∧
     (s.ret.suspended = true → exec .nvmOperationComplete s = .next s) ∧
     (Granted 0x26 r q s → r.body.length = 1 → beAt r.body 0 1 < 3 → ∃ t, exec .bayClear s = .next t ∧ t.mem = s.mem ∧
       Answered r q 0 0 [] s t ∧ s.logSeq < t.logSeq ∧ ∀ b, b < 3 →
         nbit (t.rf F.SEQ_FENCE_MARK) b = (nbit (s.rf F.SEQ_FENCE_MARK) b && b != beAt r.body 0 1)))

/-- Debug unlock (R395, R396): the nonce is shifted out, DBG_HOLD is noted; a device that waits takes one token, a
good one gives its masks and UNLOCKED and is in the log, a bad one counts as refused; the window then is closed and
the boot goes on; a device that does not wait ignores the timeout, and tokens but for one that comes while RESET_N
holds it, which is kept for the boot that follows. Lifecycle and key slots (R393, R394): SEAL burns the SEALED words,
which govern from the next BOOTING; RETIRE burns the wrapped key and the wrap root, revokes every key slot and ends in
REFUSED; an empty key slot takes its key once, and keeps its REVOKE byte. -/
def Obligations.LifecycleAndKeys : Prop :=
  (∀ s : State, s.Inv →
     (s.boot.por = false → exec .dbgNonce s = .next { s with tx := s.tx ++ [Tx.tap s.boot.nonce] } ∧
       ∃ t, exec .dbgHold s = .next t ∧ t = { s with regs := t.regs, boot := { s.boot with hold := true } } ∧
         RegsBut [0x400A0020] s t ∧ t.rfb F.SEC_DBG_HOLD = true) ∧
     (∀ token, s.boot.waiting = true → s.tokenOk token = true → ∃ u : State, exec (.dbgToken token) s = .next u.bootRun ∧
       u.boot.granted = some (tokenMasks token) ∧ u.boot.window = false ∧ u.rfb F.SEC_DBG_UNLOCKED = true ∧
       u.rf F.SEC_DBG_READ_MASK = (tokenMasks token).1 ∧ u.mem = s.mem ∧ u.otp = s.otp ∧
       (s.ret.norOk = true → s.logSeq < u.logSeq)) ∧
     (∀ token, s.boot.waiting = true → s.tokenOk token = false → ∃ u : State, exec (.dbgToken token) s = .next u.bootRun ∧
       u.boot = { s.boot with window := false, token := none } ∧ u.rf F.SEC_DBG_REFUSED = min 255 (s.rf F.SEC_DBG_REFUSED + 1) ∧
       u.rfb F.SEC_DBG_UNLOCKED = s.rfb F.SEC_DBG_UNLOCKED ∧ u.mem = s.mem) ∧
     (s.boot.waiting = true → exec .debugHoldTimeout s =
       .next (({ s with boot := { s.boot with window := false } } : State).bootRun)) ∧
     (s.boot.waiting = false → exec .debugHoldTimeout s = .next s ∧ ∀ token, exec (.dbgToken token) s = .next
       (if s.dev = .booting ∧ s.boot.held = true ∧ s.boot.por = false then { s with boot := { s.boot with token := some token } } else s)) ∧
     (∀ code : Byte, s.boot.waiting = false → ∃ t, exec (.securityEngineFault code) s = .next t ∧ t.mem = s.mem ∧ t.dev = s.dev ∧
       t.rf F.SEC_STAT_ERR = code.toNat ∧ RegsBut [0x400A0024] s t ∧
       ((code = 1 ∨ code = 3) → s.dev = .booting → t.boot.secFault = true) ∧
       ((code = 1 ∨ code = 3) → s.dev ≠ .booting → t.hlth.cond = s.hlth.cond ||| 2048))) ∧
  (∀ (r : SvcReq) (q : List SvcReq) (s : State), s.Inv →
     (Granted 0x24 r q s → r.body.length = 16 → beAt r.body 1 7 = 0 → beAt r.body 8 8 = s.otp.id.toNat →
       (beAt r.body 0 1 = 2 → s.otp.life = 1 → (∃ k, k < 4 ∧ s.keyServes k 1 = true) →
         ∃ t, exec .lifecycleSeal s = .next t ∧ t.mem = s.mem ∧ Answered r q 0 0 [] s t ∧ t.otp = { s.otp with sealed := (0xFFFFFFFF, 0xFFFFFFFF) } ∧ t.otp.life = 2 ∧
           t.boot = s.boot ∧ s.logSeq < t.logSeq) ∧
       (beAt r.body 0 1 = 2 → s.otp.life ≠ 1 → ∃ t, exec .lifecycleSeal s = .next t ∧ t.mem = s.mem ∧
         Answered r q 7 2 [] s t ∧ t.otp = s.otp) ∧
       (beAt r.body 0 1 = 3 → s.otp.life = 1 ∨ s.otp.life = 2 → ∃ t, exec .lifecycleRetire s = .next t ∧ t.dev = .refused ∧
         t.otp.life = 3 ∧ t.otp.unwraps = false ∧ t.otp.root = List.replicate 32 0xFF ∧ t.otp.wrapped = List.replicate 56 0xFF ∧ (∀ k, k < 4 → (tget {} t.otp.keys k).revoked = true) ∧
         t.rfb F.SEC_BOOT_ROM_ONLY = true)) ∧
     (Granted 0x25 r q s → r.body.length = 52 → beAt r.body 2 2 = 0 → beAt r.body 1 1 < 8 → 1 ≤ beAt r.body 0 1 → beAt r.body 0 1 < 4 →
       (s.boot.life = 1 → (tget {} s.otp.keys (beAt r.body 0 1)).present = false → ∃ t, exec .keyslot s = .next t ∧ t.mem = s.mem ∧
         Answered r q 0 0 [] s t ∧ s.logSeq < t.logSeq ∧
         tget {} t.otp.keys (beAt r.body 0 1) = { tget {} s.otp.keys (beAt r.body 0 1) with
           present := true, hash := r.body.drop 4, purpose := beAt r.body 1 1 } ∧
         ∀ k, k ≠ beAt r.body 0 1 → tget {} t.otp.keys k = tget {} s.otp.keys k) ∧
       (s.boot.life ≠ 1 ∨ (tget {} s.otp.keys (beAt r.body 0 1)).present = true → ∃ t, exec .keyslot s = .next t ∧ t.mem = s.mem ∧
         Answered r q 7 1 [] s t ∧ t.otp = s.otp)))

/-- Resets (R336, R350, R455 to R457, R529, R537): where a power-on reset is released, RESET_N rises, the debugger
resets or a RESTART is accepted, the device boots, to end in READY, from where the freeze of tick 0 may trip it, in
REFUSED or in the wait for a token; a RESTART's answer leaves before. While RESET_N is low the device is held with its
transmitters squelched and TRIP_N low. A supply out of its limits for 2 µs on VDD_AON or VDD_IO loses everything but
the NVM and the OTP array, where it cuts a burn short (R388); another rail is not watched in PARKED. -/
def Obligations.Resets : Prop :=
  ∀ s : State, s.Inv →
    (∀ cause named, (s.bootStart cause named).dev = .ready ∨ (s.bootStart cause named).dev = .refused ∨
      (s.bootStart cause named).dev = .tripped ∨
      ((s.bootStart cause named).dev = .booting ∧ (s.bootStart cause named).boot.waiting = true)) ∧
    (s.boot.por = true → s.boot.rstN = false → exec .powerOnReset s = .next (s.bootStart 1 none)) ∧
    (s.boot.por = true → s.boot.rstN = true → exec .powerOnReset s = .next (({ s with boot := { s.boot with por := false } } : State).newNonce)) ∧
    (s.boot.por = false → s.boot.rstN = false → ∃ t, exec .resetNAssert s = .next t ∧ t.dev = .booting ∧ t.boot.held = true ∧
      t.boot.rstN = true ∧ t.boot.waiting = false ∧ t.boot.nonce.length = 32 ∧ t.mem = s.mem) ∧
    (s.boot.por = false → s.boot.rstN = false → s.dev ∉ [.booting, .parked, .refused] → ∃ t, exec .resetNAssert s = .next t ∧
      t.dev = .booting ∧ t.boot.held = true ∧ t.boot.rstN = true ∧ t.squelch = true ∧ t.tripN = false ∧ t.mem = s.mem ∧
      t.flights = [] ∧ t.svc.session = none ∧ t.rfb F.TICK_STAT_RUNNING = false ∧
      (∀ e, (t.getEng e).cur = none ∧ (t.getEng e).ready = [])) ∧
    (s.boot.rstN = true → s.boot.por = false → s.ret.flushing = false → exec .resetNRelease s =
      .next (({ s with boot := { s.boot with rstN := false } } : State).bootStart 2 none)) ∧
    (s.boot.rstN = false → exec .resetNRelease s = .next s) ∧
    (exec .tapSysreset s = .next (if s.boot.held || s.boot.life != 1 then s else s.resetNow 5 none)) ∧
    (s.dev = .booting → s.boot.waiting = false → exec .bootStepOverrun s = .next { s with boot := { s.boot with overrun := true } }) ∧
    (s.dev = .booting → s.boot.waiting = true → ∃ t, exec .bootStepOverrun s = .next t ∧ t.dev = .refused) ∧
    (∀ rail ns, ns < 2000 → exec (.supplyMonitor rail ns) s = .next s) ∧
    (s.dev = .parked → ∀ rail ns, rail ≠ .aon → rail ≠ .io → exec (.supplyMonitor rail ns) s = .next s) ∧
    (s.boot.por = false → ∀ rail ns, 2000 ≤ ns → rail = .aon ∨ rail = .io → ∃ t, exec (.supplyMonitor rail ns) s = .next t ∧ t.dev = .booting ∧
      t.boot.por = true ∧ t.boot.held = true ∧ t.mem = [] ∧ t.nor = s.nor ∧ t.mram = s.mram ∧
      t.otp = { s.otp with ctr := t.otp.ctr, keys := t.otp.keys, old := none } ∧ (s.otp.old = none → t.otp = s.otp)) ∧
    (s.boot.por = false → ∀ rail ns, 2000 ≤ ns → rail ≠ .aon → rail ≠ .io → trippable s.dev = true →
      (ns < 1000000 → ∃ t, exec (.supplyMonitor rail ns) s = .next t ∧ Tripped 9 s t) ∧
      (1000000 ≤ ns → ∃ t, exec (.supplyMonitor rail ns) s = .next t ∧ t.boot.por = true ∧ t.mem = [])) ∧
    (∀ r q, Granted 0x22 r q s → r.body.length = 1 → beAt r.body 0 1 < 2 ∨ beAt r.body 0 1 = 0xFF →
      (s.causeCleared = true ∨ s.dev = .stopped → ∃ u, exec .restart s =
        .next (u.resetNow 3 (if beAt r.body 0 1 = 0xFF then none else some (beAt r.body 0 1))) ∧ u.dev = s.dev ∧ u.mem = s.mem ∧
        Answered r q 0 0 [] s u ∧ s.logSeq < u.logSeq) ∧
      (s.causeCleared = false → s.dev ≠ .stopped → ∃ t, exec .restart s = .next t ∧ t.dev = s.dev ∧ t.mem = s.mem ∧
        Answered r q 7 3 [] s t ∧ t.rf F.TUMB_RESTART_RESULT = 3))

/-- Plant ports (R399 to R405): a port comes up when enabled; a frame with a bad check sequence counts, one that is
neither consumed nor forwarded is discarded and counted; ARP requests and echoes for the own address are answered to
their sender; in LINE mode a frame leaves by the other port, or is dropped where its FIFO has no room. Plant time
(R411 to R414): a master is followed once two of its Announces qualify it (by IEEE 1588, log entry 166); a one-step
Sync or a Follow_Up gives the offset, saturated, and a first or large one asks for a step; a Sync at an interval out
of the limits is not taken; Delay_Req leaves with its transmit stamp queued; Delay_Resp gives the mean path delay; the
loss of the master changes to the other port where that knows one, else it clears the lock and begins holdover, whose
end clears SYNC. -/
def Obligations.PlantPortsAndTime : Prop :=
  (∀ (p : PlantPort) (fr : PlantFrame) (s : State), s.Inv →
     (s.rfb (F.PL_CTRL_EN (ppIdx p)) = true → ∃ t, exec (.plantPortUp p) s = .next t ∧
       OnlyRegsAt [(F.PL_STAT_UP (ppIdx p)).addr] s t ∧ t.rfb (F.PL_STAT_UP (ppIdx p)) = true) ∧
     (s.rfb (F.PL_CTRL_EN (ppIdx p)) = false → exec (.plantPortUp p) s = .next s) ∧
     (∃ t, exec (.plantPortDown p) s = .next t ∧ OnlyRegsAt [(F.PL_STAT_UP (ppIdx p)).addr] s t ∧
       t.rfb (F.PL_STAT_UP (ppIdx p)) = false) ∧
     (s.plantOn p = true →
       (fr.fcsOk = false → ∃ t, exec (.plantFrameReceive p fr) s = .next t ∧ t = { s with regs := t.regs, hlth := t.hlth } ∧
         t.rf (F.PL_ERR_FCS (ppIdx p)) = min 65535 (s.rf (F.PL_ERR_FCS (ppIdx p)) + 1)) ∧
       (fr.fcsOk = true → s.consumes p fr = true → exec (.plantFrameReceive p fr) s = .next s) ∧
       (fr.fcsOk = true → s.consumes p fr = false → s.lineMode = false → exec (.plantFrameReceive p fr) s =
         .next (s.inc (F.PL_ERR_DISCARD (ppIdx p)))) ∧
       (fr.fcsOk = true → s.plantForm p fr = true → s.plantUp p = true →
         (s.isArp p fr = true → beAt fr.payload 6 2 = 1 → ∃ t g, exec (.arpRequest p fr) s = .next t ∧
           t.tx = s.tx ++ [Tx.arp p g] ∧ t.mem = s.mem ∧ t.regs = s.regs ∧ g.dstMac = fr.srcMac ∧ g.srcMac = s.ownMac p ∧
           beAt g.payload 6 2 = 2 ∧ beAt g.payload 14 4 = s.ownIp p ∧ slice g.payload 18 10 = slice fr.payload 8 10) ∧
         (s.isEcho p fr = true → ∃ t g, exec (.icmpEchoRequest p fr) s = .next t ∧
           t.tx = s.tx ++ [Tx.icmp p g] ∧ t.mem = s.mem ∧ t.regs = s.regs ∧
           g.dstMac = fr.srcMac ∧ g.ipv4Dst = fr.ipv4Src ∧ g.icmpType = 0 ∧ g.payload.drop 4 = fr.payload.drop 4)) ∧
       (∀ ns, s.lineMode = true → fr.fcsOk = true → (s.consumes p fr = false ∨ fr.bcast = true) → fr.etherType ≠ 0x8808 →
         s.plantForm p fr = true → s.plantUp (otherPlant p) = true →
         (262144 < (s.plant (otherPlant p)).fifo + 8 * fr.len → exec (.lineForward p fr ns) s =
           .next (s.inc (F.PL_FWD_DROPPED (ppIdx (otherPlant p))))) ∧
         ((s.plant (otherPlant p)).fifo + 8 * fr.len ≤ 262144 → ∃ t, exec (.lineForward p fr ns) s = .next t ∧ t.mem = s.mem ∧
           t.tx = s.tx ++ [Tx.forward (otherPlant p) (forwarded fr ns)] ∧
           (t.plant (otherPlant p)).fifo = (s.plant (otherPlant p)).fifo + 8 * fr.len ∧
           t.rf (F.PL_FWD_FORWARDED (ppIdx (otherPlant p))) =
             min 65535 (s.rf (F.PL_FWD_FORWARDED (ppIdx (otherPlant p))) + 1)))) ∧
     (∀ ns, ptpEvent fr = true → (forwarded fr ns).corrField = fr.corrField + BitVec.ofNat 64 (ns * 65536) ∧
       (forwarded fr ns).payload = fr.payload)) ∧
  (∀ (p : PlantPort) (s : State), s.Inv →
     (∀ a : Announce, s.ptpOn p a.domain a.udp = true → s.ptp.best = none →
       (s.ptp.foreign = [] → ∃ t, exec (.announceReceive p a) s = .next t ∧ t = { s with ptp := t.ptp } ∧ t.ptp.best = none ∧
         t.ptp.foreign = [⟨p, a, s.mono, none⟩]) ∧
       (∀ f, s.ptp.foreign = [f] → f.port = p → f.ann.master = a.master → f.ann.portNo = a.portNo → a.steps.toNat < 255 →
         s.mono ≤ f.last + announceWindow a.logInterval →
         ∃ t, exec (.announceReceive p a) s = .next t ∧ t = { s with regs := t.regs, ptp := t.ptp } ∧
           t.ptp.best = some a ∧ t.rfb F.TIME_STAT_PORT = (p == .b))) ∧
     (∀ sy : SyncMsg, s.fromMaster p sy.domain sy.udp sy.master = true →
       (syncInterval sy.logInterval = false → exec (.syncReceive p sy) s = .next s) ∧
       (syncInterval sy.logInterval = true → sy.twoStep = true →
         exec (.syncReceive p sy) s = .next { s with ptp := { s.ptp with sync := some (sy, s.rxStamp p) } }) ∧
       (syncInterval sy.logInterval = true → sy.twoStep = false → ∃ t o, exec (.syncReceive p sy) s = .next t ∧ t.mem = s.mem ∧ t.ptp.sync = none ∧ t.ptp.acquired = true ∧
         o = (s.plantOf (s.rxStamp p) : Int) - ((sy.originS.toNat : Int) * 1000000000 + sy.originN.toNat + sy.corr) - s.rf F.TIME_MPD_MPD ∧
         t.ptp.lastOfs = o ∧ t.rf F.TIME_OFS_OFFSET = wrapTo 32 (max (-2147483648) (min 2147483647 o)) ∧
         (s.ptp.acquired = false ∨ 1000000 < o.natAbs → t.ptp.stepTo ≠ none)) ∧
       (∀ x rx, s.ptp.sync = some (x, rx) → x.seq = sy.seq → ∃ t, exec (.followUpReceive p sy) s = .next t ∧ t.mem = s.mem ∧
         t.ptp.sync = none ∧ t.ptp.acquired = true ∧ t.ptp.lastOfs = (s.plantOf rx : Int) -
           ((sy.originS.toNat : Int) * 1000000000 + sy.originN.toNat + sy.corr + x.corr) - s.rf F.TIME_MPD_MPD) ∧
       (s.ptp.sync = none → exec (.followUpReceive p sy) s = .next s)) ∧
     (∀ id, s.plantUp p = true → s.ptpUsed = p → s.ptp.best ≠ none → s.rfb F.TIME_CFG_PTP_EN = true → s.delayReqDue = true →
       (s.plant p).tsq.length < 16 →
       ∃ t, exec (.delayReqSend p id) s = .next t ∧ t.mem = s.mem ∧ t.regs = s.regs ∧ t.tx = s.tx ++ [Tx.delayReq p id (s.delayReqOut p id)] ∧
         (t.plant p).tsq = (s.plant p).tsq ++ [⟨id, s.ns + BitVec.ofNat 32 (s.rf (F.PL_LAT_TX_LAT (ppIdx p))), (s.plant p).seq⟩] ∧
         t.ptp.reqId = some id) ∧
     (∀ dr : DelayResp, s.fromMaster p dr.domain dr.udp dr.master = true → s.ptp.reqId = some dr.seq →
       ∃ t, exec (.delayRespReceive p dr) s = .next t ∧ t = { s with regs := t.regs, ptp := t.ptp } ∧ RegsBut [0x40110028] s t ∧
         t.ptp.reqId = none ∧ t.rf F.TIME_MPD_MPD = min 0xFFFFFFFF ((s.ptp.msDelay + ((dr.rxS.toNat : Int) * 1000000000 +
           dr.rxN.toNat - dr.corr - s.plantOf s.ptp.reqNs)) / 2).toNat) ∧
     (s.rfb F.TIME_CFG_PTP_EN = true → s.ptpUsed = p → s.ptp.best ≠ none →
       (∀ b, s.ptpPort (otherPlant p) = true → s.bestOn (otherPlant p) = some b → ∃ t, exec (.announceReceiptTimeout p) s = .next t ∧
         t = { s with regs := t.regs, ptp := t.ptp } ∧ t.ptp.best = some b ∧ t.rfb F.TIME_STAT_PORT = (otherPlant p == .b)) ∧
       (s.ptpPort (otherPlant p) = false ∨ s.bestOn (otherPlant p) = none → ∃ t, exec (.announceReceiptTimeout p) s = .next t ∧ t = { s with regs := t.regs, ptp := t.ptp } ∧ t.ptp.best = none ∧
         t.ptp.lostAt = some s.mono ∧ t.rfb F.TIME_STAT_PTP_LOCKED = false ∧ t.rfb F.TIME_STAT_HOLDOVER = true ∧
         t.rfb F.TIME_STAT_SYNC = decide (0 < s.rf F.TIME_CFG_HOLDOVER))) ∧
     (∃ t, exec .ptpHoldoverExpiry s = .next t ∧ OnlyRegsAt [0x40110020] s t ∧
       (s.rfb F.TIME_STAT_PTP_LOCKED = false → (∀ m, s.ptp.lostAt = some m → m + s.rf F.TIME_CFG_HOLDOVER * 1000000000 ≤ s.mono) →
         t.rfb F.TIME_STAT_SYNC = false)))

/-- The command frame (R428 to R430, R444): it carries every output slot as dispatch holds it, DRIVE and SAFE; a SAFE
frame, the hold and the field die's own watchdog put the outputs in their safe values; a DRIVE frame drives them; any
other tick counts, and a frame with a bad CRC only counts; a valid frame starts the watchdog again. Nothing of it
changes memory. Faults of the outputs (R436 to R440, R443): an overload or overtemperature latches its channel off, a
group overload its four; an open wire, a stuck output, a failed readback and low L+ set their diagnostic bits; a test
pulse opens an eligible channel until its end. The status frame (R428, R431, R432, R433): a sample sends 64 slots and
clears what it reports once, a digital input with the level that has stood for its filter time; an accepted frame
lands in the slots of station L in bank L, counts as its reply, and changes no byte elsewhere; one with a bad CRC
counts, one out of its window is dropped. -/
def Obligations.FieldDie : Prop :=
  (∀ s : State, s.Inv →
     (s.fieldOn = true → s.dev ∉ [.booting, .parked, .refused] → ∃ t c, exec .fieldCommandSend s = .next t ∧
       t = { s with regs := t.regs, tx := s.tx ++ [Tx.field c] } ∧ RegsBut [0x401000A0] s t ∧ c.crcOk = true ∧
       c.safe = s.fctl.safe ∧ c.drive = s.setsDrive ∧ t.rfb F.FIELD_STAT_DRIVE = s.setsDrive ∧ c.outs = s.fctl.held) ∧
     (∀ c : FieldCmd, s.fieldOn = true →
       (c.crcOk = false → exec (.fieldCommandReceive c) s = .next (s.inc F.FIELD_ERR_CRC)) ∧
       (c.crcOk = true → c.safe = false → exec (.fieldCommandReceive c) s =
         .next { s with field := { s.field with cmd := some c, heardAt := s.mono } }) ∧
       (c.crcOk = true → c.safe = true → ∃ t, exec (.fieldCommandReceive c) s = .next t ∧ t = { s with field := t.field } ∧
         t.field.safeSt = true ∧ t.field.doCmd = s.field.cfg.doSafe ∧ t.field.cmd = some c ∧ t.field.heardAt = s.mono)) ∧
     (s.fieldOn = true → ∃ t, exec .fieldApply s = .next t ∧ t = { s with field := t.field, free := t.free } ∧ t.field.cmd = none ∧
       (s.field.cal = none → (∀ x ∈ s.fctl.cmdTest, x.1 ≠ 10) → t.free = s.free ∧ t.field.cal = none) ∧
       (∀ c, s.field.cmd = some c → c.drive = true → c.safe = false → t.field.k = 0 ∧ t.field.safeSt = false ∧
         t.field.heldSt = false ∧ t.field.outs = c.outs ∧ ∀ i, i < 8 → nbit t.field.doCmd i = nbit (c.outs.getD i 0).toNat 0) ∧
       ((∀ c, s.field.cmd = some c → c.drive = false ∨ c.safe = true) → t.field.k = s.field.k + 1 ∧
         t.field.doCmd = s.field.doCmd ∧ t.field.heldSt = (!s.field.safeSt && !s.field.wdSafe))) ∧
     (s.fieldOn = true → s.field.cfg.hold < s.field.k → s.field.safeSt = false → ∃ t, exec .fieldHoldExpiry s = .next t ∧ t = { s with field := t.field } ∧
       t.field.safeSt = true ∧ t.field.doCmd = s.field.cfg.doSafe ∧ t.field.heldSt = false) ∧
     (s.field.k ≤ s.field.cfg.hold → exec .fieldHoldExpiry s = .next s) ∧
     (s.pdAck 11 = true → s.boot.por = true ∨ s.field.heardAt + 950000 * s.field.cfg.wd ≤ s.mono → ∃ t,
       exec .fieldWatchdogExpiry s = .next t ∧ t = { s with field := t.field } ∧ t.field.wdSafe = true ∧
       t.field.expired = true ∧ t.field.doCmd = s.field.cfg.doSafe) ∧
     (s.boot.por = false → s.mono < s.field.heardAt + 950000 * s.field.cfg.wd → exec .fieldWatchdogExpiry s = .next s)) ∧
  (∀ s : State, s.Inv → s.pdAck 11 = true →
     (∀ ch : Fin 8,
       (∃ t, exec (.doOverload ch) s = .next t ∧ t = { s with field := t.field } ∧ diagBit t.field.w24 ch 0 = true ∧
         t.field.latched ch = true ∧ t.field.on ch = false ∧ ∀ i b, i < 8 → b < 4 → (i ≠ ch.val ∨ b ≠ 0) →
           diagBit t.field.w24 i b = diagBit s.field.w24 i b) ∧
       (∃ t, exec (.doOvertemp ch) s = .next t ∧ t = { s with field := t.field } ∧ diagBit t.field.w24 ch 2 = true ∧
         t.field.latched ch = true ∧ t.field.on ch = false) ∧
       (nbit s.field.cfg.openEn ch = true → s.field.on ch = false → ∃ t, exec (.doOpenWire ch true) s = .next t ∧
         t = { s with field := t.field } ∧ diagBit t.field.w24 ch 1 = true ∧ t.field.on ch = s.field.on ch) ∧
       (∃ t, exec (.doOpenWire ch false) s = .next t ∧ t = { s with field := t.field } ∧ diagBit t.field.w24 ch 1 = false) ∧
       (s.fieldOn = true → (7, ch.val) ∈ s.fctl.cmdTest → s.pulseOk ch = true → ∃ t, exec (.doTestPulse ch) s = .next t ∧
         t = { s with field := t.field } ∧ t.field.on ch = false) ∧
       (s.pulseOk ch = false → exec (.doTestPulse ch) s = .next s) ∧
       (∀ fell, tget false s.field.pulse ch = true → ∃ t, exec (.doPulseEnd ch fell) s = .next t ∧ t = { s with field := t.field } ∧
         t.field.result = some (7, ch.val, fell) ∧ (fell = false → diagBit t.field.w24 ch 3 = true))) ∧
     (∀ g : Fin 2, ∃ t, exec (.doGroupOverload g) s = .next t ∧ t = { s with field := t.field } ∧
       (if g = 0 then t.field.group0 else t.field.group1) = true ∧
       ∀ i, 4 * g.val ≤ i → i < 4 * g.val + 4 → t.field.latched i = true) ∧
     (∀ (ch : Fin 4) (w : Word) (b : Bool),
       (∃ t, exec (.aoCompliance ch w) s = .next t ∧ t = { s with field := t.field } ∧ tget false t.field.compl ch = true ∧
         t.field.aoCur = s.field.aoCur) ∧
       (∃ t, exec (.aoReadbackFault ch b) s = .next t ∧ t = { s with field := t.field } ∧ diagBit t.field.w25 ch 0 = b ∧
         t.field.aoCur = s.field.aoCur)) ∧
     (∀ low, exec (.lPlusLow low) s = .next { s with field := { s.field with lLow := low } })) ∧
  (∀ s : State, s.Inv → s.fieldOn = true →
     (∀ x : FieldIn, ∃ t st, exec (.fieldSample x) s = .next t ∧ t = { s with tx := s.tx ++ [Tx.fieldStatus st], field := t.field } ∧
       st.crcOk = true ∧ st.slots.length = 64 ∧ st.wdExpired = s.field.expired ∧ t.field.sample = st.slots ∧
       t.field.expired = false ∧ ∀ i, i < 16 →
         (t.field.broken i = true → st.slots.getD i ⟨0, 0⟩ = ⟨0, fieldQual false false true⟩) ∧
         (t.field.broken i = false → st.slots.getD i ⟨0, 0⟩ = plainSlot (b2n (tget {} t.field.di i).out)) ∧
         (nbit s.field.cfg.diWire i = false → t.field.broken i = false) ∧
         (tabWf (fun _ => ({} : Debounce)) s.field.di = true → ∀ b d, x.di.getD i [] = [(b, d)] → 100 * s.field.cfg.diFilter.getD i 0 ≤ d →
           (tget {} t.field.di i).out = b)) ∧
     (∀ st : FieldStatus, s.dev ∉ [.booting, .parked, .refused] →
       (st.crcOk = false → exec (.fieldStatusReceive st) s = .next (s.inc F.FIELD_ERR_CRC)) ∧
       (st.crcOk = true → s.reached (s.rf F.TICK_PH2_SAMPLE) = false → exec (.fieldStatusReceive st) s = .next s) ∧
       (st.crcOk = true → s.reached (s.rf F.TICK_PH2_SAMPLE) = true → 1000 * s.inTick ≤ s.rf F.TICK_PH1_REPLY_END * s.tb →
         (∀ line, line < 8 → s.gateOk 48 (bankL + 8 * (s.rf F.FIELD_BASE_BASE + 8 * line)) 64 .write = true) →
         ∃ t, exec (.fieldStatusReceive st) s = .next t ∧ t.dev = s.dev ∧ t.fctl.gotTick = some s.n ∧
           (t.getSta 2048).u = some s.n ∧ (t.getSta 2048).admitted = true ∧
           (∀ i, i < 64 → (t.slotL (s.rf F.FIELD_BASE_BASE + i)).val = (st.slots.getD i ⟨0, 0⟩).value) ∧
           MemBut (bankL + 8 * s.rf F.FIELD_BASE_BASE) 512 s t)))

/-- Receiving on a CAN port (R445, R447): a frame goes to the buffer of the first object it matches with the tick of
its receipt; one over an unread one counts as lost; errors move the receive error count and the state. Sending on a
CAN port (R445, R448 to R451): a due object of an idle port starts at once; a frame that has gone leaves the port and
the next starts; an errored one is tried again, or dropped with FAILED at the limit; beyond 255 the port is bus-off
with nothing pending; bus-off keeps only what has started, and its recovery clears the counts; the frame in progress
completes before a requested sleep; without DRIVE nothing is sent, and a frame that errs after a trip, a loss of DRIVE
or a bus-off is not sent again. -/
def Obligations.CanPorts : Prop :=
  (∀ (p : Fin 2) (s : State), s.Inv → s.canOn p = true →
     (∀ f : CanFrame, f.crcOk = true →
       (∀ k, (List.range 128).find? (s.canMatch p f) = some k → ∃ t, exec (.canFrameReceive p f) s = .next t ∧ t.mem = s.mem ∧
         t.dev = s.dev ∧ tget {} (t.can p).buf k = ⟨some f, s.n, (tget {} (s.can p).buf k).news + 1⟩ ∧
         ((tget {} (s.can p).buf k).news ≠ 0 → t.rf (F.CAN_ERR1_LOST p) = min 65535 (s.rf (F.CAN_ERR1_LOST p) + 1)) ∧
         t.rf (F.CAN_STAT_REC p) = min 127 (s.rf (F.CAN_STAT_REC p) - 1)) ∧
       (f.crcOk = true → (∀ k, k < 128 → s.canMatch p f k = false) → ∃ t, exec (.canFrameReceive p f) s = .next t ∧
         OnlyRegsAt [(F.CAN_STAT_REC p).addr] s t)) ∧
     (∀ f : CanFrame, f.crcOk = false → exec (.canFrameReceive p f) s = .next s) ∧
     (∃ t, exec (.canRxError p) s = .next t ∧ OnlyRegsAt [(F.CAN_STAT_REC p).addr] s t ∧
       t.rf (F.CAN_STAT_REC p) = min 255 (s.rf (F.CAN_STAT_REC p) + 1) ∧
       (127 ≤ s.rf (F.CAN_STAT_REC p) → t.rf (F.CAN_STAT_STATE p) = 1))) ∧
  (∀ (p : Fin 2) (s : State), s.Inv →
     (s.mayDrive = false → ∃ t, exec (.canSendDue p) s = .next t ∧ t = { s with regs := t.regs, can0 := t.can0, can1 := t.can1 } ∧
       ∀ q, q < 2 → (t.can q).pend = (s.can q).pend.filter (·.started) ∧ (t.can q).drive = false) ∧
     (s.canOn p = true → s.canSends = true → (s.can p).pend = [] → ∀ k,
       ((List.range 128).filter fun k => s.rf (F.CAN_OBJ_A_DIR p k) == 2 && decide (0 < s.rf (F.CAN_OBJ_D_PERIOD p k)) &&
         s.n % s.rf (F.CAN_OBJ_D_PERIOD p k) == 0) = [k] → ∃ t, exec (.canSendDue p) s = .next t ∧ t.mem = s.mem ∧
       (t.dev ≠ .tripped → ∃ f, t.tx = s.tx ++ [Tx.can p f] ∧ (t.can p).pend = [⟨k, f, 0, true⟩] ∧
         f.id.toNat = s.rf (F.CAN_OBJ_A_ID p k) ∧ f.ide = s.rfb (F.CAN_OBJ_A_IDE p k) ∧ f.fdf = s.rfb (F.CAN_OBJ_C_FDF p k) ∧
         f.dlc.toNat = s.rf (F.CAN_OBJ_C_DLC p k) ∧ t.rfb (F.CAN_OBJ_D_PEND p k) = true)) ∧
     (∀ x, (s.can p).pend = [x] → x.started = true → x.obj < 128 →
       (∃ t, exec (.canTxComplete p) s = .next t ∧ t.mem = s.mem ∧ (t.can p).pend = [] ∧ t.tx = s.tx ∧
         t.rf (F.CAN_STAT_TEC p) = s.rf (F.CAN_STAT_TEC p) - 1 ∧ t.rfb (F.CAN_OBJ_D_PEND p x.obj) = false) ∧
       (s.canOn p = true → s.dev ≠ .tripped → (s.can p).drive = true → s.rf (F.CAN_STAT_TEC p) + 8 ≤ 255 →
         (s.rfb (F.CAN_CTRL_POLICY p) = true ∨ s.rfb (F.CAN_CTRL_UNLIM p) = true ∨ x.tries < s.rf (F.CAN_CTRL_RETRY p) →
           ∃ t, exec (.canTxError p) s = .next t ∧ t.mem = s.mem ∧ (t.can p).pend = [{ x with tries := x.tries + 1 }] ∧
             t.tx = s.tx ++ [Tx.can p x.frame] ∧ t.rf (F.CAN_STAT_TEC p) = s.rf (F.CAN_STAT_TEC p) + 8) ∧
         (s.rfb (F.CAN_CTRL_POLICY p) = false → s.rfb (F.CAN_CTRL_UNLIM p) = false → s.rf (F.CAN_CTRL_RETRY p) ≤ x.tries →
           ∃ t, exec (.canTxError p) s = .next t ∧ t.mem = s.mem ∧ (t.can p).pend = [] ∧ t.tx = s.tx ∧
             t.rfb (F.CAN_OBJ_D_FAILED p x.obj) = true ∧
             t.rf (F.CAN_ERR1_FAILED p) = min 65535 (s.rf (F.CAN_ERR1_FAILED p) + 1))) ∧
       (s.rfb (F.CAN_CTRL_SLEEP p) = false → s.dev = .tripped ∨ (s.can p).drive = false ∨ 2 ≤ s.rf (F.CAN_STAT_STATE p) →
         ∃ t, exec (.canTxError p) s = .next t ∧ t.mem = s.mem ∧ (t.can p).pend = [] ∧ t.tx = s.tx) ∧
       (s.rfb (F.CAN_CTRL_SLEEP p) = false → 255 < s.rf (F.CAN_STAT_TEC p) + 8 → ∃ t, exec (.canTxError p) s = .next t ∧ t.mem = s.mem ∧
         (t.can p).pend = [] ∧ t.rf (F.CAN_STAT_STATE p) = 2) ∧
       (s.rfb (F.CAN_CTRL_SLEEP p) = true → (s.can p).wakeDue = false → ∃ t, exec (.canTxComplete p) s = .next t ∧
         (t.can p).stb = true ∧ t.rf (F.CAN_STAT_STATE p) = 3)) ∧
     (s.rfb (F.CAN_CTRL_EN p) = true → (s.can p).stb = false → ∃ t, exec (.canBusOff p) s = .next t ∧ t.mem = s.mem ∧
       t.rf (F.CAN_STAT_STATE p) = 2 ∧ (t.can p).pend = (s.can p).pend.filter (·.started)) ∧
     (s.rf (F.CAN_STAT_STATE p) = 2 → s.rfb (F.CAN_CTRL_ABO p) = true → ∃ t, exec (.canBusOffRecovery p) s = .next t ∧
       t = { s with regs := t.regs, can0 := t.can0, can1 := t.can1 } ∧ RegsBut [(F.CAN_STAT_REC p).addr] s t ∧
       (t.can p).off = false ∧ t.rf (F.CAN_STAT_STATE p) = 0 ∧ t.rf (F.CAN_STAT_TEC p) = 0 ∧
       t.rf (F.CAN_STAT_REC p) = 0) ∧
     (s.rf (F.CAN_STAT_STATE p) ≠ 2 → exec (.canBusOffRecovery p) s = .next s))

/-- Retain (R458 to R461): a fall of PWR_FAIL begins a flush and changes no byte of memory; its end commits the next
generation in the other record and says so; a generation commits with a number one higher; a second fall during a
flush changes nothing more. The rack chain (R463 to R468, R473): a bad frame counts and ends the runs; eight frames in
a row with one address give it to the device; four PARK frames for a device in READY park it at the next boundary; a
WAKE for a parked one resets it; the frame that leaves carries the own address plus 1 and the command; a frame gap
counts; the head of the chain has address 0. A bus event wakes a sleeping CAN port, one whose frame is still on the
bus when that is gone, and a parked device (R451). -/
def Obligations.RetainAndRack : Prop :=
  (∀ s : State, s.Inv →
     (∃ t, exec .pwrFailAssert s = .next t ∧ t.mem = s.mem ∧ t.dev = s.dev ∧ t.rfb F.SYS_PWR_PWR_FAIL = true ∧
       (s.retOn = true → t.ret.flushing = true) ∧
       (s.retOn = true → s.ret.flushing = false → t.rfb F.SYS_PWR_FLUSHING = true ∧ t.rfb F.SYS_PWR_FLUSH_OK = false) ∧
       (s.ret.flushing = true → OnlyRegsAt [0x40000024] s t)) ∧
     (∃ t, exec .pwrFailRelease s = .next t ∧ OnlyRegsAt [0x40000024] s t ∧ t.rfb F.SYS_PWR_PWR_FAIL = false) ∧
     (s.ret.flushing = true → ∃ t, exec .retainFlushDone s = .next t ∧ t.mem = s.mem ∧ t.ret.flushing = false ∧
       t.ret.gen = s.ret.gen + 1 ∧ t.ret.area = s.retNext ∧ t.rfb F.SYS_PWR_FLUSHING = false ∧ t.rfb F.SYS_PWR_FLUSH_OK = true) ∧
     (s.ret.flushing = false → exec .retainFlushDone s = .next s) ∧
     (s.ret.writing = true → ∃ t, exec .retainGenerationCommit s = .next t ∧ t.mem = s.mem ∧ t.ret.gen = s.ret.gen + 1 ∧
       t.ret.area = s.retNext ∧ t.ret.writing = false ∧ t.rf F.SYS_PWR_GEN = (s.ret.gen + 1) % 65536 ∧ t.pan.recIn = true) ∧
     (s.ret.writing = false → exec .retainGenerationCommit s = .next s)) ∧
  (∀ s : State, s.Inv →
     (∀ w : BitVec 24, rackOk w = false → ∃ t, exec (.rackFrameReceive w) s = .next t ∧
       t = { s with regs := t.regs, rack := { s.rack with same := 0, seen := none, cmdCnt := 0 } } ∧
       RegsBut [0x400C000C] s t ∧ t.rf F.RACK_ERR_CRC = min 65535 (s.rf F.RACK_ERR_CRC + 1)) ∧
     (∀ w : BitVec 24, rackOk w = true → (s.rackTake w).rackActs = false → ∃ t, exec (.rackFrameReceive w) s = .next t ∧
       t = { s with regs := t.regs, rack := t.rack } ∧ t.rack.seen = some (bitsOf w.toNat 13 7) ∧ t.rfb F.RACK_STAT_HEAD = false ∧
       (s.rack.seen = some (bitsOf w.toNat 13 7) → 7 ≤ s.rack.same → t.rack.addr = some (bitsOf w.toNat 13 7) ∧
         (s.rack.addr ≠ some (bitsOf w.toNat 13 7) → t.rf F.RACK_STAT_CHAIN = bitsOf w.toNat 13 7)) ∧
       (s.rack.seen ≠ some (bitsOf w.toNat 13 7) → t.rack.addr = s.rack.addr)) ∧
     (∀ w : BitVec 24, rackOk w = true → (s.rackTake w).rackActs = true → nbit w.toNat 11 = true → s.dev = .ready →
       ∃ t, exec (.rackFrameReceive w) s = .next t ∧ t.due = some .parked ∧ t.mem = s.mem ∧ t.rfb F.SYS_PWR_WOKEN = false) ∧
     (∀ w : BitVec 24, rackOk w = true → (s.rackTake w).rackActs = true → nbit w.toNat 12 = true → s.dev = .parked →
       exec (.rackFrameReceive w) s = .next ((s.rackTake w).wake 3)) ∧
     (s.boot.por = false → s.rack.inject = [] → exec .rackFrameSend s = .next { s with tx := s.tx ++
       [Tx.rack (rackFrame (min (s.ownAddr + 1) 64) s.rack.wake s.rack.park s.rack.tgt)] }) ∧
     (∀ c l, s.boot.por = false → s.rack.inject = c :: l → ∃ t, exec .rackFrameSend s = .next t ∧ t = { s with tx := t.tx, rack := t.rack } ∧
       t.tx = s.tx ++ [Tx.rack (rackFrame (min (s.ownAddr + 1) 64) c.1 c.2.1 c.2.2)] ∧
       t.rack.inject = (if s.rack.left ≤ 1 then l else c :: l)) ∧
     (∀ a wk pk tgt, rackOk (rackFrame a wk pk tgt) = true ∧ bitsOf (rackFrame a wk pk tgt).toNat 13 7 = a % 128) ∧
     (s.boot.por = false → s.rfb F.RACK_STAT_HEAD = false → exec .rackFrameGap s = .next (s.inc F.RACK_ERR_GAP)) ∧
     (∃ t, exec .chainHeadDetect s = .next t ∧ t = { s with regs := t.regs, rack := t.rack } ∧ t.rack.addr = some 0 ∧
       t.rfb F.RACK_STAT_HEAD = true ∧ t.rf F.RACK_STAT_CHAIN = 0) ∧
     (∀ (p : Fin 2) (ev : WakeEvent), (s.canWakes p ev = false → exec (.canWake p ev) s = .next s) ∧
       (s.canWakes p ev = true → s.dev ≠ .parked → (s.can p).stb = false → exec (.canWake p ev) s =
         .next (s.updCan p fun c => { c with wakeDue := true })) ∧
       (s.canWakes p ev = true → s.dev ≠ .parked → (s.can p).stb = true → ∃ t, exec (.canWake p ev) s = .next t ∧ t.mem = s.mem ∧ t.dev = s.dev ∧
         t.rfb (F.CAN_STAT_WOKE p) = true ∧ t.rfb (F.CAN_CTRL_SLEEP p) = false ∧ (t.can p).stb = false) ∧
       (s.canWakes p ev = true → s.dev = .parked → exec (.canWake p ev) s = .next ((s.canAwake p).wake (p.val + 1)))))

/-- When self-test passes begin and age (R498, R499, R502, R503): an item whose period has passed becomes pending; a
requested pass past its bound shows status 5; an item past its bound is aged. The panel (R514 to R517): an update
begins with its record, in MRAM waiting for the generation that carries it; the waveforms then run towards the
requested image and, when they end, it is the displayed one with PSTATE 0; the always-on area shows what its bits say
once its waveform ends. -/
def Obligations.HealthAndPanel : Prop :=
  (∀ (item : Fin 11) (s : State), s.Inv →
     (∀ p, s.itemPeriod item = some p → p ≤ s.itemAge item → testsRun s.dev = true → s.rfb F.HLTH_CFG_BG_EN = true →
       (s.item item).pending = false → ∃ t, exec (.selftestPassDue item) s = .next t ∧ t = { s with hlth := t.hlth } ∧
         (t.item item).pending = true ∧ (t.item item).req = false ∧ (t.item item).last = (s.item item).last ∧
         ∀ k, k ≠ item.val → t.item k = s.item k) ∧
     (s.rfb F.HLTH_CFG_BG_EN = false → exec (.selftestPassDue item) s = .next s) ∧
     (∀ b, s.itemBound item = some b →
       ((s.item item).pending = true → (s.item item).req = true → (s.item item).reqAt + b ≤ s.mono →
         ∃ t, exec (.selftestRequestAged item) s = .next t ∧ OnlyRegs s t ∧ t.rf (F.HLTH_ITEM_STATUS (item.val - 1)) = 5) ∧
       (s.mono < (s.item item).reqAt + b → exec (.selftestRequestAged item) s = .next s) ∧
       (b < s.itemAge item → ∃ t, exec (.itemAged item) s = .next t ∧ t = { s with hlth := t.hlth } ∧ (t.item item).aged = true) ∧
       (s.itemAge item ≤ b → exec (.itemAged item) s = .next s))) ∧
  (∀ s : State, s.Inv →
     (s.rfb F.PANEL_CTRL_EN = true → s.pan.busy = false → s.pan.waitRec = false → s.dev ≠ .parked →
       (s.pan.r ^^^ s.pan.d) &&& mainMask ≠ 0 → ∃ t, exec .panelUpdateStart s = .next t ∧ t = { s with regs := t.regs, pan := t.pan } ∧
         t.pan.record.map (fun r => (r.new, r.old)) = some (s.pan.r, s.pan.d) ∧ t.rf F.PANEL_STAT_PSTATE = 1 ∧ t.pan.d = s.pan.d ∧
         (s.mramClass = true → t.pan.waitRec = true ∧ t.pan.busy = false) ∧
         (s.mramClass = false → t.pan.busy = true ∧ t.pan.target = s.pan.r)) ∧
     ((s.pan.r ^^^ s.pan.d) &&& mainMask = 0 → exec .panelUpdateStart s = .next s) ∧
     (∀ r, s.pan.record = some r → s.pan.waitRec = true → s.pan.recIn = true → s.dev ≠ .parked →
       ∃ t, exec .panelRecordCommitted s = .next t ∧ t = { s with regs := t.regs, pan := t.pan } ∧ t.pan.busy = true ∧
         t.pan.target = r.new ∧ t.pan.waitRec = false ∧ t.rfb F.PANEL_STAT_BUSY = true) ∧
     (s.pan.recIn = false → exec .panelRecordCommitted s = .next s) ∧
     (s.pan.busy = true → ∃ t, exec .panelUpdateDone s = .next t ∧ t = { s with regs := t.regs, pan := t.pan } ∧ t.pan.busy = false ∧
       t.pan.d = ((s.pan.d &&& ~~~mainMask) ||| (s.pan.target &&& mainMask)) ∧ t.rfb F.PANEL_STAT_BUSY = false ∧
       (s.pan.clearing = false ∨ (s.pan.r ^^^ s.pan.target) &&& mainMask = 0 → t.rf F.PANEL_STAT_PSTATE = 0)) ∧
     (s.rfb F.PANEL_CTRL_EN = true → s.pan.aonBusy = false → s.pan.aonFull = true ∨ s.aonNow ≠ s.pan.aonShown →
       ∃ t, exec .panelAonRedraw s = .next t ∧ t = { s with regs := t.regs, pan := t.pan } ∧ t.pan.aonBusy = true ∧
         t.pan.aonTarget = s.aonNow ∧ t.pan.aonFull = false ∧ t.rfb F.PANEL_STAT_AON_BUSY = true) ∧
     (s.pan.aonBusy = true → ∃ t, exec .aonWaveformDone s = .next t ∧ t = { s with regs := t.regs, pan := t.pan } ∧
       t.pan.aonBusy = false ∧ t.pan.aonShown = s.pan.aonTarget ∧
       t.pan.d = ((s.pan.d &&& mainMask) ||| s.pan.aonTarget.setWidth 64) ∧ t.rfb F.PANEL_STAT_AON_BUSY = false))

/-- Integer arithmetic, comparison, logic, bits and quality on registers and immediates, memory and objects (R92, R98 to
R101): with a register destination and no form-7 source, the engine goes on with the result in the register, one
further by the instruction's words, and nothing else changes. An integer division by 0 leaves 0 and sets FAULT 1
(R111). -/
def Obligations.IntegerAndLogicResults : Prop :=
  ∀ (e : Fin 12) (r : Fin 64) (x y : Src) (pos lenM1 : BitVec 6) (s : State) (a : Act) (d : TaskDef), s.Inv →
    Executing s e a d → s.dev ≠ .tripped → a.staged.length ≤ 1024 → x.isInd = false → y.isInd = false →
    let p : Dword := ((atInstr s e a d 0).rd x).1
    let q : Dword := ((atInstr s e a d 0).rd y).1
    let p' : Word := p.setWidth 32
    let q' : Word := q.setWidth 32
    let old : Dword := (atInstr s e a d 0).v r
    let n : Nat := q.toNat % 64
    let len : Nat := lenM1.toNat + 1
    let field : Dword := BitVec.ofNat 64 (2 ^ len - 1)
    let two := 1 + x.words + y.words
    let one := 1 + x.words
    (∀ c ∈ ([
        (.mov e (.reg r) x, one, p),
        (.sel e r x y, two, if old ≠ 0 then p else q),
        (.cvt e (.reg r) x .i64 .i32 .zero, one, p'.signExtend 64), (.cvt e (.reg r) x .u32 .i64 .zero, one, p'.setWidth 64),
        (.satw e (.reg r) x .int8, one, BitVec.ofInt 64 (max (-128) (min 127 p.toInt))),
        (.satw e (.reg r) x .uint16, one, BitVec.ofInt 64 (max 0 (min 65535 p.toInt))),
        (.add e .i64 (.reg r) x y, two, p + q), (.add e .u64 (.reg r) x y, two, p + q),
        (.add e .i32 (.reg r) x y, two, (p' + q').signExtend 64), (.add e .u32 (.reg r) x y, two, (p' + q').setWidth 64),
        (.sub e .i64 (.reg r) x y, two, p - q), (.sub e .u64 (.reg r) x y, two, p - q),
        (.sub e .i32 (.reg r) x y, two, (p' - q').signExtend 64), (.sub e .u32 (.reg r) x y, two, (p' - q').setWidth 64),
        (.mul e .i64 (.reg r) x y, two, p * q), (.mul e .u64 (.reg r) x y, two, p * q),
        (.mul e .i32 (.reg r) x y, two, (p' * q').signExtend 64), (.mul e .u32 (.reg r) x y, two, (p' * q').setWidth 64),
        (.adds e .i64 (.reg r) x y, two, BitVec.ofInt 64 (max (-2 ^ 63) (min (2 ^ 63 - 1) (p.toInt + q.toInt)))),
        (.subs e .u64 (.reg r) x y, two, BitVec.ofNat 64 (p.toNat - q.toNat)),
        (.muls e .u64 (.reg r) x y, two, BitVec.ofNat 64 (min (2 ^ 64 - 1) (p.toNat * q.toNat))),
        (.neg e .i64 (.reg r) x, one, -p), (.neg e .i32 (.reg r) x, one, (-p').signExtend 64),
        (.abs e .i64 (.reg r) x, one, if p.slt 0 then -p else p), (.abs e .u64 (.reg r) x, one, p),
        (.min e .i64 (.reg r) x y, two, if q.slt p then q else p), (.max e .u64 (.reg r) x y, two, if p.ult q then q else p),
        (.lim e .u64 r x y, two, let m := if q.ult old then q else old; if p.ult m then m else p),
        (.ceq e .i64 (.reg r) x y, two, oneIf (p = q)), (.cne e .i64 (.reg r) x y, two, oneIf (p ≠ q)),
        (.ceq e .u32 (.reg r) x y, two, oneIf (p' = q')),
        (.clt e .i64 (.reg r) x y, two, oneIf (p.slt q = true)), (.clt e .u64 (.reg r) x y, two, oneIf (p.ult q = true)),
        (.cle e .i64 (.reg r) x y, two, oneIf (p.sle q = true)), (.cle e .u64 (.reg r) x y, two, oneIf (p.ule q = true)),
        (.and e (.reg r) x y, two, p &&& q), (.or e (.reg r) x y, two, p ||| q), (.xor e (.reg r) x y, two, p ^^^ q),
        (.not e (.reg r) x, one, ~~~p),
        (.shl e (.reg r) x y, two, if q.toNat < 64 then p <<< q.toNat else 0),
        (.shr e (.reg r) x y, two, if q.toNat < 64 then p >>> q.toNat else 0),
        (.sar e (.reg r) x y, two, p.sshiftRight (min q.toNat 63)),
        (.rol e (.reg r) x y, two, p <<< n ||| p >>> (64 - n)),
        (.btst e (.reg r) x y, two, p >>> n &&& 1), (.bset e (.reg r) x y, two, p ||| 1#64 <<< n),
        (.bclr e (.reg r) x y, two, p &&& ~~~(1#64 <<< n)), (.lnot e (.reg r) x, one, oneIf (p = 0)),
        (.bfx e (.reg r) x pos lenM1, one + 1, p >>> pos.toNat &&& field),
        (.bins e r x pos lenM1, one + 1, old &&& ~~~(field <<< pos.toNat) ||| (p &&& field) <<< pos.toNat),
        (.popc e (.reg r) x, one, BitVec.ofNat 64 ((List.range 64).countP p.getLsbD)),
        (.qtest e (.reg r) x y, two, oneIf (p &&& q &&& 0xFF = q &&& 0xFF)),
        (.qany e (.reg r) x y, two, oneIf (p &&& q &&& 0xFF ≠ 0)),
        (.qmrg e (.reg r) x y, two, ((p ||| q) &&& 0xFE) ||| (p &&& q &&& 1))] : List (Instr × Nat × Dword)),
      c.1.check = none → ∃ t, exec c.1 s = .next t ∧ Went e (landed a r c.2.2 c.2.1) s t) ∧
    ((Instr.div e .i64 (.reg r) x y).check = none → q ≠ 0 →
      ∃ t, exec (.div e .i64 (.reg r) x y) s = .next t ∧ Went e (landed a r (p.sdiv q) two) s t) ∧
    ((Instr.div e .u64 (.reg r) x y).check = none → q ≠ 0 →
      ∃ t, exec (.div e .u64 (.reg r) x y) s = .next t ∧ Went e (landed a r (p / q) two) s t) ∧
    ((Instr.rem e .i64 (.reg r) x y).check = none → q ≠ 0 →
      ∃ t, exec (.rem e .i64 (.reg r) x y) s = .next t ∧ Went e (landed a r (p.srem q) two) s t) ∧
    ((Instr.div e .i64 (.reg r) x y).check = none → q = 0 →
      ∃ t, exec (.div e .i64 (.reg r) x y) s = .next t ∧ Went e (landed (a.setFault 1 a.pc) r 0 two) s t) ∧
    ((Instr.rem e .u64 (.reg r) x y).check = none → q = 0 →
      ∃ t, exec (.rem e .u64 (.reg r) x y) s = .next t ∧ Went e (landed (a.setFault 1 a.pc) r 0 two) s t)

/-- Every operation on every operand form and every type: its sources are read in order, its result goes where the
destination form says (R96 to R101, R58, R91, R110, R111, R141, R161), and the engine goes on, or stops at a
checkpoint, or has tripped, as `Ran` says. An index not below the count reads 0 with FAULT 3, and drops a write with
FAULT 4 (R98, R111); `CVT` of a NaN to an integer gives 0 with FAULT 2. -/
def Obligations.OperationsOnEveryForm : Prop :=
  ∀ (e : Fin 12) (k frm into : K) (ik : IntK) (rk : RealK) (st : SatType) (rm : RoundMode) (dst : Dst) (r : Fin 64) (x y : Src)
    (pos lenM1 : BitVec 6) (off : BitVec 26) (mt : MemType) (count : Word) (g : BitVec 14) (sty : SlotType) (pt : SlotPart)
    (idx : BitVec 13) (h : BitVec 23) (ql : Bool) (op : RedOp) (nr : Fin 16) (s : State) (a : Act) (d : TaskDef), s.Inv →
    Executing s e a d →
    let two := words2 dst x y
    let one := words1 dst x
    let z (w : Nat) : X := atInstr s e a d w
    let rx (w : Nat) : Dword × X := (z w).rd x
    let ry (w : Nat) : Dword × X := (rx w).2.rd y
    let i : Nat := (rx 0).1.toNat
    (∀ c ∈ ([
        (.nop e, z 1),
        (.mov e dst x, (z one).op1 dst x id), (.satw e dst x st, (z one).op1 dst x (satwV st)),
        (.neg e k dst x, (z one).op1 dst x (negV k)), (.abs e k dst x, (z one).op1 dst x (absV k)),
        (.sqrt e rk dst x, (z one).op1 dst x (sqrtV (realK rk))),
        (.cvt e dst x frm into rm,
          let v := cvtV frm into rm (rx one).1
          (if v.2 then (rx one).2.fault 2 else (rx one).2).wr dst v.1),
        (.not e dst x, (z one).op1 dst x (~~~ ·)), (.lnot e dst x, (z one).op1 dst x fun v => oneIf (v = 0)),
        (.popc e dst x, (z one).op1 dst x fun v => BitVec.ofNat 64 (popCount 64 v.toNat)),
        (.bfx e dst x pos lenM1, (z (one + 1)).op1 dst x fun v => v >>> pos.toNat &&& fieldMask lenM1),
        (.add e k dst x y, (z two).op2 dst x y (addV k)), (.sub e k dst x y, (z two).op2 dst x y (subV k)),
        (.mul e k dst x y, (z two).op2 dst x y (mulV k)), (.min e k dst x y, (z two).op2 dst x y (minV k)),
        (.max e k dst x y, (z two).op2 dst x y (maxV k)), (.adds e ik dst x y, (z two).op2 dst x y (addsV (intK ik))),
        (.subs e ik dst x y, (z two).op2 dst x y (subsV (intK ik))), (.muls e ik dst x y, (z two).op2 dst x y (mulsV (intK ik))),
        (.div e k dst x y, (z two).op2f dst x y 1 (divV k)), (.rem e ik dst x y, (z two).op2f dst x y 1 (remV (intK ik))),
        (.lim e k r x y, (z (words2 (.reg r) x y)).op2 (.reg r) x y fun p q => maxV k p (minV k ((z 0).v r) q)),
        (.ceq e k dst x y, (z two).op2 dst x y fun p q => oneIf (eqV k p q = true)),
        (.cne e k dst x y, (z two).op2 dst x y fun p q => oneIf (eqV k p q = false)),
        (.clt e k dst x y, (z two).op2 dst x y fun p q => oneIf (ltV k p q = true)),
        (.cle e k dst x y, (z two).op2 dst x y fun p q => oneIf (leV k p q = true)),
        (.and e dst x y, (z two).op2 dst x y (· &&& ·)), (.or e dst x y, (z two).op2 dst x y (· ||| ·)),
        (.xor e dst x y, (z two).op2 dst x y (· ^^^ ·)),
        (.shl e dst x y, (z two).op2 dst x y fun p q => if q.toNat < 64 then p <<< q.toNat else 0),
        (.shr e dst x y, (z two).op2 dst x y fun p q => if q.toNat < 64 then p >>> q.toNat else 0),
        (.sar e dst x y, (z two).op2 dst x y fun p q => p.sshiftRight (min q.toNat 63)),
        (.rol e dst x y, (z two).op2 dst x y fun p q => p.rotateLeft (q.toNat % 64)),
        (.btst e dst x y, (z two).op2 dst x y fun p q => oneIf (p.getLsbD (q.toNat % 64) = true)),
        (.bset e dst x y, (z two).op2 dst x y fun p q => p ||| BitVec.twoPow 64 (q.toNat % 64)),
        (.bclr e dst x y, (z two).op2 dst x y fun p q => p &&& ~~~(BitVec.twoPow 64 (q.toNat % 64))),
        (.qtest e dst x y, (z two).op2 dst x y fun p q => oneIf (p &&& q &&& 0xFF = q &&& 0xFF)),
        (.qany e dst x y, (z two).op2 dst x y fun p q => oneIf (p &&& q &&& 0xFF ≠ 0)),
        (.qmrg e dst x y, (z two).op2 dst x y qmrgV),
        (.ldx e dst x off mt count,
          if i < count.toNat then (rx (one + 2)).2.wr dst (mt.widen ((z 0).local (varBase + off.toNat + i * mt.size) mt.size))
          else ((rx (one + 2)).2.fault 3).wr dst 0),
        (.ldxg e dst x g sty pt count,
          if i < count.toNat then (rx (one + 2)).2.wr dst (slotPart ((z 0).gathered (g.toNat + i)) sty pt)
          else ((rx (one + 2)).2.fault 3).wr dst 0),
        (.ldxk e dst x idx mt count,
          if i < count.toNat then (rx (one + 2)).2.wr dst ((z 0).pool (idx.toNat + i) mt)
          else ((rx (one + 2)).2.fault 3).wr dst 0),
        (.stx e x y off mt count,
          let w := 3 + x.words + y.words
          if i < count.toNat then (ry w).2.wrVar (off.toNat + i * mt.size) mt (ry w).1 else (ry w).2.fault 4),
        (.stxo e x y h sty ql count,
          let w := 3 + x.words + y.words
          if i < count.toNat then (ry w).2.wrSlot (h.toNat + i) sty ql (ry w).1 else (ry w).2.fault 4),
        (.ridx e dst, (z (1 + dst.words)).wr dst (BitVec.ofNat 64 a.rcd)),
        (.clock e dst, (z (1 + dst.words)).wr dst a.tf), (.tickn e dst, (z (1 + dst.words)).wr dst a.f),
        (.ared e nr x op k,
          let u := (rx (1 + x.words)).2
          let acc := aput nr.val (foldV op k ((aget? nr.val u.a.redu).getD (redIdentity op k)) (rx 0).1) u.a.redu
          { u with a := { u.a with redu := acc } })] : List (Instr × X)),
      c.1.check = none → ∃ t, exec c.1 s = .next t ∧ Ran s e a d c.2 t)

/-- Control flow (R102 to R105, R142). A branch goes to its first word plus the offset and leaves the loops whose body it
leaves; BRT and BRF go on where their condition does not hold. LOOP runs min(count, B) iterations, skips its body at
0, and sets FAULT 7 above B. CALL opens a frame with its arguments; RET copies the results into the caller's frame and
goes back. In TWIN mode RET in frame 0 and END end a task without ARRAY, which then waits for the comparison; on a
SPLIT engine the task commits, or waits for the next F_d, and leaves the engine. RNXT goes to the next record that the
mask lets run. -/
def Obligations.ControlFlow : Prop :=
  ∀ (e : Fin 12) (off bound n : BitVec 16) (x : Src) (ctr vd va vr : Fin 64) (fn : Byte) (s : State) (a : Act) (d : TaskDef), s.Inv →
    Executing s e a d → s.dev ≠ .tripped → a.staged.length ≤ 1024 → x.isInd = false →
    let p : Dword := ((atInstr s e a d 0).rd x).1
    let branch (w : Nat) (f : AFrame) : AFrame := { f with loops := f.loops.dropWhile fun l => !decide (l.first ≤ w ∧ w < l.last) }
    (off ≠ 0 → ∃ t, exec (.br e off) s = .next t ∧
      Went e (Act.loops { a.updFrame (branch (a.pc + off.toNat)) with pc := a.pc + off.toNat }) s t) ∧
    ((Instr.brt e x off).check = none → ∃ t, exec (.brt e x off) s = .next t ∧
      (p ≠ 0 → Went e (Act.loops { a.updFrame (branch (a.pc + off.toNat)) with pc := a.pc + off.toNat }) s t) ∧
      (p = 0 → Went e (Act.loops { a with pc := a.pc + (1 + x.words) }) s t)) ∧
    ((Instr.brf e x off).check = none → ∃ t, exec (.brf e x off) s = .next t ∧
      (p = 0 → Went e (Act.loops { a.updFrame (branch (a.pc + off.toNat)) with pc := a.pc + off.toNat }) s t) ∧
      (p ≠ 0 → Went e (Act.loops { a with pc := a.pc + (1 + x.words) }) s t)) ∧
    (∀ f l, a.frames = f :: l → (Instr.loop e ctr x bound n).check = none → ∃ t, exec (.loop e ctr x bound n) s = .next t ∧
      let c := p.toNat % 2 ^ 32
      let b := if bound.toNat < c then a.setFault 7 a.pc else a
      let body := a.pc + (2 + x.words)
      Went e (Act.loops { b with
        pc := if c = 0 then body + n.toNat else body,
        frames := { f with
          v := tset 0 f.v ctr 0,
          loops := if c = 0 then f.loops
            else ⟨body, body + n.toNat, 0, min c bound.toNat, ctr⟩ :: f.loops } :: l }) s t) ∧
    (∃ t a', exec (.call e vd va fn) s = .next t ∧ Went e (Act.loops a') s t ∧
      let g := d.img.funcs.getD fn.toNat ⟨0, 0, 0⟩
      a'.pc = g.entry ∧ ∃ f, a'.frames = f :: a.frames ∧ f.func = fn.toNat ∧ f.ret = a.pc + 1 ∧ f.d = vd.val ∧ f.loops = [] ∧
        ∀ k < 64, tget 0 f.v k = if k < g.nargs then (atInstr s e a d 0).v (va + k) else 0) ∧
    (∀ f g l, a.frames = f :: g :: l → tabWf (fun _ => (0 : Dword)) g.v = true →
      ∃ t a', exec (.ret e vr) s = .next t ∧ Went e (Act.loops a') s t ∧ a'.pc = f.ret ∧
      let m := (d.img.funcs.getD f.func ⟨0, 0, 0⟩).nres
      ∃ g', a'.frames = g' :: l ∧ g' = { g with v := g'.v } ∧
        ∀ k, tget 0 g'.v k = if f.d ≤ k ∧ k < f.d + m then tget 0 f.v (vr + (k - f.d)) else tget 0 g.v k) ∧
    (∀ i, i = .endTask e ∨ (i = .ret e vr ∧ a.frames.length ≤ 1) → (a.part = .plain ∨ a.part = .epi) →
      ∃ t, exec i s = .next t ∧
        (s.twinMode e = true → Went e { a with done := true } s t) ∧
        (s.twinMode e = false →
          let b : Act := { a with done := true, steps := a.steps + 1 }
          t = ((s.updEng e fun g => { g with cur := some b }).commitOrDefer e b).freeQueue e)) ∧
    (a.part ≠ .record → ∃ t, exec (.rnxt e) s = .next t ∧ Went e (Act.loops { a with pc := a.pc + 1 }) s t) ∧
    (∀ i, (i = .endTask e ∨ (i = .rnxt e ∧ (atInstr s e a d 0).findRecord (a.rcd + 1) = none)) → a.part = .record →
      s.twinMode e = true → d.img.arrd.bind (·.epi) = none → ∃ t, exec i s = .next t ∧ Went e { a with done := true } s t) ∧
    (∀ q, a.part = .record → s.twinMode e = true → d.img.arrd ≠ none → (atInstr s e a d 0).findRecord (a.rcd + 1) = some q →
      ∃ t, exec (.rnxt e) s = .next t ∧ (t.dev ≠ .tripped → ∃ a', (t.getEng e).cur = some a' ∧ a'.part = .record ∧ a'.rcd = q ∧
        a'.frames = [{}] ∧ a'.pc = 0 ∧ a'.staged = a.staged ∧ a'.done = false)) ∧
    (a.part = .pro → s.twinMode e = true → ∃ t, exec (.endTask e) s = .next t ∧ Went e { a with done := true } s t)

/-- State objects (R106, R121 to R133): each evaluation takes its operands and the frozen time, writes the new state to
the object's local copy and its bytes to the staging area, and its result to the destination; ORESET with a true
condition creates the object anew, and with a false one touches nothing. The timers (R126) and INTG (R130). -/
def Obligations.StateObjects : Prop :=
  (∀ (e : Fin 12) (dst : Dst) (x y : Src) (vr : Fin 64) (key : Word) (s : State) (a : Act) (d : TaskDef), s.Inv → Executing s e a d →
    let z (w : Nat) : X := atInstr s e a d w
    let v (r : Fin 64) : Bool := decide ((z 0).v r ≠ 0)
    let ev1 (w : Nat) (f : Blk → Dword → Blk × Dword) : X :=
      let u := ((z w).rd x).2
      let o := f (u.blk key.toNat) ((z w).rd x).1
      (u.wrBlk key.toNat o.1).wr dst o.2
    let ev2 (w : Nat) (f : Blk → Dword → Dword → Blk × Dword) : X :=
      let u := (((z w).rd x).2.rd y).2
      let o := f (u.blk key.toNat) ((z w).rd x).1 (((z w).rd x).2.rd y).1
      (u.wrBlk key.toNat o.1).wr dst o.2
    let two := words2 dst x y + 1
    let one := words1 dst x + 1
    ∀ c ∈ ([
        (.ton e dst x y key, ev2 two fun b p q => evalTon b a.tf (p != 0) q),
        (.tof e dst x y key, ev2 two fun b p q => evalTof b a.tf (p != 0) q),
        (.tp e dst x y key, ev2 two fun b p q => evalTp b a.tf (p != 0) q),
        (.rtrig e dst x key, ev1 one fun b p => evalTrig 4 b (p != 0) true),
        (.ftrig e dst x key, ev1 one fun b p => evalTrig 5 b (p != 0) false),
        (.ctu e dst vr x key, ev1 one fun b p => evalCtu b (v vr) (v (vr + 1)) p),
        (.ctd e dst vr x key, ev1 one fun b p => evalCtd b (v vr) (v (vr + 1)) p),
        (.ctud e dst vr x key, ev1 one fun b p => evalCtud b (v vr) (v (vr + 1)) (v (vr + 2)) (v (vr + 3)) p),
        (.hyst e dst x vr key, ev1 one fun b p => evalHyst b p ((z 0).v vr) ((z 0).v (vr + 1))),
        (.intg e dst x vr key, ev1 one fun b p => evalIntg b a.tf (2 ^ d.img.cls * s.tb) p (v vr) (v (vr + 1))),
        (.stepgo e dst x y key, ev2 two fun b p q => evalStepgo b a.tf p (q != 0)),
        (.stepis e dst x key, ev1 one fun b p => evalStepis b a.tf p),
        (.oreset e x key,
          let u := ((z (2 + x.words)).rd x).2
          if ((z 0).rd x).1 = 0 then u
          else u.wrBlk key.toNat { (u.blk key.toNat) with
            t0 := 0, t1 := 0, n := 0, flags := 0, kind := BitVec.ofNat 8 ((z 0).kindOf key.toNat) })] : List (Instr × X)),
      c.1.check = none → ∃ t, exec c.1 s = .next t ∧ Ran s e a d c.2 t) ∧
  (∀ (b : Blk) (now pt x : Dword) (p : Nat) (u r l : Bool),
    let q (c : Blk × Dword) : Prop := c.2 = oneIf (c.1.flag fQ = true)
    (0 ≤ pt.toInt →
      q (evalTon b now u pt) ∧ ((evalTon b now u pt).1.flag fRun = u) ∧ ((evalTon b now u pt).1.t1 = pt) ∧
      (u = true → b.flag fRun = false → (evalTon b now u pt).1.t0 = now ∧ (evalTon b now u pt).1.flag fQ = decide (pt = 0)) ∧
      (u = true → b.flag fRun = true → (evalTon b now u pt).1.t0 = b.t0 ∧
        (evalTon b now u pt).1.flag fQ = decide (pt.toInt ≤ (now - b.t0).toInt)) ∧
      (u = false → (evalTon b now u pt).2 = 0) ∧
      q (evalTof b now u pt) ∧ (u = true → (evalTof b now u pt).2 = 1 ∧ (evalTof b now u pt).1.flag fRun = false) ∧
      (u = false → b.flag fQ = false → (evalTof b now u pt).2 = 0) ∧
      (u = false → b.flag fQ = true → b.flag fRun = true → (evalTof b now u pt).2 = oneIf ((now - b.t0).toInt < pt.toInt)) ∧
      q (evalTp b now u pt) ∧ (evalTp b now u pt).1.flag fM = u ∧
      (b.flag fRun = false → ((evalTp b now u pt).2 = 1 ↔ u = true ∧ b.flag fM = false ∧ b.flag fInit = true ∧ pt ≠ 0))) ∧
    (r = true → (evalIntg b now p x r l).1.t0 = 0 ∧ (evalIntg b now p x r l).1.flag fGap = false) ∧
    (r = false → (l = true ∨ b.flag fInit = false ∨ b.flag fRest = true) → (evalIntg b now p x r l).1.t0 = b.t0) ∧
    (evalIntg b now p x r l).1.t1 = now ∧ (evalIntg b now p x r l).2 = (evalIntg b now p x r l).1.t0 ∧
    (evalTon b now u pt).1.flag fInit = true ∧ (evalTon b now u pt).1.flag fRest = false)

/-- The rules of the triggers (R127), the counters (R128), HYST (R129), the step objects (R131) and ORESET (R132), as
evaluations of a state block: Q, M and MD, CV, the step and its entry time, and the value in d. `fInit` false is a
first evaluation. -/
def Obligations.ObjectRules : Prop :=
  (∀ (b : Blk) (u : Bool),
    let init := b.flag fInit = true
    ((evalTrig 4 b u true).1.flag fQ = true ↔ init ∧ u = true ∧ b.flag fM = false) ∧
    (evalTrig 4 b u true).2 = oneIf ((evalTrig 4 b u true).1.flag fQ = true) ∧ (evalTrig 4 b u true).1.flag fM = u ∧
    ((evalTrig 5 b u false).1.flag fQ = true ↔ init ∧ u = false ∧ b.flag fM = true) ∧
    (evalTrig 5 b u false).2 = oneIf ((evalTrig 5 b u false).1.flag fQ = true) ∧ (evalTrig 5 b u false).1.flag fM = u) ∧
  (∀ (b : Blk) (pv : Dword) (u w r l : Bool),
    let PV := (pv.setWidth 32).toInt
    let cv := b.n.toInt
    let up := b.flag fInit = true ∧ u = true ∧ b.flag fM = false
    let down (m : Nat) (c : Bool) := b.flag fInit = true ∧ c = true ∧ b.flag m = false
    let ctu := evalCtu b u r pv
    let ctd := evalCtd b u l pv
    let both := evalCtud b u w r l pv
    ctu.1.n.toInt = (if r = true then 0 else if up ∧ cv < 2147483647 then cv + 1 else cv) ∧
    (ctu.1.flag fQ = true ↔ PV ≤ ctu.1.n.toInt) ∧ ctu.2 = oneIf (ctu.1.flag fQ = true) ∧ ctu.1.flag fM = u ∧
    ctd.1.n.toInt = (if l = true then PV else if down fM u ∧ -2147483648 < cv then cv - 1 else cv) ∧
    (ctd.1.flag fQ = true ↔ ctd.1.n.toInt ≤ 0) ∧ ctd.2 = oneIf (ctd.1.flag fQ = true) ∧ ctd.1.flag fM = u ∧
    both.1.n.toInt = (if r = true then 0 else if l = true then PV
      else if up ∧ ¬down fMD w then (if cv < 2147483647 then cv + 1 else cv)
      else if down fMD w ∧ ¬up then (if -2147483648 < cv then cv - 1 else cv) else cv) ∧
    (both.1.flag fQ = true ↔ PV ≤ both.1.n.toInt) ∧ both.1.flag fM = u ∧ both.1.flag fMD = w ∧
    both.2 = oneIf (PV ≤ both.1.n.toInt) + 2 * oneIf (both.1.n.toInt ≤ 0)) ∧
  (∀ (b : Blk) (x lo hi : Dword),
    let nan (v : Dword) := (f64.read v.toNat).isNan = true
    let o := evalHyst b x lo hi
    (nan x ∨ nan lo ∨ nan hi → o.1.flag fQ = b.flag fQ) ∧
    (¬nan x → ¬nan lo → ¬nan hi → o.1.flag fQ =
      (f64.lt hi.toNat x.toNat || (!f64.lt x.toNat lo.toNat && b.flag fQ))) ∧
    o.2 = oneIf (o.1.flag fQ = true) ∧ Blk.flag ⟨0, 0, 0, 0, b.kind, b.key, b.owner⟩ fQ = false) ∧
  (∀ (b : Blk) (now x : Dword) (c : Bool),
    let go := evalStepgo b now x c
    let is := evalStepis b now x
    let first := b.flag fInit = false
    let n : Word := if first then 0 else b.n
    let at0 : Dword := if first ∨ b.flag fRest = true then now else b.t0
    let moves := c = true ∧ x.setWidth 32 ≠ n
    go.1.n = (if moves then x.setWidth 32 else n) ∧ go.1.t0 = (if moves then now else at0) ∧ go.2 = go.1.n.setWidth 64 ∧
    is.1.n = n ∧ is.1.t0 = at0 ∧ is.2 = oneIf (n = x.setWidth 32)) ∧
  (∀ (e : Fin 12) (r : Fin 64) (key : Word) (s : State) (a : Act) (d : TaskDef), s.Inv → Executing s e a d → s.dev ≠ .tripped →
    tabWf (fun _ => (0 : Byte)) a.lmem = true → tabWf (fun _ => (0 : Byte)) a.rmem = true → (s.twinMode e = true → d.img.array = true ∨ a.staged.length ≤ 1022) →
    (Instr.oreset e (.reg r) key).check = none → (atInstr s e a d 0).v r ≠ 0 →
    ∃ t a', exec (.oreset e (.reg r) key) s = .next t ∧ Went e (Act.loops { a' with pc := a.pc + 2 }) s t ∧
      let b := (atInstr s e a d 0).blk key.toNat
      let z := atInstr s e a' d 0
      z.blk key.toNat = ⟨0, 0, 0, 0, BitVec.ofNat 8 (z.kindOf key.toNat), b.key, b.owner⟩ ∧
      (z.blk key.toNat).flag fInit = false)

/-- The system instructions (R108, R109, R150 to R155): JRNL, TGSEND, STREQ, PANEL and STACK stage one effect each, at the
end of the staging area, folded with its code and arguments; a code, connection, item or station that the image does
not give drops the effect with its FAULT; STOBJ reads the station as it stood at the freeze, or 0 with FAULT 8. -/
def Obligations.SystemInstructions : Prop :=
  ∀ (e : Fin 12) (dst : Dst) (x y : Src) (vb : Fin 64) (s : State) (a : Act) (d : TaskDef), s.Inv → Executing s e a d →
    let z (w : Nat) : X := atInstr s e a d w
    let p (w : Nat) : Dword × X := (z w).rd x
    let q (w : Nat) : Dword × X := (p w).2.rd y
    let one := 1 + x.words
    let two := 1 + x.words + y.words
    let v := (p 0).1
    let staged (u : X) (code : Nat) (args : List Dword) (f : Effect) : X := { u with a := { u.a with
      digest := crc64Words u.a.digest (BitVec.ofNat 64 (code * 2 ^ 36) :: args), staged := u.a.staged ++ [.eff f], total := u.a.total + 1 } }
    let record : List Byte := leBytes 8 a.f.toNat ++ leBytes 4 d.img.taskId ++ leBytes 2 v.toNat ++ [BitVec.ofNat 8 a.shard, 1] ++
      (List.range 6).flatMap fun i => leBytes 8 ((p 0).2.v (vb + i)).toNat
    ∀ c ∈ ([
        (.jrnl e x vb,
          if v.toNat < 0xF000 ∧ v.toNat ∈ s.img.journal then
            staged (p one).2 1 ((List.range 8).map fun i => BitVec.ofNat 64 (leAt record (8 * i) 8)) (.jrnl record)
          else (p one).2.fault 9),
        (.tgsend e x,
          if ∃ t ∈ s.img.telegrams, t.send = true ∧ t.num = v.toNat then staged (p one).2 2 [v] (.tgsend v.toNat) else (p one).2.fault 9),
        (.streq e x, if 1 ≤ v.toNat ∧ v.toNat ≤ 10 then staged (p one).2 3 [v] (.streq v.toNat) else (p one).2.fault 9),
        (.panel e x y,
          let m := v &&& 0xFFFFFFFFFFFF0000#64
          let u := (q two).2
          staged (if v.toNat % 65536 = 0 then u else u.fault 9) 4 [m, (q two).1] (.panel m (q two).1)),
        (.stack e x, if s.declares v.toNat = true then staged (p one).2 5 [v] (.stack v.toNat) else (p one).2.fault 8),
        (.stobj e dst x y,
          let u := q (words2 dst x y)
          if s.declares v.toNat = true ∧ u.1.toNat ≤ 9 then
            u.2.wr dst ((tget {} a.snap.sta v.toNat).field a.f.toNat u.1.toNat)
          else (u.2.fault 8).wr dst 0)] : List (Instr × X)),
      c.1.check = none → ∃ t, exec c.1 s = .next t ∧ Ran s e a d c.2 t

/-- What STOBJ reads (R150): the ten fields of a station's object as it stood at the freeze of tick f, `s.listed`
holding the number 128 × string + position index of each station that the image lists, 2,048 being station L; 0 and
FAULT 8 for another station or a field above 9. Field 5 is true where the station is a misfit; which code it then
shows is log entry 156. -/
def Obligations.StationObjectFields : Prop :=
  (∀ (s : State) (k : Nat), k ∈ s.listed ↔ ∃ x ∈ s.img.stations, k = 128 * x.str + x.pos) ∧
  ∀ (e : Fin 12) (r : Fin 64) (x y : Src) (s : State) (a : Act) (d : TaskDef), s.Inv → Executing s e a d → s.dev ≠ .tripped →
    a.staged.length ≤ 1024 → x.isInd = false → y.isInd = false → (Instr.stobj e (.reg r) x y).check = none →
    let k := ((atInstr s e a d 0).rd x).1.toNat
    let i := ((atInstr s e a d 0).rd y).1.toNat
    let o := tget {} a.snap.sta k
    let f := a.f.toNat
    let w := 1 + x.words + y.words
    ∃ t, exec (.stobj e (.reg r) x y) s = .next t ∧
      (s.declares k = false ∨ 9 < i → Went e (landed (a.setFault 8 a.pc) r 0 w) s t) ∧
      (s.declares k = true → ∀ c ∈ ([
          (0, oneIf (o.admitted = true)), (1, o.status.setWidth 64),
          (2, BitVec.ofNat 64 (match o.u with | some u => min (f - 1 - u) 0xFFFFFF | none => 0xFFFFFF)),
          (3, BitVec.ofNat 64 o.prob), (4, o.epochSeen.setWidth 64), (6, o.typ.setWidth 64),
          (7, o.fw.setWidth 64), (8, o.serial), (9, oneIf (o.ack = true))] : List (Nat × Dword)),
        i = c.1 → Went e (landed a r c.2 w) s t) ∧
      (s.declares k = true → i = 5 → ∃ v, Went e (landed a r v w) s t ∧ (o.misfit < 256 → (v ≠ 0 ↔ o.misfit ≠ 0)))

/-- What a twin's program does reaches nothing outside its engine before the engines agree (R70, R91, R109, R160): on an
engine in TWIN mode no Azwin instruction changes a byte of memory, an output, a queue, a port, a telegram, the journal
position, the self-test items, the panel or an engine outside the twin; only a refused access leaves its violation
record, unless it trips the device. In the execute window the other engine of the twin keeps what it has; outside it
the two are suspended together, once they stand at one boundary (R41, R159). -/
def Obligations.TwinStagingHolds : Prop :=
  ∀ (i : Instr) (e : Fin 12) (s t : State), s.Inv → engineOf i = some e → s.twinMode e = true → exec i s = .next t →
    s.dev ≠ .booting → t.dev ≠ .tripped →
    t = { s with eng := t.eng, regs := t.regs, viol := t.viol } ∧
    RegsBut (0x40030030 :: (s.queueOf e).map fun k => (F.SEQ_ENG_TASK k).addr) s t ∧
    (∀ k, k ∉ s.queueOf e → t.getEng k = s.getEng k) ∧
    (s.sched.execOpen = true → (t.getEng e).ready = (s.getEng e).ready ∧ ∀ k, k ≠ e.val → t.getEng k = s.getEng k) ∧
    (∀ k ∈ s.queueOf e, k ≠ e.val → t.getEng k = s.getEng k ∨
      t.getEng k = { s.getEng k with cur := none, ready := (s.getEng k).ready ++ (s.getEng k).cur.toList })
end

