-- ==== Sys2Proof/Laws/Frame.lean ====
section
/-!
SUPPORT. Frames that a sender makes pass the checks of a receiver (R186 to R190).
-/
namespace Sys2Proof.Machine

theorem mkFrame_crc (p : Dword) (kind flags epoch tick tstart member src str hops : Nat) (b : List Byte) :
    frameCrc (mkFrame p kind flags epoch tick tstart member src str hops b) p =
      (mkFrame p kind flags epoch tick tstart member src str hops b).crc := by
  simp only [mkFrame, frameCrc, frameHeader]

/-- A made frame passes every check of R190 of a receiver with the same pair ID, for its kinds and its string. -/
theorem frameErr_mkFrame (p : Dword) (kind flags epoch tick tstart member src str hops : Nat) (b : List Byte) (kinds : List Nat)
    (o : Option Nat) (hk : kind ∈ kinds) (hk2 : kind < 256) (hb : b.length ≤ 9150) (ho : ∀ k ∈ o, k = str) (hs : str < 256) :
    frameErr (mkFrame p kind flags epoch tick tstart member src str hops b) kinds (some p) o = none := by
  have hc := mkFrame_crc p kind flags epoch tick tstart member src str hops b
  have hl : b.length % 65536 = b.length := Nat.mod_eq_of_lt (by omega)
  have h9 : ¬ 9216 < 66 + b.length := by omega
  have hkk : kind % 256 = kind := Nat.mod_eq_of_lt hk2
  have hss : str % 256 = str := Nat.mod_eq_of_lt hs
  have hc' : frameCrc (mkFrame p kind flags epoch tick tstart member src str hops b) ((some p).getD
      (mkFrame p kind flags epoch tick tstart member src str hops b).pairId) =
      (mkFrame p kind flags epoch tick tstart member src str hops b).crc := hc
  unfold frameErr
  rw [hc']
  cases o with
  | none => simp [mkFrame, hk, hl, h9, hkk]
  | some k => simp [mkFrame, hk, hl, h9, hkk, hss, ho k rfl]

end Sys2Proof.Machine
end

