-- ==== Sys2Proof/Laws/State.lean ====
section
/-!
SUPPORT. What each update of State leaves of each field, by rfl, so that no proof unfolds a record update.
-/
namespace Sys2Proof.Laws
open Sys2Proof Sys2Proof.Machine

variable (s : State)

@[simp] theorem setReg_pending (a : Nat) (v : Word) : (s.setReg a v).pending = s.pending := rfl
@[simp] theorem setReg_tx (a : Nat) (v : Word) : (s.setReg a v).tx = s.tx := rfl
@[simp] theorem setReg_rdata (a : Nat) (v : Word) : (s.setReg a v).rdata = s.rdata := rfl
@[simp] theorem setReg_rbytes (a : Nat) (v : Word) : (s.setReg a v).rbytes = s.rbytes := rfl
@[simp] theorem setReg_free (a : Nat) (v : Word) : (s.setReg a v).free = s.free := rfl
@[simp] theorem setReg_ns (a : Nat) (v : Word) : (s.setReg a v).ns = s.ns := rfl
@[simp] theorem setReg_wrap (a : Nat) (v : Word) : (s.setReg a v).wrap = s.wrap := rfl
@[simp] theorem setReg_acc (a : Nat) (v : Word) : (s.setReg a v).acc = s.acc := rfl
@[simp] theorem setReg_phase (a : Nat) (v : Word) : (s.setReg a v).phase = s.phase := rfl
@[simp] theorem setReg_tlen (a : Nat) (v : Word) : (s.setReg a v).tlen = s.tlen := rfl
@[simp] theorem setReg_tick (a : Nat) (v : Word) : (s.setReg a v).tick = s.tick := rfl
@[simp] theorem setReg_tstart (a : Nat) (v : Word) : (s.setReg a v).tstart = s.tstart := rfl
@[simp] theorem setReg_regs (a : Nat) (v : Word) : (s.setReg a v).regs = tset (resetWord a) s.regs a v := rfl
@[simp] theorem setReg_mem (a : Nat) (v : Word) : (s.setReg a v).mem = s.mem := rfl
@[simp] theorem setReg_dirty (a : Nat) (v : Word) : (s.setReg a v).dirty = s.dirty := rfl
@[simp] theorem setReg_eccBad (a : Nat) (v : Word) : (s.setReg a v).eccBad = s.eccBad := rfl
@[simp] theorem setReg_eccSeen (a : Nat) (v : Word) : (s.setReg a v).eccSeen = s.eccSeen := rfl
@[simp] theorem setReg_tagRuns (a : Nat) (v : Word) : (s.setReg a v).tagRuns = s.tagRuns := rfl
@[simp] theorem setReg_tagBad (a : Nat) (v : Word) : (s.setReg a v).tagBad = s.tagBad := rfl
@[simp] theorem setReg_viol (a : Nat) (v : Word) : (s.setReg a v).viol = s.viol := rfl
@[simp] theorem setReg_nor (a : Nat) (v : Word) : (s.setReg a v).nor = s.nor := rfl
@[simp] theorem setReg_mram (a : Nat) (v : Word) : (s.setReg a v).mram = s.mram := rfl
@[simp] theorem setReg_dev (a : Nat) (v : Word) : (s.setReg a v).dev = s.dev := rfl
@[simp] theorem setReg_last (a : Nat) (v : Word) : (s.setReg a v).last = s.last := rfl
@[simp] theorem setReg_due (a : Nat) (v : Word) : (s.setReg a v).due = s.due := rfl
@[simp] theorem setReg_transTick (a : Nat) (v : Word) : (s.setReg a v).transTick = s.transTick := rfl
@[simp] theorem setReg_since (a : Nat) (v : Word) : (s.setReg a v).since = s.since := rfl
@[simp] theorem setReg_addrOk (a : Nat) (v : Word) : (s.setReg a v).addrOk = s.addrOk := rfl
@[simp] theorem setReg_svcMode (a : Nat) (v : Word) : (s.setReg a v).svcMode = s.svcMode := rfl
@[simp] theorem setReg_img (a : Nat) (v : Word) : (s.setReg a v).img = s.img := rfl
@[simp] theorem setReg_firstFrz (a : Nat) (v : Word) : (s.setReg a v).firstFrz = s.firstFrz := rfl
@[simp] theorem setReg_unforced (a : Nat) (v : Word) : (s.setReg a v).unforced = s.unforced := rfl
@[simp] theorem setReg_tripN (a : Nat) (v : Word) : (s.setReg a v).tripN = s.tripN := rfl
@[simp] theorem setReg_tripTime (a : Nat) (v : Word) : (s.setReg a v).tripTime = s.tripTime := rfl
@[simp] theorem setReg_squelch (a : Nat) (v : Word) : (s.setReg a v).squelch = s.squelch := rfl
@[simp] theorem setReg_phyRst (a : Nat) (v : Word) : (s.setReg a v).phyRst = s.phyRst := rfl
@[simp] theorem setReg_refErr (a : Nat) (v : Word) : (s.setReg a v).refErr = s.refErr := rfl
@[simp] theorem setReg_boot (a : Nat) (v : Word) : (s.setReg a v).boot = s.boot := rfl
@[simp] theorem setReg_otp (a : Nat) (v : Word) : (s.setReg a v).otp = s.otp := rfl
@[simp] theorem setReg_pwd (a : Nat) (v : Word) : (s.setReg a v).pwd = s.pwd := rfl
@[simp] theorem setReg_logSeq (a : Nat) (v : Word) : (s.setReg a v).logSeq = s.logSeq := rfl
@[simp] theorem setReg_chain (a : Nat) (v : Word) : (s.setReg a v).chain = s.chain := rfl
@[simp] theorem setReg_loadReport (a : Nat) (v : Word) : (s.setReg a v).loadReport = s.loadReport := rfl
@[simp] theorem setReg_forceDropped (a : Nat) (v : Word) : (s.setReg a v).forceDropped = s.forceDropped := rfl
@[simp] theorem setReg_eng (a : Nat) (v : Word) : (s.setReg a v).eng = s.eng := rfl
@[simp] theorem setReg_flights (a : Nat) (v : Word) : (s.setReg a v).flights = s.flights := rfl
@[simp] theorem setReg_tasks (a : Nat) (v : Word) : (s.setReg a v).tasks = s.tasks := rfl
@[simp] theorem setReg_snap (a : Nat) (v : Word) : (s.setReg a v).snap = s.snap := rfl
@[simp] theorem setReg_sched (a : Nat) (v : Word) : (s.setReg a v).sched = s.sched := rfl
@[simp] theorem setReg_deferred (a : Nat) (v : Word) : (s.setReg a v).deferred = s.deferred := rfl
@[simp] theorem setReg_sta (a : Nat) (v : Word) : (s.setReg a v).sta = s.sta := rfl
@[simp] theorem setReg_str (a : Nat) (v : Word) : (s.setReg a v).str = s.str := rfl
@[simp] theorem setReg_mario (a : Nat) (v : Word) : (s.setReg a v).mario = s.mario := rfl
@[simp] theorem setReg_saw (a : Nat) (v : Word) : (s.setReg a v).saw = s.saw := rfl
@[simp] theorem setReg_mirr (a : Nat) (v : Word) : (s.setReg a v).mirr = s.mirr := rfl
@[simp] theorem setReg_tri (a : Nat) (v : Word) : (s.setReg a v).tri = s.tri := rfl
@[simp] theorem setReg_chg (a : Nat) (v : Word) : (s.setReg a v).chg = s.chg := rfl
@[simp] theorem setReg_tgRx (a : Nat) (v : Word) : (s.setReg a v).tgRx = s.tgRx := rfl
@[simp] theorem setReg_tgSend (a : Nat) (v : Word) : (s.setReg a v).tgSend = s.tgSend := rfl
@[simp] theorem setReg_plantA (a : Nat) (v : Word) : (s.setReg a v).plantA = s.plantA := rfl
@[simp] theorem setReg_plantB (a : Nat) (v : Word) : (s.setReg a v).plantB = s.plantB := rfl
@[simp] theorem setReg_ptp (a : Nat) (v : Word) : (s.setReg a v).ptp = s.ptp := rfl
@[simp] theorem setReg_svc (a : Nat) (v : Word) : (s.setReg a v).svc = s.svc := rfl
@[simp] theorem setReg_field (a : Nat) (v : Word) : (s.setReg a v).field = s.field := rfl
@[simp] theorem setReg_fctl (a : Nat) (v : Word) : (s.setReg a v).fctl = s.fctl := rfl
@[simp] theorem setReg_can0 (a : Nat) (v : Word) : (s.setReg a v).can0 = s.can0 := rfl
@[simp] theorem setReg_can1 (a : Nat) (v : Word) : (s.setReg a v).can1 = s.can1 := rfl
@[simp] theorem setReg_rack (a : Nat) (v : Word) : (s.setReg a v).rack = s.rack := rfl
@[simp] theorem setReg_ret (a : Nat) (v : Word) : (s.setReg a v).ret = s.ret := rfl
@[simp] theorem setReg_hlth (a : Nat) (v : Word) : (s.setReg a v).hlth = s.hlth := rfl
@[simp] theorem setReg_books (a : Nat) (v : Word) : (s.setReg a v).books = s.books := rfl
@[simp] theorem setReg_pan (a : Nat) (v : Word) : (s.setReg a v).pan = s.pan := rfl
@[simp] theorem setReg_jrnlNext (a : Nat) (v : Word) : (s.setReg a v).jrnlNext = s.jrnlNext := rfl

@[simp] theorem wrBytes_pending (a : Nat) (l : List Byte) : (s.wrBytes a l).pending = s.pending := rfl
@[simp] theorem wrBytes_tx (a : Nat) (l : List Byte) : (s.wrBytes a l).tx = s.tx := rfl
@[simp] theorem wrBytes_rdata (a : Nat) (l : List Byte) : (s.wrBytes a l).rdata = s.rdata := rfl
@[simp] theorem wrBytes_rbytes (a : Nat) (l : List Byte) : (s.wrBytes a l).rbytes = s.rbytes := rfl
@[simp] theorem wrBytes_free (a : Nat) (l : List Byte) : (s.wrBytes a l).free = s.free := rfl
@[simp] theorem wrBytes_ns (a : Nat) (l : List Byte) : (s.wrBytes a l).ns = s.ns := rfl
@[simp] theorem wrBytes_wrap (a : Nat) (l : List Byte) : (s.wrBytes a l).wrap = s.wrap := rfl
@[simp] theorem wrBytes_acc (a : Nat) (l : List Byte) : (s.wrBytes a l).acc = s.acc := rfl
@[simp] theorem wrBytes_phase (a : Nat) (l : List Byte) : (s.wrBytes a l).phase = s.phase := rfl
@[simp] theorem wrBytes_tlen (a : Nat) (l : List Byte) : (s.wrBytes a l).tlen = s.tlen := rfl
@[simp] theorem wrBytes_tick (a : Nat) (l : List Byte) : (s.wrBytes a l).tick = s.tick := rfl
@[simp] theorem wrBytes_tstart (a : Nat) (l : List Byte) : (s.wrBytes a l).tstart = s.tstart := rfl
@[simp] theorem wrBytes_regs (a : Nat) (l : List Byte) : (s.wrBytes a l).regs = s.regs := rfl
@[simp] theorem wrBytes_mem (a : Nat) (l : List Byte) : (s.wrBytes a l).mem = putBytes s.mem a l := rfl
@[simp] theorem wrBytes_dirty (a : Nat) (l : List Byte) : (s.wrBytes a l).dirty = s.dirty := rfl
@[simp] theorem wrBytes_eccBad (a : Nat) (l : List Byte) : (s.wrBytes a l).eccBad = s.eccBad := rfl
@[simp] theorem wrBytes_eccSeen (a : Nat) (l : List Byte) : (s.wrBytes a l).eccSeen = s.eccSeen := rfl
@[simp] theorem wrBytes_tagRuns (a : Nat) (l : List Byte) : (s.wrBytes a l).tagRuns = s.tagRuns := rfl
@[simp] theorem wrBytes_tagBad (a : Nat) (l : List Byte) : (s.wrBytes a l).tagBad = s.tagBad := rfl
@[simp] theorem wrBytes_viol (a : Nat) (l : List Byte) : (s.wrBytes a l).viol = s.viol := rfl
@[simp] theorem wrBytes_nor (a : Nat) (l : List Byte) : (s.wrBytes a l).nor = s.nor := rfl
@[simp] theorem wrBytes_mram (a : Nat) (l : List Byte) : (s.wrBytes a l).mram = s.mram := rfl
@[simp] theorem wrBytes_dev (a : Nat) (l : List Byte) : (s.wrBytes a l).dev = s.dev := rfl
@[simp] theorem wrBytes_last (a : Nat) (l : List Byte) : (s.wrBytes a l).last = s.last := rfl
@[simp] theorem wrBytes_due (a : Nat) (l : List Byte) : (s.wrBytes a l).due = s.due := rfl
@[simp] theorem wrBytes_transTick (a : Nat) (l : List Byte) : (s.wrBytes a l).transTick = s.transTick := rfl
@[simp] theorem wrBytes_since (a : Nat) (l : List Byte) : (s.wrBytes a l).since = s.since := rfl
@[simp] theorem wrBytes_addrOk (a : Nat) (l : List Byte) : (s.wrBytes a l).addrOk = s.addrOk := rfl
@[simp] theorem wrBytes_svcMode (a : Nat) (l : List Byte) : (s.wrBytes a l).svcMode = s.svcMode := rfl
@[simp] theorem wrBytes_img (a : Nat) (l : List Byte) : (s.wrBytes a l).img = s.img := rfl
@[simp] theorem wrBytes_firstFrz (a : Nat) (l : List Byte) : (s.wrBytes a l).firstFrz = s.firstFrz := rfl
@[simp] theorem wrBytes_unforced (a : Nat) (l : List Byte) : (s.wrBytes a l).unforced = s.unforced := rfl
@[simp] theorem wrBytes_tripN (a : Nat) (l : List Byte) : (s.wrBytes a l).tripN = s.tripN := rfl
@[simp] theorem wrBytes_tripTime (a : Nat) (l : List Byte) : (s.wrBytes a l).tripTime = s.tripTime := rfl
@[simp] theorem wrBytes_squelch (a : Nat) (l : List Byte) : (s.wrBytes a l).squelch = s.squelch := rfl
@[simp] theorem wrBytes_phyRst (a : Nat) (l : List Byte) : (s.wrBytes a l).phyRst = s.phyRst := rfl
@[simp] theorem wrBytes_refErr (a : Nat) (l : List Byte) : (s.wrBytes a l).refErr = s.refErr := rfl
@[simp] theorem wrBytes_boot (a : Nat) (l : List Byte) : (s.wrBytes a l).boot = s.boot := rfl
@[simp] theorem wrBytes_otp (a : Nat) (l : List Byte) : (s.wrBytes a l).otp = s.otp := rfl
@[simp] theorem wrBytes_pwd (a : Nat) (l : List Byte) : (s.wrBytes a l).pwd = s.pwd := rfl
@[simp] theorem wrBytes_logSeq (a : Nat) (l : List Byte) : (s.wrBytes a l).logSeq = s.logSeq := rfl
@[simp] theorem wrBytes_chain (a : Nat) (l : List Byte) : (s.wrBytes a l).chain = s.chain := rfl
@[simp] theorem wrBytes_loadReport (a : Nat) (l : List Byte) : (s.wrBytes a l).loadReport = s.loadReport := rfl
@[simp] theorem wrBytes_forceDropped (a : Nat) (l : List Byte) : (s.wrBytes a l).forceDropped = s.forceDropped := rfl
@[simp] theorem wrBytes_eng (a : Nat) (l : List Byte) : (s.wrBytes a l).eng = s.eng := rfl
@[simp] theorem wrBytes_flights (a : Nat) (l : List Byte) : (s.wrBytes a l).flights = s.flights := rfl
@[simp] theorem wrBytes_tasks (a : Nat) (l : List Byte) : (s.wrBytes a l).tasks = s.tasks := rfl
@[simp] theorem wrBytes_snap (a : Nat) (l : List Byte) : (s.wrBytes a l).snap = s.snap := rfl
@[simp] theorem wrBytes_sched (a : Nat) (l : List Byte) : (s.wrBytes a l).sched = s.sched := rfl
@[simp] theorem wrBytes_deferred (a : Nat) (l : List Byte) : (s.wrBytes a l).deferred = s.deferred := rfl
@[simp] theorem wrBytes_sta (a : Nat) (l : List Byte) : (s.wrBytes a l).sta = s.sta := rfl
@[simp] theorem wrBytes_str (a : Nat) (l : List Byte) : (s.wrBytes a l).str = s.str := rfl
@[simp] theorem wrBytes_mario (a : Nat) (l : List Byte) : (s.wrBytes a l).mario = s.mario := rfl
@[simp] theorem wrBytes_saw (a : Nat) (l : List Byte) : (s.wrBytes a l).saw = s.saw := rfl
@[simp] theorem wrBytes_mirr (a : Nat) (l : List Byte) : (s.wrBytes a l).mirr = s.mirr := rfl
@[simp] theorem wrBytes_tri (a : Nat) (l : List Byte) : (s.wrBytes a l).tri = s.tri := rfl
@[simp] theorem wrBytes_chg (a : Nat) (l : List Byte) : (s.wrBytes a l).chg = s.chg := rfl
@[simp] theorem wrBytes_tgRx (a : Nat) (l : List Byte) : (s.wrBytes a l).tgRx = s.tgRx := rfl
@[simp] theorem wrBytes_tgSend (a : Nat) (l : List Byte) : (s.wrBytes a l).tgSend = s.tgSend := rfl
@[simp] theorem wrBytes_plantA (a : Nat) (l : List Byte) : (s.wrBytes a l).plantA = s.plantA := rfl
@[simp] theorem wrBytes_plantB (a : Nat) (l : List Byte) : (s.wrBytes a l).plantB = s.plantB := rfl
@[simp] theorem wrBytes_ptp (a : Nat) (l : List Byte) : (s.wrBytes a l).ptp = s.ptp := rfl
@[simp] theorem wrBytes_svc (a : Nat) (l : List Byte) : (s.wrBytes a l).svc = s.svc := rfl
@[simp] theorem wrBytes_field (a : Nat) (l : List Byte) : (s.wrBytes a l).field = s.field := rfl
@[simp] theorem wrBytes_fctl (a : Nat) (l : List Byte) : (s.wrBytes a l).fctl = s.fctl := rfl
@[simp] theorem wrBytes_can0 (a : Nat) (l : List Byte) : (s.wrBytes a l).can0 = s.can0 := rfl
@[simp] theorem wrBytes_can1 (a : Nat) (l : List Byte) : (s.wrBytes a l).can1 = s.can1 := rfl
@[simp] theorem wrBytes_rack (a : Nat) (l : List Byte) : (s.wrBytes a l).rack = s.rack := rfl
@[simp] theorem wrBytes_ret (a : Nat) (l : List Byte) : (s.wrBytes a l).ret = s.ret := rfl
@[simp] theorem wrBytes_hlth (a : Nat) (l : List Byte) : (s.wrBytes a l).hlth = s.hlth := rfl
@[simp] theorem wrBytes_books (a : Nat) (l : List Byte) : (s.wrBytes a l).books = s.books := rfl
@[simp] theorem wrBytes_pan (a : Nat) (l : List Byte) : (s.wrBytes a l).pan = s.pan := rfl
@[simp] theorem wrBytes_jrnlNext (a : Nat) (l : List Byte) : (s.wrBytes a l).jrnlNext = s.jrnlNext := rfl

@[simp] theorem send_pending (x : Tx) : (s.send x).pending = s.pending := rfl
@[simp] theorem send_tx (x : Tx) : (s.send x).tx = s.tx ++ [x] := rfl
@[simp] theorem send_rdata (x : Tx) : (s.send x).rdata = s.rdata := rfl
@[simp] theorem send_rbytes (x : Tx) : (s.send x).rbytes = s.rbytes := rfl
@[simp] theorem send_free (x : Tx) : (s.send x).free = s.free := rfl
@[simp] theorem send_ns (x : Tx) : (s.send x).ns = s.ns := rfl
@[simp] theorem send_wrap (x : Tx) : (s.send x).wrap = s.wrap := rfl
@[simp] theorem send_acc (x : Tx) : (s.send x).acc = s.acc := rfl
@[simp] theorem send_phase (x : Tx) : (s.send x).phase = s.phase := rfl
@[simp] theorem send_tlen (x : Tx) : (s.send x).tlen = s.tlen := rfl
@[simp] theorem send_tick (x : Tx) : (s.send x).tick = s.tick := rfl
@[simp] theorem send_tstart (x : Tx) : (s.send x).tstart = s.tstart := rfl
@[simp] theorem send_regs (x : Tx) : (s.send x).regs = s.regs := rfl
@[simp] theorem send_mem (x : Tx) : (s.send x).mem = s.mem := rfl
@[simp] theorem send_dirty (x : Tx) : (s.send x).dirty = s.dirty := rfl
@[simp] theorem send_eccBad (x : Tx) : (s.send x).eccBad = s.eccBad := rfl
@[simp] theorem send_eccSeen (x : Tx) : (s.send x).eccSeen = s.eccSeen := rfl
@[simp] theorem send_tagRuns (x : Tx) : (s.send x).tagRuns = s.tagRuns := rfl
@[simp] theorem send_tagBad (x : Tx) : (s.send x).tagBad = s.tagBad := rfl
@[simp] theorem send_viol (x : Tx) : (s.send x).viol = s.viol := rfl
@[simp] theorem send_nor (x : Tx) : (s.send x).nor = s.nor := rfl
@[simp] theorem send_mram (x : Tx) : (s.send x).mram = s.mram := rfl
@[simp] theorem send_dev (x : Tx) : (s.send x).dev = s.dev := rfl
@[simp] theorem send_last (x : Tx) : (s.send x).last = s.last := rfl
@[simp] theorem send_due (x : Tx) : (s.send x).due = s.due := rfl
@[simp] theorem send_transTick (x : Tx) : (s.send x).transTick = s.transTick := rfl
@[simp] theorem send_since (x : Tx) : (s.send x).since = s.since := rfl
@[simp] theorem send_addrOk (x : Tx) : (s.send x).addrOk = s.addrOk := rfl
@[simp] theorem send_svcMode (x : Tx) : (s.send x).svcMode = s.svcMode := rfl
@[simp] theorem send_img (x : Tx) : (s.send x).img = s.img := rfl
@[simp] theorem send_firstFrz (x : Tx) : (s.send x).firstFrz = s.firstFrz := rfl
@[simp] theorem send_unforced (x : Tx) : (s.send x).unforced = s.unforced := rfl
@[simp] theorem send_tripN (x : Tx) : (s.send x).tripN = s.tripN := rfl
@[simp] theorem send_tripTime (x : Tx) : (s.send x).tripTime = s.tripTime := rfl
@[simp] theorem send_squelch (x : Tx) : (s.send x).squelch = s.squelch := rfl
@[simp] theorem send_phyRst (x : Tx) : (s.send x).phyRst = s.phyRst := rfl
@[simp] theorem send_refErr (x : Tx) : (s.send x).refErr = s.refErr := rfl
@[simp] theorem send_boot (x : Tx) : (s.send x).boot = s.boot := rfl
@[simp] theorem send_otp (x : Tx) : (s.send x).otp = s.otp := rfl
@[simp] theorem send_pwd (x : Tx) : (s.send x).pwd = s.pwd := rfl
@[simp] theorem send_logSeq (x : Tx) : (s.send x).logSeq = s.logSeq := rfl
@[simp] theorem send_chain (x : Tx) : (s.send x).chain = s.chain := rfl
@[simp] theorem send_loadReport (x : Tx) : (s.send x).loadReport = s.loadReport := rfl
@[simp] theorem send_forceDropped (x : Tx) : (s.send x).forceDropped = s.forceDropped := rfl
@[simp] theorem send_eng (x : Tx) : (s.send x).eng = s.eng := rfl
@[simp] theorem send_flights (x : Tx) : (s.send x).flights = s.flights := rfl
@[simp] theorem send_tasks (x : Tx) : (s.send x).tasks = s.tasks := rfl
@[simp] theorem send_snap (x : Tx) : (s.send x).snap = s.snap := rfl
@[simp] theorem send_sched (x : Tx) : (s.send x).sched = s.sched := rfl
@[simp] theorem send_deferred (x : Tx) : (s.send x).deferred = s.deferred := rfl
@[simp] theorem send_sta (x : Tx) : (s.send x).sta = s.sta := rfl
@[simp] theorem send_str (x : Tx) : (s.send x).str = s.str := rfl
@[simp] theorem send_mario (x : Tx) : (s.send x).mario = s.mario := rfl
@[simp] theorem send_saw (x : Tx) : (s.send x).saw = s.saw := rfl
@[simp] theorem send_mirr (x : Tx) : (s.send x).mirr = s.mirr := rfl
@[simp] theorem send_tri (x : Tx) : (s.send x).tri = s.tri := rfl
@[simp] theorem send_chg (x : Tx) : (s.send x).chg = s.chg := rfl
@[simp] theorem send_tgRx (x : Tx) : (s.send x).tgRx = s.tgRx := rfl
@[simp] theorem send_tgSend (x : Tx) : (s.send x).tgSend = s.tgSend := rfl
@[simp] theorem send_plantA (x : Tx) : (s.send x).plantA = s.plantA := rfl
@[simp] theorem send_plantB (x : Tx) : (s.send x).plantB = s.plantB := rfl
@[simp] theorem send_ptp (x : Tx) : (s.send x).ptp = s.ptp := rfl
@[simp] theorem send_svc (x : Tx) : (s.send x).svc = s.svc := rfl
@[simp] theorem send_field (x : Tx) : (s.send x).field = s.field := rfl
@[simp] theorem send_fctl (x : Tx) : (s.send x).fctl = s.fctl := rfl
@[simp] theorem send_can0 (x : Tx) : (s.send x).can0 = s.can0 := rfl
@[simp] theorem send_can1 (x : Tx) : (s.send x).can1 = s.can1 := rfl
@[simp] theorem send_rack (x : Tx) : (s.send x).rack = s.rack := rfl
@[simp] theorem send_ret (x : Tx) : (s.send x).ret = s.ret := rfl
@[simp] theorem send_hlth (x : Tx) : (s.send x).hlth = s.hlth := rfl
@[simp] theorem send_books (x : Tx) : (s.send x).books = s.books := rfl
@[simp] theorem send_pan (x : Tx) : (s.send x).pan = s.pan := rfl
@[simp] theorem send_jrnlNext (x : Tx) : (s.send x).jrnlNext = s.jrnlNext := rfl

@[simp] theorem updSta_pending (k : Nat) (f : Sta → Sta) : (s.updSta k f).pending = s.pending := rfl
@[simp] theorem updSta_tx (k : Nat) (f : Sta → Sta) : (s.updSta k f).tx = s.tx := rfl
@[simp] theorem updSta_rdata (k : Nat) (f : Sta → Sta) : (s.updSta k f).rdata = s.rdata := rfl
@[simp] theorem updSta_rbytes (k : Nat) (f : Sta → Sta) : (s.updSta k f).rbytes = s.rbytes := rfl
@[simp] theorem updSta_free (k : Nat) (f : Sta → Sta) : (s.updSta k f).free = s.free := rfl
@[simp] theorem updSta_ns (k : Nat) (f : Sta → Sta) : (s.updSta k f).ns = s.ns := rfl
@[simp] theorem updSta_wrap (k : Nat) (f : Sta → Sta) : (s.updSta k f).wrap = s.wrap := rfl
@[simp] theorem updSta_acc (k : Nat) (f : Sta → Sta) : (s.updSta k f).acc = s.acc := rfl
@[simp] theorem updSta_phase (k : Nat) (f : Sta → Sta) : (s.updSta k f).phase = s.phase := rfl
@[simp] theorem updSta_tlen (k : Nat) (f : Sta → Sta) : (s.updSta k f).tlen = s.tlen := rfl
@[simp] theorem updSta_tick (k : Nat) (f : Sta → Sta) : (s.updSta k f).tick = s.tick := rfl
@[simp] theorem updSta_tstart (k : Nat) (f : Sta → Sta) : (s.updSta k f).tstart = s.tstart := rfl
@[simp] theorem updSta_regs (k : Nat) (f : Sta → Sta) : (s.updSta k f).regs = s.regs := rfl
@[simp] theorem updSta_mem (k : Nat) (f : Sta → Sta) : (s.updSta k f).mem = s.mem := rfl
@[simp] theorem updSta_dirty (k : Nat) (f : Sta → Sta) : (s.updSta k f).dirty = s.dirty := rfl
@[simp] theorem updSta_eccBad (k : Nat) (f : Sta → Sta) : (s.updSta k f).eccBad = s.eccBad := rfl
@[simp] theorem updSta_eccSeen (k : Nat) (f : Sta → Sta) : (s.updSta k f).eccSeen = s.eccSeen := rfl
@[simp] theorem updSta_tagRuns (k : Nat) (f : Sta → Sta) : (s.updSta k f).tagRuns = s.tagRuns := rfl
@[simp] theorem updSta_tagBad (k : Nat) (f : Sta → Sta) : (s.updSta k f).tagBad = s.tagBad := rfl
@[simp] theorem updSta_viol (k : Nat) (f : Sta → Sta) : (s.updSta k f).viol = s.viol := rfl
@[simp] theorem updSta_nor (k : Nat) (f : Sta → Sta) : (s.updSta k f).nor = s.nor := rfl
@[simp] theorem updSta_mram (k : Nat) (f : Sta → Sta) : (s.updSta k f).mram = s.mram := rfl
@[simp] theorem updSta_dev (k : Nat) (f : Sta → Sta) : (s.updSta k f).dev = s.dev := rfl
@[simp] theorem updSta_last (k : Nat) (f : Sta → Sta) : (s.updSta k f).last = s.last := rfl
@[simp] theorem updSta_due (k : Nat) (f : Sta → Sta) : (s.updSta k f).due = s.due := rfl
@[simp] theorem updSta_transTick (k : Nat) (f : Sta → Sta) : (s.updSta k f).transTick = s.transTick := rfl
@[simp] theorem updSta_since (k : Nat) (f : Sta → Sta) : (s.updSta k f).since = s.since := rfl
@[simp] theorem updSta_addrOk (k : Nat) (f : Sta → Sta) : (s.updSta k f).addrOk = s.addrOk := rfl
@[simp] theorem updSta_svcMode (k : Nat) (f : Sta → Sta) : (s.updSta k f).svcMode = s.svcMode := rfl
@[simp] theorem updSta_img (k : Nat) (f : Sta → Sta) : (s.updSta k f).img = s.img := rfl
@[simp] theorem updSta_firstFrz (k : Nat) (f : Sta → Sta) : (s.updSta k f).firstFrz = s.firstFrz := rfl
@[simp] theorem updSta_unforced (k : Nat) (f : Sta → Sta) : (s.updSta k f).unforced = s.unforced := rfl
@[simp] theorem updSta_tripN (k : Nat) (f : Sta → Sta) : (s.updSta k f).tripN = s.tripN := rfl
@[simp] theorem updSta_tripTime (k : Nat) (f : Sta → Sta) : (s.updSta k f).tripTime = s.tripTime := rfl
@[simp] theorem updSta_squelch (k : Nat) (f : Sta → Sta) : (s.updSta k f).squelch = s.squelch := rfl
@[simp] theorem updSta_phyRst (k : Nat) (f : Sta → Sta) : (s.updSta k f).phyRst = s.phyRst := rfl
@[simp] theorem updSta_refErr (k : Nat) (f : Sta → Sta) : (s.updSta k f).refErr = s.refErr := rfl
@[simp] theorem updSta_boot (k : Nat) (f : Sta → Sta) : (s.updSta k f).boot = s.boot := rfl
@[simp] theorem updSta_otp (k : Nat) (f : Sta → Sta) : (s.updSta k f).otp = s.otp := rfl
@[simp] theorem updSta_pwd (k : Nat) (f : Sta → Sta) : (s.updSta k f).pwd = s.pwd := rfl
@[simp] theorem updSta_logSeq (k : Nat) (f : Sta → Sta) : (s.updSta k f).logSeq = s.logSeq := rfl
@[simp] theorem updSta_chain (k : Nat) (f : Sta → Sta) : (s.updSta k f).chain = s.chain := rfl
@[simp] theorem updSta_loadReport (k : Nat) (f : Sta → Sta) : (s.updSta k f).loadReport = s.loadReport := rfl
@[simp] theorem updSta_forceDropped (k : Nat) (f : Sta → Sta) : (s.updSta k f).forceDropped = s.forceDropped := rfl
@[simp] theorem updSta_eng (k : Nat) (f : Sta → Sta) : (s.updSta k f).eng = s.eng := rfl
@[simp] theorem updSta_flights (k : Nat) (f : Sta → Sta) : (s.updSta k f).flights = s.flights := rfl
@[simp] theorem updSta_tasks (k : Nat) (f : Sta → Sta) : (s.updSta k f).tasks = s.tasks := rfl
@[simp] theorem updSta_snap (k : Nat) (f : Sta → Sta) : (s.updSta k f).snap = s.snap := rfl
@[simp] theorem updSta_sched (k : Nat) (f : Sta → Sta) : (s.updSta k f).sched = s.sched := rfl
@[simp] theorem updSta_deferred (k : Nat) (f : Sta → Sta) : (s.updSta k f).deferred = s.deferred := rfl
@[simp] theorem updSta_sta (k : Nat) (f : Sta → Sta) : (s.updSta k f).sta = tupd {} s.sta k f := rfl
@[simp] theorem updSta_str (k : Nat) (f : Sta → Sta) : (s.updSta k f).str = s.str := rfl
@[simp] theorem updSta_mario (k : Nat) (f : Sta → Sta) : (s.updSta k f).mario = s.mario := rfl
@[simp] theorem updSta_saw (k : Nat) (f : Sta → Sta) : (s.updSta k f).saw = s.saw := rfl
@[simp] theorem updSta_mirr (k : Nat) (f : Sta → Sta) : (s.updSta k f).mirr = s.mirr := rfl
@[simp] theorem updSta_tri (k : Nat) (f : Sta → Sta) : (s.updSta k f).tri = s.tri := rfl
@[simp] theorem updSta_chg (k : Nat) (f : Sta → Sta) : (s.updSta k f).chg = s.chg := rfl
@[simp] theorem updSta_tgRx (k : Nat) (f : Sta → Sta) : (s.updSta k f).tgRx = s.tgRx := rfl
@[simp] theorem updSta_tgSend (k : Nat) (f : Sta → Sta) : (s.updSta k f).tgSend = s.tgSend := rfl
@[simp] theorem updSta_plantA (k : Nat) (f : Sta → Sta) : (s.updSta k f).plantA = s.plantA := rfl
@[simp] theorem updSta_plantB (k : Nat) (f : Sta → Sta) : (s.updSta k f).plantB = s.plantB := rfl
@[simp] theorem updSta_ptp (k : Nat) (f : Sta → Sta) : (s.updSta k f).ptp = s.ptp := rfl
@[simp] theorem updSta_svc (k : Nat) (f : Sta → Sta) : (s.updSta k f).svc = s.svc := rfl
@[simp] theorem updSta_field (k : Nat) (f : Sta → Sta) : (s.updSta k f).field = s.field := rfl
@[simp] theorem updSta_fctl (k : Nat) (f : Sta → Sta) : (s.updSta k f).fctl = s.fctl := rfl
@[simp] theorem updSta_can0 (k : Nat) (f : Sta → Sta) : (s.updSta k f).can0 = s.can0 := rfl
@[simp] theorem updSta_can1 (k : Nat) (f : Sta → Sta) : (s.updSta k f).can1 = s.can1 := rfl
@[simp] theorem updSta_rack (k : Nat) (f : Sta → Sta) : (s.updSta k f).rack = s.rack := rfl
@[simp] theorem updSta_ret (k : Nat) (f : Sta → Sta) : (s.updSta k f).ret = s.ret := rfl
@[simp] theorem updSta_hlth (k : Nat) (f : Sta → Sta) : (s.updSta k f).hlth = s.hlth := rfl
@[simp] theorem updSta_books (k : Nat) (f : Sta → Sta) : (s.updSta k f).books = s.books := rfl
@[simp] theorem updSta_pan (k : Nat) (f : Sta → Sta) : (s.updSta k f).pan = s.pan := rfl
@[simp] theorem updSta_jrnlNext (k : Nat) (f : Sta → Sta) : (s.updSta k f).jrnlNext = s.jrnlNext := rfl

@[simp] theorem updStr_pending (k : Nat) (f : StrS → StrS) : (s.updStr k f).pending = s.pending := rfl
@[simp] theorem updStr_tx (k : Nat) (f : StrS → StrS) : (s.updStr k f).tx = s.tx := rfl
@[simp] theorem updStr_rdata (k : Nat) (f : StrS → StrS) : (s.updStr k f).rdata = s.rdata := rfl
@[simp] theorem updStr_rbytes (k : Nat) (f : StrS → StrS) : (s.updStr k f).rbytes = s.rbytes := rfl
@[simp] theorem updStr_free (k : Nat) (f : StrS → StrS) : (s.updStr k f).free = s.free := rfl
@[simp] theorem updStr_ns (k : Nat) (f : StrS → StrS) : (s.updStr k f).ns = s.ns := rfl
@[simp] theorem updStr_wrap (k : Nat) (f : StrS → StrS) : (s.updStr k f).wrap = s.wrap := rfl
@[simp] theorem updStr_acc (k : Nat) (f : StrS → StrS) : (s.updStr k f).acc = s.acc := rfl
@[simp] theorem updStr_phase (k : Nat) (f : StrS → StrS) : (s.updStr k f).phase = s.phase := rfl
@[simp] theorem updStr_tlen (k : Nat) (f : StrS → StrS) : (s.updStr k f).tlen = s.tlen := rfl
@[simp] theorem updStr_tick (k : Nat) (f : StrS → StrS) : (s.updStr k f).tick = s.tick := rfl
@[simp] theorem updStr_tstart (k : Nat) (f : StrS → StrS) : (s.updStr k f).tstart = s.tstart := rfl
@[simp] theorem updStr_regs (k : Nat) (f : StrS → StrS) : (s.updStr k f).regs = s.regs := rfl
@[simp] theorem updStr_mem (k : Nat) (f : StrS → StrS) : (s.updStr k f).mem = s.mem := rfl
@[simp] theorem updStr_dirty (k : Nat) (f : StrS → StrS) : (s.updStr k f).dirty = s.dirty := rfl
@[simp] theorem updStr_eccBad (k : Nat) (f : StrS → StrS) : (s.updStr k f).eccBad = s.eccBad := rfl
@[simp] theorem updStr_eccSeen (k : Nat) (f : StrS → StrS) : (s.updStr k f).eccSeen = s.eccSeen := rfl
@[simp] theorem updStr_tagRuns (k : Nat) (f : StrS → StrS) : (s.updStr k f).tagRuns = s.tagRuns := rfl
@[simp] theorem updStr_tagBad (k : Nat) (f : StrS → StrS) : (s.updStr k f).tagBad = s.tagBad := rfl
@[simp] theorem updStr_viol (k : Nat) (f : StrS → StrS) : (s.updStr k f).viol = s.viol := rfl
@[simp] theorem updStr_nor (k : Nat) (f : StrS → StrS) : (s.updStr k f).nor = s.nor := rfl
@[simp] theorem updStr_mram (k : Nat) (f : StrS → StrS) : (s.updStr k f).mram = s.mram := rfl
@[simp] theorem updStr_dev (k : Nat) (f : StrS → StrS) : (s.updStr k f).dev = s.dev := rfl
@[simp] theorem updStr_last (k : Nat) (f : StrS → StrS) : (s.updStr k f).last = s.last := rfl
@[simp] theorem updStr_due (k : Nat) (f : StrS → StrS) : (s.updStr k f).due = s.due := rfl
@[simp] theorem updStr_transTick (k : Nat) (f : StrS → StrS) : (s.updStr k f).transTick = s.transTick := rfl
@[simp] theorem updStr_since (k : Nat) (f : StrS → StrS) : (s.updStr k f).since = s.since := rfl
@[simp] theorem updStr_addrOk (k : Nat) (f : StrS → StrS) : (s.updStr k f).addrOk = s.addrOk := rfl
@[simp] theorem updStr_svcMode (k : Nat) (f : StrS → StrS) : (s.updStr k f).svcMode = s.svcMode := rfl
@[simp] theorem updStr_img (k : Nat) (f : StrS → StrS) : (s.updStr k f).img = s.img := rfl
@[simp] theorem updStr_firstFrz (k : Nat) (f : StrS → StrS) : (s.updStr k f).firstFrz = s.firstFrz := rfl
@[simp] theorem updStr_unforced (k : Nat) (f : StrS → StrS) : (s.updStr k f).unforced = s.unforced := rfl
@[simp] theorem updStr_tripN (k : Nat) (f : StrS → StrS) : (s.updStr k f).tripN = s.tripN := rfl
@[simp] theorem updStr_tripTime (k : Nat) (f : StrS → StrS) : (s.updStr k f).tripTime = s.tripTime := rfl
@[simp] theorem updStr_squelch (k : Nat) (f : StrS → StrS) : (s.updStr k f).squelch = s.squelch := rfl
@[simp] theorem updStr_phyRst (k : Nat) (f : StrS → StrS) : (s.updStr k f).phyRst = s.phyRst := rfl
@[simp] theorem updStr_refErr (k : Nat) (f : StrS → StrS) : (s.updStr k f).refErr = s.refErr := rfl
@[simp] theorem updStr_boot (k : Nat) (f : StrS → StrS) : (s.updStr k f).boot = s.boot := rfl
@[simp] theorem updStr_otp (k : Nat) (f : StrS → StrS) : (s.updStr k f).otp = s.otp := rfl
@[simp] theorem updStr_pwd (k : Nat) (f : StrS → StrS) : (s.updStr k f).pwd = s.pwd := rfl
@[simp] theorem updStr_logSeq (k : Nat) (f : StrS → StrS) : (s.updStr k f).logSeq = s.logSeq := rfl
@[simp] theorem updStr_chain (k : Nat) (f : StrS → StrS) : (s.updStr k f).chain = s.chain := rfl
@[simp] theorem updStr_loadReport (k : Nat) (f : StrS → StrS) : (s.updStr k f).loadReport = s.loadReport := rfl
@[simp] theorem updStr_forceDropped (k : Nat) (f : StrS → StrS) : (s.updStr k f).forceDropped = s.forceDropped := rfl
@[simp] theorem updStr_eng (k : Nat) (f : StrS → StrS) : (s.updStr k f).eng = s.eng := rfl
@[simp] theorem updStr_flights (k : Nat) (f : StrS → StrS) : (s.updStr k f).flights = s.flights := rfl
@[simp] theorem updStr_tasks (k : Nat) (f : StrS → StrS) : (s.updStr k f).tasks = s.tasks := rfl
@[simp] theorem updStr_snap (k : Nat) (f : StrS → StrS) : (s.updStr k f).snap = s.snap := rfl
@[simp] theorem updStr_sched (k : Nat) (f : StrS → StrS) : (s.updStr k f).sched = s.sched := rfl
@[simp] theorem updStr_deferred (k : Nat) (f : StrS → StrS) : (s.updStr k f).deferred = s.deferred := rfl
@[simp] theorem updStr_sta (k : Nat) (f : StrS → StrS) : (s.updStr k f).sta = s.sta := rfl
@[simp] theorem updStr_str (k : Nat) (f : StrS → StrS) : (s.updStr k f).str = tupd {} s.str k f := rfl
@[simp] theorem updStr_mario (k : Nat) (f : StrS → StrS) : (s.updStr k f).mario = s.mario := rfl
@[simp] theorem updStr_saw (k : Nat) (f : StrS → StrS) : (s.updStr k f).saw = s.saw := rfl
@[simp] theorem updStr_mirr (k : Nat) (f : StrS → StrS) : (s.updStr k f).mirr = s.mirr := rfl
@[simp] theorem updStr_tri (k : Nat) (f : StrS → StrS) : (s.updStr k f).tri = s.tri := rfl
@[simp] theorem updStr_chg (k : Nat) (f : StrS → StrS) : (s.updStr k f).chg = s.chg := rfl
@[simp] theorem updStr_tgRx (k : Nat) (f : StrS → StrS) : (s.updStr k f).tgRx = s.tgRx := rfl
@[simp] theorem updStr_tgSend (k : Nat) (f : StrS → StrS) : (s.updStr k f).tgSend = s.tgSend := rfl
@[simp] theorem updStr_plantA (k : Nat) (f : StrS → StrS) : (s.updStr k f).plantA = s.plantA := rfl
@[simp] theorem updStr_plantB (k : Nat) (f : StrS → StrS) : (s.updStr k f).plantB = s.plantB := rfl
@[simp] theorem updStr_ptp (k : Nat) (f : StrS → StrS) : (s.updStr k f).ptp = s.ptp := rfl
@[simp] theorem updStr_svc (k : Nat) (f : StrS → StrS) : (s.updStr k f).svc = s.svc := rfl
@[simp] theorem updStr_field (k : Nat) (f : StrS → StrS) : (s.updStr k f).field = s.field := rfl
@[simp] theorem updStr_fctl (k : Nat) (f : StrS → StrS) : (s.updStr k f).fctl = s.fctl := rfl
@[simp] theorem updStr_can0 (k : Nat) (f : StrS → StrS) : (s.updStr k f).can0 = s.can0 := rfl
@[simp] theorem updStr_can1 (k : Nat) (f : StrS → StrS) : (s.updStr k f).can1 = s.can1 := rfl
@[simp] theorem updStr_rack (k : Nat) (f : StrS → StrS) : (s.updStr k f).rack = s.rack := rfl
@[simp] theorem updStr_ret (k : Nat) (f : StrS → StrS) : (s.updStr k f).ret = s.ret := rfl
@[simp] theorem updStr_hlth (k : Nat) (f : StrS → StrS) : (s.updStr k f).hlth = s.hlth := rfl
@[simp] theorem updStr_books (k : Nat) (f : StrS → StrS) : (s.updStr k f).books = s.books := rfl
@[simp] theorem updStr_pan (k : Nat) (f : StrS → StrS) : (s.updStr k f).pan = s.pan := rfl
@[simp] theorem updStr_jrnlNext (k : Nat) (f : StrS → StrS) : (s.updStr k f).jrnlNext = s.jrnlNext := rfl

@[simp] theorem updMario_pending (k : Nat) (f : Mario → Mario) : (s.updMario k f).pending = s.pending := rfl
@[simp] theorem updMario_tx (k : Nat) (f : Mario → Mario) : (s.updMario k f).tx = s.tx := rfl
@[simp] theorem updMario_rdata (k : Nat) (f : Mario → Mario) : (s.updMario k f).rdata = s.rdata := rfl
@[simp] theorem updMario_rbytes (k : Nat) (f : Mario → Mario) : (s.updMario k f).rbytes = s.rbytes := rfl
@[simp] theorem updMario_free (k : Nat) (f : Mario → Mario) : (s.updMario k f).free = s.free := rfl
@[simp] theorem updMario_ns (k : Nat) (f : Mario → Mario) : (s.updMario k f).ns = s.ns := rfl
@[simp] theorem updMario_wrap (k : Nat) (f : Mario → Mario) : (s.updMario k f).wrap = s.wrap := rfl
@[simp] theorem updMario_acc (k : Nat) (f : Mario → Mario) : (s.updMario k f).acc = s.acc := rfl
@[simp] theorem updMario_phase (k : Nat) (f : Mario → Mario) : (s.updMario k f).phase = s.phase := rfl
@[simp] theorem updMario_tlen (k : Nat) (f : Mario → Mario) : (s.updMario k f).tlen = s.tlen := rfl
@[simp] theorem updMario_tick (k : Nat) (f : Mario → Mario) : (s.updMario k f).tick = s.tick := rfl
@[simp] theorem updMario_tstart (k : Nat) (f : Mario → Mario) : (s.updMario k f).tstart = s.tstart := rfl
@[simp] theorem updMario_regs (k : Nat) (f : Mario → Mario) : (s.updMario k f).regs = s.regs := rfl
@[simp] theorem updMario_mem (k : Nat) (f : Mario → Mario) : (s.updMario k f).mem = s.mem := rfl
@[simp] theorem updMario_dirty (k : Nat) (f : Mario → Mario) : (s.updMario k f).dirty = s.dirty := rfl
@[simp] theorem updMario_eccBad (k : Nat) (f : Mario → Mario) : (s.updMario k f).eccBad = s.eccBad := rfl
@[simp] theorem updMario_eccSeen (k : Nat) (f : Mario → Mario) : (s.updMario k f).eccSeen = s.eccSeen := rfl
@[simp] theorem updMario_tagRuns (k : Nat) (f : Mario → Mario) : (s.updMario k f).tagRuns = s.tagRuns := rfl
@[simp] theorem updMario_tagBad (k : Nat) (f : Mario → Mario) : (s.updMario k f).tagBad = s.tagBad := rfl
@[simp] theorem updMario_viol (k : Nat) (f : Mario → Mario) : (s.updMario k f).viol = s.viol := rfl
@[simp] theorem updMario_nor (k : Nat) (f : Mario → Mario) : (s.updMario k f).nor = s.nor := rfl
@[simp] theorem updMario_mram (k : Nat) (f : Mario → Mario) : (s.updMario k f).mram = s.mram := rfl
@[simp] theorem updMario_dev (k : Nat) (f : Mario → Mario) : (s.updMario k f).dev = s.dev := rfl
@[simp] theorem updMario_last (k : Nat) (f : Mario → Mario) : (s.updMario k f).last = s.last := rfl
@[simp] theorem updMario_due (k : Nat) (f : Mario → Mario) : (s.updMario k f).due = s.due := rfl
@[simp] theorem updMario_transTick (k : Nat) (f : Mario → Mario) : (s.updMario k f).transTick = s.transTick := rfl
@[simp] theorem updMario_since (k : Nat) (f : Mario → Mario) : (s.updMario k f).since = s.since := rfl
@[simp] theorem updMario_addrOk (k : Nat) (f : Mario → Mario) : (s.updMario k f).addrOk = s.addrOk := rfl
@[simp] theorem updMario_svcMode (k : Nat) (f : Mario → Mario) : (s.updMario k f).svcMode = s.svcMode := rfl
@[simp] theorem updMario_img (k : Nat) (f : Mario → Mario) : (s.updMario k f).img = s.img := rfl
@[simp] theorem updMario_firstFrz (k : Nat) (f : Mario → Mario) : (s.updMario k f).firstFrz = s.firstFrz := rfl
@[simp] theorem updMario_unforced (k : Nat) (f : Mario → Mario) : (s.updMario k f).unforced = s.unforced := rfl
@[simp] theorem updMario_tripN (k : Nat) (f : Mario → Mario) : (s.updMario k f).tripN = s.tripN := rfl
@[simp] theorem updMario_tripTime (k : Nat) (f : Mario → Mario) : (s.updMario k f).tripTime = s.tripTime := rfl
@[simp] theorem updMario_squelch (k : Nat) (f : Mario → Mario) : (s.updMario k f).squelch = s.squelch := rfl
@[simp] theorem updMario_phyRst (k : Nat) (f : Mario → Mario) : (s.updMario k f).phyRst = s.phyRst := rfl
@[simp] theorem updMario_refErr (k : Nat) (f : Mario → Mario) : (s.updMario k f).refErr = s.refErr := rfl
@[simp] theorem updMario_boot (k : Nat) (f : Mario → Mario) : (s.updMario k f).boot = s.boot := rfl
@[simp] theorem updMario_otp (k : Nat) (f : Mario → Mario) : (s.updMario k f).otp = s.otp := rfl
@[simp] theorem updMario_pwd (k : Nat) (f : Mario → Mario) : (s.updMario k f).pwd = s.pwd := rfl
@[simp] theorem updMario_logSeq (k : Nat) (f : Mario → Mario) : (s.updMario k f).logSeq = s.logSeq := rfl
@[simp] theorem updMario_chain (k : Nat) (f : Mario → Mario) : (s.updMario k f).chain = s.chain := rfl
@[simp] theorem updMario_loadReport (k : Nat) (f : Mario → Mario) : (s.updMario k f).loadReport = s.loadReport := rfl
@[simp] theorem updMario_forceDropped (k : Nat) (f : Mario → Mario) : (s.updMario k f).forceDropped = s.forceDropped := rfl
@[simp] theorem updMario_eng (k : Nat) (f : Mario → Mario) : (s.updMario k f).eng = s.eng := rfl
@[simp] theorem updMario_flights (k : Nat) (f : Mario → Mario) : (s.updMario k f).flights = s.flights := rfl
@[simp] theorem updMario_tasks (k : Nat) (f : Mario → Mario) : (s.updMario k f).tasks = s.tasks := rfl
@[simp] theorem updMario_snap (k : Nat) (f : Mario → Mario) : (s.updMario k f).snap = s.snap := rfl
@[simp] theorem updMario_sched (k : Nat) (f : Mario → Mario) : (s.updMario k f).sched = s.sched := rfl
@[simp] theorem updMario_deferred (k : Nat) (f : Mario → Mario) : (s.updMario k f).deferred = s.deferred := rfl
@[simp] theorem updMario_sta (k : Nat) (f : Mario → Mario) : (s.updMario k f).sta = s.sta := rfl
@[simp] theorem updMario_str (k : Nat) (f : Mario → Mario) : (s.updMario k f).str = s.str := rfl
@[simp] theorem updMario_mario (k : Nat) (f : Mario → Mario) : (s.updMario k f).mario = tupd {} s.mario k f := rfl
@[simp] theorem updMario_saw (k : Nat) (f : Mario → Mario) : (s.updMario k f).saw = s.saw := rfl
@[simp] theorem updMario_mirr (k : Nat) (f : Mario → Mario) : (s.updMario k f).mirr = s.mirr := rfl
@[simp] theorem updMario_tri (k : Nat) (f : Mario → Mario) : (s.updMario k f).tri = s.tri := rfl
@[simp] theorem updMario_chg (k : Nat) (f : Mario → Mario) : (s.updMario k f).chg = s.chg := rfl
@[simp] theorem updMario_tgRx (k : Nat) (f : Mario → Mario) : (s.updMario k f).tgRx = s.tgRx := rfl
@[simp] theorem updMario_tgSend (k : Nat) (f : Mario → Mario) : (s.updMario k f).tgSend = s.tgSend := rfl
@[simp] theorem updMario_plantA (k : Nat) (f : Mario → Mario) : (s.updMario k f).plantA = s.plantA := rfl
@[simp] theorem updMario_plantB (k : Nat) (f : Mario → Mario) : (s.updMario k f).plantB = s.plantB := rfl
@[simp] theorem updMario_ptp (k : Nat) (f : Mario → Mario) : (s.updMario k f).ptp = s.ptp := rfl
@[simp] theorem updMario_svc (k : Nat) (f : Mario → Mario) : (s.updMario k f).svc = s.svc := rfl
@[simp] theorem updMario_field (k : Nat) (f : Mario → Mario) : (s.updMario k f).field = s.field := rfl
@[simp] theorem updMario_fctl (k : Nat) (f : Mario → Mario) : (s.updMario k f).fctl = s.fctl := rfl
@[simp] theorem updMario_can0 (k : Nat) (f : Mario → Mario) : (s.updMario k f).can0 = s.can0 := rfl
@[simp] theorem updMario_can1 (k : Nat) (f : Mario → Mario) : (s.updMario k f).can1 = s.can1 := rfl
@[simp] theorem updMario_rack (k : Nat) (f : Mario → Mario) : (s.updMario k f).rack = s.rack := rfl
@[simp] theorem updMario_ret (k : Nat) (f : Mario → Mario) : (s.updMario k f).ret = s.ret := rfl
@[simp] theorem updMario_hlth (k : Nat) (f : Mario → Mario) : (s.updMario k f).hlth = s.hlth := rfl
@[simp] theorem updMario_books (k : Nat) (f : Mario → Mario) : (s.updMario k f).books = s.books := rfl
@[simp] theorem updMario_pan (k : Nat) (f : Mario → Mario) : (s.updMario k f).pan = s.pan := rfl
@[simp] theorem updMario_jrnlNext (k : Nat) (f : Mario → Mario) : (s.updMario k f).jrnlNext = s.jrnlNext := rfl

@[simp] theorem updEng_pending (k : Nat) (f : Engine → Engine) : (s.updEng k f).pending = s.pending := rfl
@[simp] theorem updEng_tx (k : Nat) (f : Engine → Engine) : (s.updEng k f).tx = s.tx := rfl
@[simp] theorem updEng_rdata (k : Nat) (f : Engine → Engine) : (s.updEng k f).rdata = s.rdata := rfl
@[simp] theorem updEng_rbytes (k : Nat) (f : Engine → Engine) : (s.updEng k f).rbytes = s.rbytes := rfl
@[simp] theorem updEng_free (k : Nat) (f : Engine → Engine) : (s.updEng k f).free = s.free := rfl
@[simp] theorem updEng_ns (k : Nat) (f : Engine → Engine) : (s.updEng k f).ns = s.ns := rfl
@[simp] theorem updEng_wrap (k : Nat) (f : Engine → Engine) : (s.updEng k f).wrap = s.wrap := rfl
@[simp] theorem updEng_acc (k : Nat) (f : Engine → Engine) : (s.updEng k f).acc = s.acc := rfl
@[simp] theorem updEng_phase (k : Nat) (f : Engine → Engine) : (s.updEng k f).phase = s.phase := rfl
@[simp] theorem updEng_tlen (k : Nat) (f : Engine → Engine) : (s.updEng k f).tlen = s.tlen := rfl
@[simp] theorem updEng_tick (k : Nat) (f : Engine → Engine) : (s.updEng k f).tick = s.tick := rfl
@[simp] theorem updEng_tstart (k : Nat) (f : Engine → Engine) : (s.updEng k f).tstart = s.tstart := rfl
@[simp] theorem updEng_regs (k : Nat) (f : Engine → Engine) : (s.updEng k f).regs = s.regs := rfl
@[simp] theorem updEng_mem (k : Nat) (f : Engine → Engine) : (s.updEng k f).mem = s.mem := rfl
@[simp] theorem updEng_dirty (k : Nat) (f : Engine → Engine) : (s.updEng k f).dirty = s.dirty := rfl
@[simp] theorem updEng_eccBad (k : Nat) (f : Engine → Engine) : (s.updEng k f).eccBad = s.eccBad := rfl
@[simp] theorem updEng_eccSeen (k : Nat) (f : Engine → Engine) : (s.updEng k f).eccSeen = s.eccSeen := rfl
@[simp] theorem updEng_tagRuns (k : Nat) (f : Engine → Engine) : (s.updEng k f).tagRuns = s.tagRuns := rfl
@[simp] theorem updEng_tagBad (k : Nat) (f : Engine → Engine) : (s.updEng k f).tagBad = s.tagBad := rfl
@[simp] theorem updEng_viol (k : Nat) (f : Engine → Engine) : (s.updEng k f).viol = s.viol := rfl
@[simp] theorem updEng_nor (k : Nat) (f : Engine → Engine) : (s.updEng k f).nor = s.nor := rfl
@[simp] theorem updEng_mram (k : Nat) (f : Engine → Engine) : (s.updEng k f).mram = s.mram := rfl
@[simp] theorem updEng_dev (k : Nat) (f : Engine → Engine) : (s.updEng k f).dev = s.dev := rfl
@[simp] theorem updEng_last (k : Nat) (f : Engine → Engine) : (s.updEng k f).last = s.last := rfl
@[simp] theorem updEng_due (k : Nat) (f : Engine → Engine) : (s.updEng k f).due = s.due := rfl
@[simp] theorem updEng_transTick (k : Nat) (f : Engine → Engine) : (s.updEng k f).transTick = s.transTick := rfl
@[simp] theorem updEng_since (k : Nat) (f : Engine → Engine) : (s.updEng k f).since = s.since := rfl
@[simp] theorem updEng_addrOk (k : Nat) (f : Engine → Engine) : (s.updEng k f).addrOk = s.addrOk := rfl
@[simp] theorem updEng_svcMode (k : Nat) (f : Engine → Engine) : (s.updEng k f).svcMode = s.svcMode := rfl
@[simp] theorem updEng_img (k : Nat) (f : Engine → Engine) : (s.updEng k f).img = s.img := rfl
@[simp] theorem updEng_firstFrz (k : Nat) (f : Engine → Engine) : (s.updEng k f).firstFrz = s.firstFrz := rfl
@[simp] theorem updEng_unforced (k : Nat) (f : Engine → Engine) : (s.updEng k f).unforced = s.unforced := rfl
@[simp] theorem updEng_tripN (k : Nat) (f : Engine → Engine) : (s.updEng k f).tripN = s.tripN := rfl
@[simp] theorem updEng_tripTime (k : Nat) (f : Engine → Engine) : (s.updEng k f).tripTime = s.tripTime := rfl
@[simp] theorem updEng_squelch (k : Nat) (f : Engine → Engine) : (s.updEng k f).squelch = s.squelch := rfl
@[simp] theorem updEng_phyRst (k : Nat) (f : Engine → Engine) : (s.updEng k f).phyRst = s.phyRst := rfl
@[simp] theorem updEng_refErr (k : Nat) (f : Engine → Engine) : (s.updEng k f).refErr = s.refErr := rfl
@[simp] theorem updEng_boot (k : Nat) (f : Engine → Engine) : (s.updEng k f).boot = s.boot := rfl
@[simp] theorem updEng_otp (k : Nat) (f : Engine → Engine) : (s.updEng k f).otp = s.otp := rfl
@[simp] theorem updEng_pwd (k : Nat) (f : Engine → Engine) : (s.updEng k f).pwd = s.pwd := rfl
@[simp] theorem updEng_logSeq (k : Nat) (f : Engine → Engine) : (s.updEng k f).logSeq = s.logSeq := rfl
@[simp] theorem updEng_chain (k : Nat) (f : Engine → Engine) : (s.updEng k f).chain = s.chain := rfl
@[simp] theorem updEng_loadReport (k : Nat) (f : Engine → Engine) : (s.updEng k f).loadReport = s.loadReport := rfl
@[simp] theorem updEng_forceDropped (k : Nat) (f : Engine → Engine) : (s.updEng k f).forceDropped = s.forceDropped := rfl
@[simp] theorem updEng_eng (k : Nat) (f : Engine → Engine) : (s.updEng k f).eng = tupd {} s.eng k f := rfl
@[simp] theorem updEng_flights (k : Nat) (f : Engine → Engine) : (s.updEng k f).flights = s.flights := rfl
@[simp] theorem updEng_tasks (k : Nat) (f : Engine → Engine) : (s.updEng k f).tasks = s.tasks := rfl
@[simp] theorem updEng_snap (k : Nat) (f : Engine → Engine) : (s.updEng k f).snap = s.snap := rfl
@[simp] theorem updEng_sched (k : Nat) (f : Engine → Engine) : (s.updEng k f).sched = s.sched := rfl
@[simp] theorem updEng_deferred (k : Nat) (f : Engine → Engine) : (s.updEng k f).deferred = s.deferred := rfl
@[simp] theorem updEng_sta (k : Nat) (f : Engine → Engine) : (s.updEng k f).sta = s.sta := rfl
@[simp] theorem updEng_str (k : Nat) (f : Engine → Engine) : (s.updEng k f).str = s.str := rfl
@[simp] theorem updEng_mario (k : Nat) (f : Engine → Engine) : (s.updEng k f).mario = s.mario := rfl
@[simp] theorem updEng_saw (k : Nat) (f : Engine → Engine) : (s.updEng k f).saw = s.saw := rfl
@[simp] theorem updEng_mirr (k : Nat) (f : Engine → Engine) : (s.updEng k f).mirr = s.mirr := rfl
@[simp] theorem updEng_tri (k : Nat) (f : Engine → Engine) : (s.updEng k f).tri = s.tri := rfl
@[simp] theorem updEng_chg (k : Nat) (f : Engine → Engine) : (s.updEng k f).chg = s.chg := rfl
@[simp] theorem updEng_tgRx (k : Nat) (f : Engine → Engine) : (s.updEng k f).tgRx = s.tgRx := rfl
@[simp] theorem updEng_tgSend (k : Nat) (f : Engine → Engine) : (s.updEng k f).tgSend = s.tgSend := rfl
@[simp] theorem updEng_plantA (k : Nat) (f : Engine → Engine) : (s.updEng k f).plantA = s.plantA := rfl
@[simp] theorem updEng_plantB (k : Nat) (f : Engine → Engine) : (s.updEng k f).plantB = s.plantB := rfl
@[simp] theorem updEng_ptp (k : Nat) (f : Engine → Engine) : (s.updEng k f).ptp = s.ptp := rfl
@[simp] theorem updEng_svc (k : Nat) (f : Engine → Engine) : (s.updEng k f).svc = s.svc := rfl
@[simp] theorem updEng_field (k : Nat) (f : Engine → Engine) : (s.updEng k f).field = s.field := rfl
@[simp] theorem updEng_fctl (k : Nat) (f : Engine → Engine) : (s.updEng k f).fctl = s.fctl := rfl
@[simp] theorem updEng_can0 (k : Nat) (f : Engine → Engine) : (s.updEng k f).can0 = s.can0 := rfl
@[simp] theorem updEng_can1 (k : Nat) (f : Engine → Engine) : (s.updEng k f).can1 = s.can1 := rfl
@[simp] theorem updEng_rack (k : Nat) (f : Engine → Engine) : (s.updEng k f).rack = s.rack := rfl
@[simp] theorem updEng_ret (k : Nat) (f : Engine → Engine) : (s.updEng k f).ret = s.ret := rfl
@[simp] theorem updEng_hlth (k : Nat) (f : Engine → Engine) : (s.updEng k f).hlth = s.hlth := rfl
@[simp] theorem updEng_books (k : Nat) (f : Engine → Engine) : (s.updEng k f).books = s.books := rfl
@[simp] theorem updEng_pan (k : Nat) (f : Engine → Engine) : (s.updEng k f).pan = s.pan := rfl
@[simp] theorem updEng_jrnlNext (k : Nat) (f : Engine → Engine) : (s.updEng k f).jrnlNext = s.jrnlNext := rfl

theorem wf_eq (f : Fld) (v : Nat) : s.wf f v = s.setReg f.addr (putBits (s.reg f.addr) f.lo f.wid v) := rfl
theorem wfb_eq (f : Fld) (b : Bool) : s.wfb f b = s.wf f (b2n b) := rfl
theorem inc_eq (f : Fld) (n : Nat) : s.inc f n = s.wf f (satAdd f.wid (s.rf f) n) := rfl

@[simp] theorem wf_pending (f : Fld) (v : Nat) : (s.wf f v).pending = s.pending := rfl
@[simp] theorem wf_tx (f : Fld) (v : Nat) : (s.wf f v).tx = s.tx := rfl
@[simp] theorem wf_rdata (f : Fld) (v : Nat) : (s.wf f v).rdata = s.rdata := rfl
@[simp] theorem wf_rbytes (f : Fld) (v : Nat) : (s.wf f v).rbytes = s.rbytes := rfl
@[simp] theorem wf_free (f : Fld) (v : Nat) : (s.wf f v).free = s.free := rfl
@[simp] theorem wf_ns (f : Fld) (v : Nat) : (s.wf f v).ns = s.ns := rfl
@[simp] theorem wf_wrap (f : Fld) (v : Nat) : (s.wf f v).wrap = s.wrap := rfl
@[simp] theorem wf_acc (f : Fld) (v : Nat) : (s.wf f v).acc = s.acc := rfl
@[simp] theorem wf_phase (f : Fld) (v : Nat) : (s.wf f v).phase = s.phase := rfl
@[simp] theorem wf_tlen (f : Fld) (v : Nat) : (s.wf f v).tlen = s.tlen := rfl
@[simp] theorem wf_tick (f : Fld) (v : Nat) : (s.wf f v).tick = s.tick := rfl
@[simp] theorem wf_tstart (f : Fld) (v : Nat) : (s.wf f v).tstart = s.tstart := rfl
@[simp] theorem wf_mem (f : Fld) (v : Nat) : (s.wf f v).mem = s.mem := rfl
@[simp] theorem wf_dirty (f : Fld) (v : Nat) : (s.wf f v).dirty = s.dirty := rfl
@[simp] theorem wf_eccBad (f : Fld) (v : Nat) : (s.wf f v).eccBad = s.eccBad := rfl
@[simp] theorem wf_eccSeen (f : Fld) (v : Nat) : (s.wf f v).eccSeen = s.eccSeen := rfl
@[simp] theorem wf_tagRuns (f : Fld) (v : Nat) : (s.wf f v).tagRuns = s.tagRuns := rfl
@[simp] theorem wf_tagBad (f : Fld) (v : Nat) : (s.wf f v).tagBad = s.tagBad := rfl
@[simp] theorem wf_viol (f : Fld) (v : Nat) : (s.wf f v).viol = s.viol := rfl
@[simp] theorem wf_nor (f : Fld) (v : Nat) : (s.wf f v).nor = s.nor := rfl
@[simp] theorem wf_mram (f : Fld) (v : Nat) : (s.wf f v).mram = s.mram := rfl
@[simp] theorem wf_dev (f : Fld) (v : Nat) : (s.wf f v).dev = s.dev := rfl
@[simp] theorem wf_last (f : Fld) (v : Nat) : (s.wf f v).last = s.last := rfl
@[simp] theorem wf_due (f : Fld) (v : Nat) : (s.wf f v).due = s.due := rfl
@[simp] theorem wf_transTick (f : Fld) (v : Nat) : (s.wf f v).transTick = s.transTick := rfl
@[simp] theorem wf_since (f : Fld) (v : Nat) : (s.wf f v).since = s.since := rfl
@[simp] theorem wf_addrOk (f : Fld) (v : Nat) : (s.wf f v).addrOk = s.addrOk := rfl
@[simp] theorem wf_svcMode (f : Fld) (v : Nat) : (s.wf f v).svcMode = s.svcMode := rfl
@[simp] theorem wf_img (f : Fld) (v : Nat) : (s.wf f v).img = s.img := rfl
@[simp] theorem wf_firstFrz (f : Fld) (v : Nat) : (s.wf f v).firstFrz = s.firstFrz := rfl
@[simp] theorem wf_unforced (f : Fld) (v : Nat) : (s.wf f v).unforced = s.unforced := rfl
@[simp] theorem wf_tripN (f : Fld) (v : Nat) : (s.wf f v).tripN = s.tripN := rfl
@[simp] theorem wf_tripTime (f : Fld) (v : Nat) : (s.wf f v).tripTime = s.tripTime := rfl
@[simp] theorem wf_squelch (f : Fld) (v : Nat) : (s.wf f v).squelch = s.squelch := rfl
@[simp] theorem wf_phyRst (f : Fld) (v : Nat) : (s.wf f v).phyRst = s.phyRst := rfl
@[simp] theorem wf_refErr (f : Fld) (v : Nat) : (s.wf f v).refErr = s.refErr := rfl
@[simp] theorem wf_boot (f : Fld) (v : Nat) : (s.wf f v).boot = s.boot := rfl
@[simp] theorem wf_otp (f : Fld) (v : Nat) : (s.wf f v).otp = s.otp := rfl
@[simp] theorem wf_pwd (f : Fld) (v : Nat) : (s.wf f v).pwd = s.pwd := rfl
@[simp] theorem wf_logSeq (f : Fld) (v : Nat) : (s.wf f v).logSeq = s.logSeq := rfl
@[simp] theorem wf_chain (f : Fld) (v : Nat) : (s.wf f v).chain = s.chain := rfl
@[simp] theorem wf_loadReport (f : Fld) (v : Nat) : (s.wf f v).loadReport = s.loadReport := rfl
@[simp] theorem wf_forceDropped (f : Fld) (v : Nat) : (s.wf f v).forceDropped = s.forceDropped := rfl
@[simp] theorem wf_eng (f : Fld) (v : Nat) : (s.wf f v).eng = s.eng := rfl
@[simp] theorem wf_flights (f : Fld) (v : Nat) : (s.wf f v).flights = s.flights := rfl
@[simp] theorem wf_tasks (f : Fld) (v : Nat) : (s.wf f v).tasks = s.tasks := rfl
@[simp] theorem wf_snap (f : Fld) (v : Nat) : (s.wf f v).snap = s.snap := rfl
@[simp] theorem wf_sched (f : Fld) (v : Nat) : (s.wf f v).sched = s.sched := rfl
@[simp] theorem wf_deferred (f : Fld) (v : Nat) : (s.wf f v).deferred = s.deferred := rfl
@[simp] theorem wf_sta (f : Fld) (v : Nat) : (s.wf f v).sta = s.sta := rfl
@[simp] theorem wf_str (f : Fld) (v : Nat) : (s.wf f v).str = s.str := rfl
@[simp] theorem wf_mario (f : Fld) (v : Nat) : (s.wf f v).mario = s.mario := rfl
@[simp] theorem wf_saw (f : Fld) (v : Nat) : (s.wf f v).saw = s.saw := rfl
@[simp] theorem wf_mirr (f : Fld) (v : Nat) : (s.wf f v).mirr = s.mirr := rfl
@[simp] theorem wf_tri (f : Fld) (v : Nat) : (s.wf f v).tri = s.tri := rfl
@[simp] theorem wf_chg (f : Fld) (v : Nat) : (s.wf f v).chg = s.chg := rfl
@[simp] theorem wf_tgRx (f : Fld) (v : Nat) : (s.wf f v).tgRx = s.tgRx := rfl
@[simp] theorem wf_tgSend (f : Fld) (v : Nat) : (s.wf f v).tgSend = s.tgSend := rfl
@[simp] theorem wf_plantA (f : Fld) (v : Nat) : (s.wf f v).plantA = s.plantA := rfl
@[simp] theorem wf_plantB (f : Fld) (v : Nat) : (s.wf f v).plantB = s.plantB := rfl
@[simp] theorem wf_ptp (f : Fld) (v : Nat) : (s.wf f v).ptp = s.ptp := rfl
@[simp] theorem wf_svc (f : Fld) (v : Nat) : (s.wf f v).svc = s.svc := rfl
@[simp] theorem wf_field (f : Fld) (v : Nat) : (s.wf f v).field = s.field := rfl
@[simp] theorem wf_fctl (f : Fld) (v : Nat) : (s.wf f v).fctl = s.fctl := rfl
@[simp] theorem wf_can0 (f : Fld) (v : Nat) : (s.wf f v).can0 = s.can0 := rfl
@[simp] theorem wf_can1 (f : Fld) (v : Nat) : (s.wf f v).can1 = s.can1 := rfl
@[simp] theorem wf_rack (f : Fld) (v : Nat) : (s.wf f v).rack = s.rack := rfl
@[simp] theorem wf_ret (f : Fld) (v : Nat) : (s.wf f v).ret = s.ret := rfl
@[simp] theorem wf_hlth (f : Fld) (v : Nat) : (s.wf f v).hlth = s.hlth := rfl
@[simp] theorem wf_books (f : Fld) (v : Nat) : (s.wf f v).books = s.books := rfl
@[simp] theorem wf_pan (f : Fld) (v : Nat) : (s.wf f v).pan = s.pan := rfl
@[simp] theorem wf_jrnlNext (f : Fld) (v : Nat) : (s.wf f v).jrnlNext = s.jrnlNext := rfl
@[simp] theorem wfb_pending (f : Fld) (b : Bool) : (s.wfb f b).pending = s.pending := rfl
@[simp] theorem wfb_tx (f : Fld) (b : Bool) : (s.wfb f b).tx = s.tx := rfl
@[simp] theorem wfb_rdata (f : Fld) (b : Bool) : (s.wfb f b).rdata = s.rdata := rfl
@[simp] theorem wfb_rbytes (f : Fld) (b : Bool) : (s.wfb f b).rbytes = s.rbytes := rfl
@[simp] theorem wfb_free (f : Fld) (b : Bool) : (s.wfb f b).free = s.free := rfl
@[simp] theorem wfb_ns (f : Fld) (b : Bool) : (s.wfb f b).ns = s.ns := rfl
@[simp] theorem wfb_wrap (f : Fld) (b : Bool) : (s.wfb f b).wrap = s.wrap := rfl
@[simp] theorem wfb_acc (f : Fld) (b : Bool) : (s.wfb f b).acc = s.acc := rfl
@[simp] theorem wfb_phase (f : Fld) (b : Bool) : (s.wfb f b).phase = s.phase := rfl
@[simp] theorem wfb_tlen (f : Fld) (b : Bool) : (s.wfb f b).tlen = s.tlen := rfl
@[simp] theorem wfb_tick (f : Fld) (b : Bool) : (s.wfb f b).tick = s.tick := rfl
@[simp] theorem wfb_tstart (f : Fld) (b : Bool) : (s.wfb f b).tstart = s.tstart := rfl
@[simp] theorem wfb_mem (f : Fld) (b : Bool) : (s.wfb f b).mem = s.mem := rfl
@[simp] theorem wfb_dirty (f : Fld) (b : Bool) : (s.wfb f b).dirty = s.dirty := rfl
@[simp] theorem wfb_eccBad (f : Fld) (b : Bool) : (s.wfb f b).eccBad = s.eccBad := rfl
@[simp] theorem wfb_eccSeen (f : Fld) (b : Bool) : (s.wfb f b).eccSeen = s.eccSeen := rfl
@[simp] theorem wfb_tagRuns (f : Fld) (b : Bool) : (s.wfb f b).tagRuns = s.tagRuns := rfl
@[simp] theorem wfb_tagBad (f : Fld) (b : Bool) : (s.wfb f b).tagBad = s.tagBad := rfl
@[simp] theorem wfb_viol (f : Fld) (b : Bool) : (s.wfb f b).viol = s.viol := rfl
@[simp] theorem wfb_nor (f : Fld) (b : Bool) : (s.wfb f b).nor = s.nor := rfl
@[simp] theorem wfb_mram (f : Fld) (b : Bool) : (s.wfb f b).mram = s.mram := rfl
@[simp] theorem wfb_dev (f : Fld) (b : Bool) : (s.wfb f b).dev = s.dev := rfl
@[simp] theorem wfb_last (f : Fld) (b : Bool) : (s.wfb f b).last = s.last := rfl
@[simp] theorem wfb_due (f : Fld) (b : Bool) : (s.wfb f b).due = s.due := rfl
@[simp] theorem wfb_transTick (f : Fld) (b : Bool) : (s.wfb f b).transTick = s.transTick := rfl
@[simp] theorem wfb_since (f : Fld) (b : Bool) : (s.wfb f b).since = s.since := rfl
@[simp] theorem wfb_addrOk (f : Fld) (b : Bool) : (s.wfb f b).addrOk = s.addrOk := rfl
@[simp] theorem wfb_svcMode (f : Fld) (b : Bool) : (s.wfb f b).svcMode = s.svcMode := rfl
@[simp] theorem wfb_img (f : Fld) (b : Bool) : (s.wfb f b).img = s.img := rfl
@[simp] theorem wfb_firstFrz (f : Fld) (b : Bool) : (s.wfb f b).firstFrz = s.firstFrz := rfl
@[simp] theorem wfb_unforced (f : Fld) (b : Bool) : (s.wfb f b).unforced = s.unforced := rfl
@[simp] theorem wfb_tripN (f : Fld) (b : Bool) : (s.wfb f b).tripN = s.tripN := rfl
@[simp] theorem wfb_tripTime (f : Fld) (b : Bool) : (s.wfb f b).tripTime = s.tripTime := rfl
@[simp] theorem wfb_squelch (f : Fld) (b : Bool) : (s.wfb f b).squelch = s.squelch := rfl
@[simp] theorem wfb_phyRst (f : Fld) (b : Bool) : (s.wfb f b).phyRst = s.phyRst := rfl
@[simp] theorem wfb_refErr (f : Fld) (b : Bool) : (s.wfb f b).refErr = s.refErr := rfl
@[simp] theorem wfb_boot (f : Fld) (b : Bool) : (s.wfb f b).boot = s.boot := rfl
@[simp] theorem wfb_otp (f : Fld) (b : Bool) : (s.wfb f b).otp = s.otp := rfl
@[simp] theorem wfb_pwd (f : Fld) (b : Bool) : (s.wfb f b).pwd = s.pwd := rfl
@[simp] theorem wfb_logSeq (f : Fld) (b : Bool) : (s.wfb f b).logSeq = s.logSeq := rfl
@[simp] theorem wfb_chain (f : Fld) (b : Bool) : (s.wfb f b).chain = s.chain := rfl
@[simp] theorem wfb_loadReport (f : Fld) (b : Bool) : (s.wfb f b).loadReport = s.loadReport := rfl
@[simp] theorem wfb_forceDropped (f : Fld) (b : Bool) : (s.wfb f b).forceDropped = s.forceDropped := rfl
@[simp] theorem wfb_eng (f : Fld) (b : Bool) : (s.wfb f b).eng = s.eng := rfl
@[simp] theorem wfb_flights (f : Fld) (b : Bool) : (s.wfb f b).flights = s.flights := rfl
@[simp] theorem wfb_tasks (f : Fld) (b : Bool) : (s.wfb f b).tasks = s.tasks := rfl
@[simp] theorem wfb_snap (f : Fld) (b : Bool) : (s.wfb f b).snap = s.snap := rfl
@[simp] theorem wfb_sched (f : Fld) (b : Bool) : (s.wfb f b).sched = s.sched := rfl
@[simp] theorem wfb_deferred (f : Fld) (b : Bool) : (s.wfb f b).deferred = s.deferred := rfl
@[simp] theorem wfb_sta (f : Fld) (b : Bool) : (s.wfb f b).sta = s.sta := rfl
@[simp] theorem wfb_str (f : Fld) (b : Bool) : (s.wfb f b).str = s.str := rfl
@[simp] theorem wfb_mario (f : Fld) (b : Bool) : (s.wfb f b).mario = s.mario := rfl
@[simp] theorem wfb_saw (f : Fld) (b : Bool) : (s.wfb f b).saw = s.saw := rfl
@[simp] theorem wfb_mirr (f : Fld) (b : Bool) : (s.wfb f b).mirr = s.mirr := rfl
@[simp] theorem wfb_tri (f : Fld) (b : Bool) : (s.wfb f b).tri = s.tri := rfl
@[simp] theorem wfb_chg (f : Fld) (b : Bool) : (s.wfb f b).chg = s.chg := rfl
@[simp] theorem wfb_tgRx (f : Fld) (b : Bool) : (s.wfb f b).tgRx = s.tgRx := rfl
@[simp] theorem wfb_tgSend (f : Fld) (b : Bool) : (s.wfb f b).tgSend = s.tgSend := rfl
@[simp] theorem wfb_plantA (f : Fld) (b : Bool) : (s.wfb f b).plantA = s.plantA := rfl
@[simp] theorem wfb_plantB (f : Fld) (b : Bool) : (s.wfb f b).plantB = s.plantB := rfl
@[simp] theorem wfb_ptp (f : Fld) (b : Bool) : (s.wfb f b).ptp = s.ptp := rfl
@[simp] theorem wfb_svc (f : Fld) (b : Bool) : (s.wfb f b).svc = s.svc := rfl
@[simp] theorem wfb_field (f : Fld) (b : Bool) : (s.wfb f b).field = s.field := rfl
@[simp] theorem wfb_fctl (f : Fld) (b : Bool) : (s.wfb f b).fctl = s.fctl := rfl
@[simp] theorem wfb_can0 (f : Fld) (b : Bool) : (s.wfb f b).can0 = s.can0 := rfl
@[simp] theorem wfb_can1 (f : Fld) (b : Bool) : (s.wfb f b).can1 = s.can1 := rfl
@[simp] theorem wfb_rack (f : Fld) (b : Bool) : (s.wfb f b).rack = s.rack := rfl
@[simp] theorem wfb_ret (f : Fld) (b : Bool) : (s.wfb f b).ret = s.ret := rfl
@[simp] theorem wfb_hlth (f : Fld) (b : Bool) : (s.wfb f b).hlth = s.hlth := rfl
@[simp] theorem wfb_books (f : Fld) (b : Bool) : (s.wfb f b).books = s.books := rfl
@[simp] theorem wfb_pan (f : Fld) (b : Bool) : (s.wfb f b).pan = s.pan := rfl
@[simp] theorem wfb_jrnlNext (f : Fld) (b : Bool) : (s.wfb f b).jrnlNext = s.jrnlNext := rfl
@[simp] theorem inc_pending (f : Fld) (n : Nat) : (s.inc f n).pending = s.pending := rfl
@[simp] theorem inc_tx (f : Fld) (n : Nat) : (s.inc f n).tx = s.tx := rfl
@[simp] theorem inc_rdata (f : Fld) (n : Nat) : (s.inc f n).rdata = s.rdata := rfl
@[simp] theorem inc_rbytes (f : Fld) (n : Nat) : (s.inc f n).rbytes = s.rbytes := rfl
@[simp] theorem inc_free (f : Fld) (n : Nat) : (s.inc f n).free = s.free := rfl
@[simp] theorem inc_ns (f : Fld) (n : Nat) : (s.inc f n).ns = s.ns := rfl
@[simp] theorem inc_wrap (f : Fld) (n : Nat) : (s.inc f n).wrap = s.wrap := rfl
@[simp] theorem inc_acc (f : Fld) (n : Nat) : (s.inc f n).acc = s.acc := rfl
@[simp] theorem inc_phase (f : Fld) (n : Nat) : (s.inc f n).phase = s.phase := rfl
@[simp] theorem inc_tlen (f : Fld) (n : Nat) : (s.inc f n).tlen = s.tlen := rfl
@[simp] theorem inc_tick (f : Fld) (n : Nat) : (s.inc f n).tick = s.tick := rfl
@[simp] theorem inc_tstart (f : Fld) (n : Nat) : (s.inc f n).tstart = s.tstart := rfl
@[simp] theorem inc_mem (f : Fld) (n : Nat) : (s.inc f n).mem = s.mem := rfl
@[simp] theorem inc_dirty (f : Fld) (n : Nat) : (s.inc f n).dirty = s.dirty := rfl
@[simp] theorem inc_eccBad (f : Fld) (n : Nat) : (s.inc f n).eccBad = s.eccBad := rfl
@[simp] theorem inc_eccSeen (f : Fld) (n : Nat) : (s.inc f n).eccSeen = s.eccSeen := rfl
@[simp] theorem inc_tagRuns (f : Fld) (n : Nat) : (s.inc f n).tagRuns = s.tagRuns := rfl
@[simp] theorem inc_tagBad (f : Fld) (n : Nat) : (s.inc f n).tagBad = s.tagBad := rfl
@[simp] theorem inc_viol (f : Fld) (n : Nat) : (s.inc f n).viol = s.viol := rfl
@[simp] theorem inc_nor (f : Fld) (n : Nat) : (s.inc f n).nor = s.nor := rfl
@[simp] theorem inc_mram (f : Fld) (n : Nat) : (s.inc f n).mram = s.mram := rfl
@[simp] theorem inc_dev (f : Fld) (n : Nat) : (s.inc f n).dev = s.dev := rfl
@[simp] theorem inc_last (f : Fld) (n : Nat) : (s.inc f n).last = s.last := rfl
@[simp] theorem inc_due (f : Fld) (n : Nat) : (s.inc f n).due = s.due := rfl
@[simp] theorem inc_transTick (f : Fld) (n : Nat) : (s.inc f n).transTick = s.transTick := rfl
@[simp] theorem inc_since (f : Fld) (n : Nat) : (s.inc f n).since = s.since := rfl
@[simp] theorem inc_addrOk (f : Fld) (n : Nat) : (s.inc f n).addrOk = s.addrOk := rfl
@[simp] theorem inc_svcMode (f : Fld) (n : Nat) : (s.inc f n).svcMode = s.svcMode := rfl
@[simp] theorem inc_img (f : Fld) (n : Nat) : (s.inc f n).img = s.img := rfl
@[simp] theorem inc_firstFrz (f : Fld) (n : Nat) : (s.inc f n).firstFrz = s.firstFrz := rfl
@[simp] theorem inc_unforced (f : Fld) (n : Nat) : (s.inc f n).unforced = s.unforced := rfl
@[simp] theorem inc_tripN (f : Fld) (n : Nat) : (s.inc f n).tripN = s.tripN := rfl
@[simp] theorem inc_tripTime (f : Fld) (n : Nat) : (s.inc f n).tripTime = s.tripTime := rfl
@[simp] theorem inc_squelch (f : Fld) (n : Nat) : (s.inc f n).squelch = s.squelch := rfl
@[simp] theorem inc_phyRst (f : Fld) (n : Nat) : (s.inc f n).phyRst = s.phyRst := rfl
@[simp] theorem inc_refErr (f : Fld) (n : Nat) : (s.inc f n).refErr = s.refErr := rfl
@[simp] theorem inc_boot (f : Fld) (n : Nat) : (s.inc f n).boot = s.boot := rfl
@[simp] theorem inc_otp (f : Fld) (n : Nat) : (s.inc f n).otp = s.otp := rfl
@[simp] theorem inc_pwd (f : Fld) (n : Nat) : (s.inc f n).pwd = s.pwd := rfl
@[simp] theorem inc_logSeq (f : Fld) (n : Nat) : (s.inc f n).logSeq = s.logSeq := rfl
@[simp] theorem inc_chain (f : Fld) (n : Nat) : (s.inc f n).chain = s.chain := rfl
@[simp] theorem inc_loadReport (f : Fld) (n : Nat) : (s.inc f n).loadReport = s.loadReport := rfl
@[simp] theorem inc_forceDropped (f : Fld) (n : Nat) : (s.inc f n).forceDropped = s.forceDropped := rfl
@[simp] theorem inc_eng (f : Fld) (n : Nat) : (s.inc f n).eng = s.eng := rfl
@[simp] theorem inc_flights (f : Fld) (n : Nat) : (s.inc f n).flights = s.flights := rfl
@[simp] theorem inc_tasks (f : Fld) (n : Nat) : (s.inc f n).tasks = s.tasks := rfl
@[simp] theorem inc_snap (f : Fld) (n : Nat) : (s.inc f n).snap = s.snap := rfl
@[simp] theorem inc_sched (f : Fld) (n : Nat) : (s.inc f n).sched = s.sched := rfl
@[simp] theorem inc_deferred (f : Fld) (n : Nat) : (s.inc f n).deferred = s.deferred := rfl
@[simp] theorem inc_sta (f : Fld) (n : Nat) : (s.inc f n).sta = s.sta := rfl
@[simp] theorem inc_str (f : Fld) (n : Nat) : (s.inc f n).str = s.str := rfl
@[simp] theorem inc_mario (f : Fld) (n : Nat) : (s.inc f n).mario = s.mario := rfl
@[simp] theorem inc_saw (f : Fld) (n : Nat) : (s.inc f n).saw = s.saw := rfl
@[simp] theorem inc_mirr (f : Fld) (n : Nat) : (s.inc f n).mirr = s.mirr := rfl
@[simp] theorem inc_tri (f : Fld) (n : Nat) : (s.inc f n).tri = s.tri := rfl
@[simp] theorem inc_chg (f : Fld) (n : Nat) : (s.inc f n).chg = s.chg := rfl
@[simp] theorem inc_tgRx (f : Fld) (n : Nat) : (s.inc f n).tgRx = s.tgRx := rfl
@[simp] theorem inc_tgSend (f : Fld) (n : Nat) : (s.inc f n).tgSend = s.tgSend := rfl
@[simp] theorem inc_plantA (f : Fld) (n : Nat) : (s.inc f n).plantA = s.plantA := rfl
@[simp] theorem inc_plantB (f : Fld) (n : Nat) : (s.inc f n).plantB = s.plantB := rfl
@[simp] theorem inc_ptp (f : Fld) (n : Nat) : (s.inc f n).ptp = s.ptp := rfl
@[simp] theorem inc_svc (f : Fld) (n : Nat) : (s.inc f n).svc = s.svc := rfl
@[simp] theorem inc_field (f : Fld) (n : Nat) : (s.inc f n).field = s.field := rfl
@[simp] theorem inc_fctl (f : Fld) (n : Nat) : (s.inc f n).fctl = s.fctl := rfl
@[simp] theorem inc_can0 (f : Fld) (n : Nat) : (s.inc f n).can0 = s.can0 := rfl
@[simp] theorem inc_can1 (f : Fld) (n : Nat) : (s.inc f n).can1 = s.can1 := rfl
@[simp] theorem inc_rack (f : Fld) (n : Nat) : (s.inc f n).rack = s.rack := rfl
@[simp] theorem inc_ret (f : Fld) (n : Nat) : (s.inc f n).ret = s.ret := rfl
@[simp] theorem inc_hlth (f : Fld) (n : Nat) : (s.inc f n).hlth = s.hlth := rfl
@[simp] theorem inc_books (f : Fld) (n : Nat) : (s.inc f n).books = s.books := rfl
@[simp] theorem inc_pan (f : Fld) (n : Nat) : (s.inc f n).pan = s.pan := rfl
@[simp] theorem inc_jrnlNext (f : Fld) (n : Nat) : (s.inc f n).jrnlNext = s.jrnlNext := rfl

end Sys2Proof.Laws
end

