-- ==== Sys2Proof/Laws/Tab.lean ====
section
/-!
SUPPORT. What a sparse table reads after a write, and that every table operation keeps the canonical form.
-/
namespace Sys2Proof.Laws
open Sys2Proof.Machine

variable {α : Type} [DecidableEq α]

theorem tabWf_mono (d : Nat → α) {lo lo' : Nat} (h : lo' ≤ lo) : ∀ t : Tab α,
    tabWfFrom d lo t = true → tabWfFrom d lo' t = true
  | [], _ => rfl
  | (k, v) :: t, w => by
    simp only [tabWfFrom, Bool.and_eq_true, decide_eq_true_eq] at w ⊢
    exact ⟨⟨Nat.le_trans h w.1.1, w.1.2⟩, w.2⟩

/-- A key below every listed key reads the default. -/
theorem tget_below (d : Nat → α) (t : Tab α) (lo a : Nat) (w : tabWfFrom d lo t = true) (h : a < lo) (x : α) :
    tget x t a = x := by
  cases t with
  | nil => rfl
  | cons e t =>
    obtain ⟨k, v⟩ := e
    simp only [tabWfFrom, Bool.and_eq_true, decide_eq_true_eq] at w
    have h1 : a ≠ k := by omega
    have h2 : a < k := by omega
    simp [tget, h1, h2]

/-- A write keeps the canonical form. -/
theorem tabWf_tset (d : Nat → α) (a : Nat) (x : α) : ∀ (lo : Nat) (t : Tab α), lo ≤ a →
    tabWfFrom d lo t = true → tabWfFrom d lo (tset (d a) t a x) = true
  | lo, [], h, _ => by
    unfold tset
    split <;> rename_i hx
    · rfl
    · simp [tabWfFrom, h, hx]
  | lo, (k, v) :: t, h, w => by
    simp only [tabWfFrom, Bool.and_eq_true, decide_eq_true_eq] at w
    obtain ⟨⟨wk, wv⟩, wt⟩ := w
    unfold tset
    split
    · rename_i hk
      split <;> rename_i hx
      · simp [tabWfFrom, wk, wv, wt]
      · simp [tabWfFrom, h, hx, wv, wt]; omega
    · split
      · rename_i hk he
        subst he
        split <;> rename_i hx
        · exact tabWf_mono d (by omega) t wt
        · simp [tabWfFrom, wk, hx, wt]
      · rename_i hk he
        have := tabWf_tset d a x (k + 1) t (by omega) wt
        simp [tabWfFrom, wk, wv, this]

/-- A table reads back what was written. -/
theorem tget_tset_same (d : Nat → α) (a : Nat) (x : α) : ∀ (lo : Nat) (t : Tab α),
    tabWfFrom d lo t = true → tget (d a) (tset (d a) t a x) a = x
  | lo, [], _ => by
    unfold tset
    split <;> rename_i hx
    · simp [tget, hx]
    · simp [tget]
  | lo, (k, v) :: t, w => by
    simp only [tabWfFrom, Bool.and_eq_true, decide_eq_true_eq] at w
    obtain ⟨⟨wk, wv⟩, wt⟩ := w
    unfold tset
    split
    · rename_i hk
      split <;> rename_i hx
      · have h1 : a ≠ k := by omega
        simp [tget, h1, hk, hx]
      · simp [tget]
    · split
      · rename_i hk he
        subst he
        split <;> rename_i hx
        · rw [tget_below d t _ a wt (by omega), hx]
        · simp [tget]
      · rename_i hk he
        have := tget_tset_same d a x (k + 1) t wt
        simp [tget, he, hk, this]

/-- A write leaves every other key alone. -/
theorem tget_tset_ne (y : α) (d : α) (a b : Nat) (x : α) (hab : b ≠ a) : ∀ (t : Tab α) (D : Nat → α) (lo : Nat),
    tabWfFrom D lo t = true → tget y (tset d t a x) b = tget y t b
  | [], _, _, _ => by
    unfold tset
    split
    · rfl
    · simp [tget, hab]
  | (k, v) :: t, D, lo, w => by
    simp only [tabWfFrom, Bool.and_eq_true, decide_eq_true_eq] at w
    obtain ⟨⟨wk, wv⟩, wt⟩ := w
    unfold tset
    split
    · rename_i hk
      split
      · rfl
      · by_cases h : b < a
        · have : b ≠ k := by omega
          have : b < k := by omega
          simp [tget, hab, h, *]
        · simp [tget, hab, h]
    · split
      · rename_i hk he
        subst he
        by_cases h : b < a
        · rw [show tget y ((a, v) :: t) b = y by simp [tget, hab, h]]
          split
          · exact tget_below D t _ b wt (by omega) y
          · simp [tget, hab, h]
        · split
          · simp [tget, hab, h]
          · simp [tget, hab, h]
      · have := tget_tset_ne y d a b x hab t D _ wt
        simp [tget, this]

/-- A filtered table keeps the canonical form. -/
theorem tabWf_filter (d : Nat → α) (p : Nat × α → Bool) : ∀ (lo : Nat) (t : Tab α),
    tabWfFrom d lo t = true → tabWfFrom d lo (t.filter p) = true
  | _, [], _ => rfl
  | lo, (k, v) :: t, w => by
    simp only [tabWfFrom, Bool.and_eq_true, decide_eq_true_eq] at w
    have ih := tabWf_filter d p (k + 1) t w.2
    rw [List.filter_cons]
    split
    · simp [tabWfFrom, w.1.1, w.1.2, ih]
    · exact tabWf_mono d (by omega) _ ih

/-- Clearing keys keeps the canonical form. -/
theorem tabWf_tclear (d : Nat → α) (t : Tab α) (p : Nat → Bool) (w : tabWf d t = true) : tabWf d (tclear t p) = true :=
  tabWf_filter d _ 0 t w

end Sys2Proof.Laws
end

