-- ==== Sys2Proof/Laws/Regs.lean ====
section
/-!
SUPPORT. Registers and memory read back what was written, and every write keeps their canonical form.
-/
namespace Sys2Proof.Laws
open Sys2Proof Sys2Proof.Machine

theorem reg_setReg_same (s : State) (h : tabWf resetWord s.regs = true) (a : Nat) (v : Word) :
    (s.setReg a v).reg a = v := tget_tset_same resetWord a v 0 s.regs h

theorem reg_setReg_ne (s : State) (h : tabWf resetWord s.regs = true) (a b : Nat) (v : Word) (hab : b ≠ a) :
    (s.setReg a v).reg b = s.reg b := tget_tset_ne _ _ a b v hab s.regs resetWord 0 h

theorem regsWf_setReg (s : State) (h : tabWf resetWord s.regs = true) (a : Nat) (v : Word) :
    tabWf resetWord (s.setReg a v).regs = true := tabWf_tset resetWord a v 0 s.regs (Nat.zero_le _) h

theorem rdB_wrB_same (s : State) (h : memWf s.mem = true) (a : Nat) (b : Byte) : (s.wrB a b).rdB a = b :=
  tget_tset_same (fun _ => (0 : Byte)) a b 0 s.mem h

theorem rdB_wrB_ne (s : State) (h : memWf s.mem = true) (a c : Nat) (b : Byte) (hc : c ≠ a) :
    (s.wrB a b).rdB c = s.rdB c := tget_tset_ne _ _ a c b hc s.mem _ 0 h

theorem memWf_tset (m : List Host.Cell) (h : memWf m = true) (a : Nat) (b : Byte) : memWf (tset 0 m a b) = true :=
  tabWf_tset (fun _ => (0 : Byte)) a b 0 m (Nat.zero_le _) h

theorem memWf_putBytes : ∀ (l : List Byte) (m : List Host.Cell) (a : Nat), memWf m = true → memWf (putBytes m a l) = true
  | [], _, _, h => h
  | b :: t, m, a, h => memWf_putBytes t (tset 0 m a b) (a + 1) (memWf_tset m h a b)

theorem tget_putBytes_out : ∀ (l : List Byte) (m : List Host.Cell) (a c : Nat), memWf m = true →
    c < a ∨ a + l.length ≤ c → tget 0 (putBytes m a l) c = tget 0 m c
  | [], _, _, _, _, _ => rfl
  | b :: t, m, a, c, h, hc => by
    have hca : c ≠ a := by simp at hc; omega
    have := tget_putBytes_out t (tset 0 m a b) (a + 1) c (memWf_tset m h a b) (by simp at hc; omega)
    rw [putBytes, this]
    exact tget_tset_ne _ _ a c b hca m _ 0 h

theorem tget_putBytes_in : ∀ (l : List Byte) (m : List Host.Cell) (a i : Nat), memWf m = true → (h : i < l.length) →
    tget 0 (putBytes m a l) (a + i) = l[i]
  | b :: t, m, a, 0, h, _ => by
    have := tget_putBytes_out t _ (a + 1) a (memWf_tset m h a b) (by omega)
    rw [putBytes]
    exact this.trans (tget_tset_same (fun _ => (0 : Byte)) a b 0 m h)
  | b :: t, m, a, i + 1, h, hi => by
    have := tget_putBytes_in t (tset 0 m a b) (a + 1) i (memWf_tset m h a b) (by simpa using hi)
    rw [putBytes, show a + (i + 1) = a + 1 + i by omega, this]
    rfl

/-- Bytes written are read back, and no other byte changes. -/
theorem rdB_wrBytes_out (s : State) (h : memWf s.mem = true) (a c : Nat) (l : List Byte) (hc : c < a ∨ a + l.length ≤ c) :
    (s.wrBytes a l).rdB c = s.rdB c := tget_putBytes_out l s.mem a c h hc

theorem rdB_wrBytes_in (s : State) (h : memWf s.mem = true) (a i : Nat) (l : List Byte) (hi : i < l.length) :
    (s.wrBytes a l).rdB (a + i) = l[i] := tget_putBytes_in l s.mem a i h hi

theorem memWf_wrBytes (s : State) (h : memWf s.mem = true) (a : Nat) (l : List Byte) : memWf (s.wrBytes a l).mem = true :=
  memWf_putBytes l s.mem a h

/-! ### Fields of a register -/

theorem nbit_bitsOf (v lo wid k : Nat) : nbit (bitsOf v lo wid) k = (decide (k < wid) && nbit v (lo + k)) := by
  simp [nbit, bitsOf, Nat.testBit_mod_two_pow, Nat.testBit_shiftRight]

theorem nbit_ofNat (v k : Nat) : nbit (BitVec.ofNat 32 v).toNat k = (decide (k < 32) && nbit v k) := by
  unfold nbit
  rw [BitVec.toNat_ofNat, Nat.testBit_mod_two_pow]

theorem nbit_putBits (w : Word) (lo wid v k : Nat) (hk : k < 32) :
    nbit (putBits w lo wid v).toNat k = if lo ≤ k ∧ k < lo + wid then nbit v (k - lo) else nbit w.toNat k := by
  unfold nbit putBits
  rw [BitVec.testBit_toNat, BitVec.testBit_toNat]
  simp only [BitVec.getLsbD_or, BitVec.getLsbD_and, BitVec.getLsbD_not, BitVec.getLsbD_ofNat, hk, decide_true, Bool.true_and]
  rw [Nat.testBit_mul_two_pow, Nat.testBit_mul_two_pow, Nat.testBit_two_pow_sub_one, Nat.testBit_mod_two_pow]
  by_cases h1 : lo ≤ k <;> by_cases h2 : k < lo + wid
  · have : k - lo < wid := by omega
    simp [h1, h2, this]
  · have : ¬ k - lo < wid := by omega
    simp [h1, h2, this]
  · simp [h1]
  · simp [h1]

theorem bitsOf_putBits (w : Word) (lo wid v : Nat) (h : lo + wid ≤ 32) : bitsOf (putBits w lo wid v).toNat lo wid = v % 2 ^ wid := by
  apply Nat.eq_of_testBit_eq
  intro k
  have := nbit_bitsOf (putBits w lo wid v).toNat lo wid k
  unfold nbit at this
  rw [this, Nat.testBit_mod_two_pow]
  by_cases hk : k < wid
  · have := nbit_putBits w lo wid v (lo + k) (by omega)
    unfold nbit at this
    simp [this, hk]
  · simp [hk]

theorem bitsOf_putBits_ne (w : Word) (lo wid v lo' wid' : Nat) (h : lo' + wid' ≤ 32) (hd : lo' + wid' ≤ lo ∨ lo + wid ≤ lo') :
    bitsOf (putBits w lo wid v).toNat lo' wid' = bitsOf w.toNat lo' wid' := by
  apply Nat.eq_of_testBit_eq
  intro k
  have a := nbit_bitsOf (putBits w lo wid v).toNat lo' wid' k
  have b := nbit_bitsOf w.toNat lo' wid' k
  unfold nbit at a b
  rw [a, b]
  by_cases hk : k < wid'
  · have := nbit_putBits w lo wid v (lo' + k) (by omega)
    unfold nbit at this
    rw [this, if_neg (by omega)]
  · simp [hk]

/-- A field written reads back what fits into it. -/
theorem rf_wf_same (s : State) (h : tabWf resetWord s.regs = true) (f : Fld) (v : Nat) (hf : f.lo + f.wid ≤ 32) :
    (s.wf f v).rf f = v % 2 ^ f.wid := by
  unfold State.rf State.wf
  rw [reg_setReg_same s h, bitsOf_putBits _ _ _ _ hf]

/-- A field of another register, or other bits of the same one, keeps its value. -/
theorem rf_wf_ne (s : State) (h : tabWf resetWord s.regs = true) (f g : Fld) (v : Nat) (hg : g.lo + g.wid ≤ 32)
    (hd : g.addr ≠ f.addr ∨ g.lo + g.wid ≤ f.lo ∨ f.lo + f.wid ≤ g.lo) : (s.wf f v).rf g = s.rf g := by
  unfold State.rf State.wf
  by_cases ha : g.addr = f.addr
  · rw [ha, reg_setReg_same s h, bitsOf_putBits_ne _ _ _ _ _ _ hg (hd.resolve_left (by simp [ha]))]
  · rw [reg_setReg_ne s h _ _ _ ha]

theorem reg_wf_ne (s : State) (h : tabWf resetWord s.regs = true) (f : Fld) (v a : Nat) (ha : a ≠ f.addr) :
    (s.wf f v).reg a = s.reg a := reg_setReg_ne s h _ _ _ ha

theorem regsWf_wf (s : State) (h : tabWf resetWord s.regs = true) (f : Fld) (v : Nat) : tabWf resetWord (s.wf f v).regs = true :=
  regsWf_setReg s h _ _

/-- A register update keeps the invariant. -/
theorem inv_setReg (s : State) (h : s.Inv) (a : Nat) (v : Word) : (s.setReg a v).Inv :=
  ⟨regsWf_setReg s h.regs a v, h.mem, h.eng, h.sta, h.str, h.mario, h.tasks, h.tgRx, h.dirty, h.viol, h.tsqA, h.tsqB⟩

theorem inv_wf (s : State) (h : s.Inv) (f : Fld) (v : Nat) : (s.wf f v).Inv := inv_setReg s h _ _

end Sys2Proof.Laws
end

