-- ==== Sys2Proof/Machine/Spell.lean ====
section
/-!
DEFINITION. Which command an instruction in a CODE section is (R95 to R108): opcode, operand bytes and extension words against the row
of the table that an engine executes.
-/
namespace Sys2Proof.Machine

/-! ### Codes (R92, R93, R97) -/

/-- A field of a word. -/
def bits (w lo n : Nat) : BitVec n := BitVec.ofNat n (bitsOf w lo n)

/-- The computation type of a K code. -/
def kCode (k : Nat) : K := [.i32, .i64, .u32, .u64, .f32, .f64].getD k .f64

/-- The same for the opcodes of integers alone. -/
def intCode (k : Nat) : IntK := [.i32, .i64, .u32, .u64].getD k .u64

/-- The memory type of a code. -/
def memCode (t : Nat) : MemType :=
  [.bool, .int8, .int16, .int32, .int64, .uint8, .uint16, .uint32, .uint64, .real32, .real64, .time, .quality].getD t .quality

/-- The slot type of a code, and the part of a slot. -/
def slotCode (t : Nat) : SlotType := [.bit, .u16, .s16, .u32, .s32, .f32].getD t .f32
def partCode (p : Nat) : SlotPart := [.value, .quality, .age, .raw].getD p .raw

/-! ### Operands (R96, R97) -/

/-- A source operand. -/
def srcOf (o : Opnd) : Src :=
  let w := o.val
  match o.form with
  | 0 => if o.words = 1 then .imm32 (bits w 0 32) else .imm64 (bits w 0 64)
  | 1 => .gath (bits w 0 14) (slotCode (bitsOf w 16 3)) (partCode (bitsOf w 20 2))
  | 3 => .var (bits w 0 26) (memCode (bitsOf w 28 4))
  | 4 => .sot (bits w 0 32) (bits o.val2 0 8)
  | 5 => .record (bits w 0 16) (memCode (bitsOf w 28 4))
  | 6 => .const (bits w 0 13) (memCode (bitsOf w 28 4))
  | 7 => .ind (Fin.ofNat 64 (bitsOf w 0 6)) (slotCode (bitsOf w 8 3)) (partCode (bitsOf w 12 2))
  | 9 => .short (bits w 0 6)
  | _ => .reg (Fin.ofNat 64 w)

/-- A destination operand. -/
def dstOf (o : Opnd) : Dst :=
  let w := o.val
  match o.form with
  | 2 => .out (bits w 0 23) (slotCode (bitsOf w 24 3)) (nbit w 28)
  | 3 => .var (bits w 0 26) (memCode (bitsOf w 28 4))
  | 5 => .record (bits w 0 16) (memCode (bitsOf w 28 4))
  | 7 => .ind (Fin.ofNat 64 (bitsOf w 0 6)) (slotCode (bitsOf w 8 3)) (nbit w 12)
  | _ => .reg (Fin.ofNat 64 w)

/-- Whether the forms of the operands suit their roles; a register operand is a register (R96, R97). -/
def Ins.formsOk (i : Ins) : Bool :=
  let ok (r : Role) (o : Opnd) : Bool :=
    match r with
    | .src => o.form != 2
    | .dst => [2, 3, 5, 7, 8].contains o.form
    | .reg => o.form == 8
    | _ => true
  ok i.roles.1 i.d && ok i.roles.2.1 i.a && ok i.roles.2.2 i.b

/-! ### Commands -/

/-- Whether an instruction is this command on engine `e` (R95 to R108; NOTES 184). -/
def Ins.spells (i : Ins) (e : Fin 12) (c : Instr) : Bool :=
  let w0 := i.ext.getD 0 0
  let w1 := i.ext.getD 1 0
  let key := bits w0 0 32
  let k := kCode (i.op % 8)
  let ik := intCode (i.op % 8)
  let d := dstOf i.d
  let rd : Fin 64 := Fin.ofNat 64 i.d.val
  let a := srcOf i.a
  let ra : Fin 64 := Fin.ofNat 64 i.a.val
  let b := srcOf i.b
  let rb : Fin 64 := Fin.ofNat 64 i.b.val
  let off := BitVec.ofNat 16 (256 * i.a.val + i.b.val)
  let own (o : Nat) (f : Fin 12) : Bool := f == e && i.op == o
  let dab (o : Nat) (f : Fin 12) (x : Dst) (y z : Src) : Bool := own o f && x == d && y == a && z == b
  let da (o : Nat) (f : Fin 12) (x : Dst) (y : Src) : Bool := own o f && x == d && y == a
  let typed (o : Nat) (f : Fin 12) (j : K) (x : Dst) (y z : Src) : Bool := dab (o + i.op % 8) f x y z && j == k
  let whole (o : Nat) (f : Fin 12) (j : IntK) (x : Dst) (y z : Src) : Bool := dab (o + i.op % 8) f x y z && j == ik
  i.formsOk && match c with
  | .nop f => own 0x00 f
  | .mov f x0 x1 => da 0x01 f x0 x1
  | .sel f x0 x1 x2 => own 0x02 f && x0 == rd && x1 == a && x2 == b
  | .cvt f x0 x1 x2 x3 x4 =>
    da 0x03 f x0 x1 && x2 == kCode (i.b.val / 32) && x3 == kCode (i.b.val / 4 % 8) &&
    x4 == ([.nearest, .zero, .down, .up].getD (i.b.val % 4) .up)
  | .satw f x0 x1 x2 =>
    da 0x04 f x0 x1 && x2 == ([.int8, .int8, .int16, .int32, .int32, .uint8, .uint16, .uint32].getD i.b.val .int8)
  | .ldx f x0 x1 x2 x3 x4 => da 0x08 f x0 x1 && x2 == bits w0 0 26 && x3 == memCode (bitsOf w0 28 4) && x4 == bits w1 0 32
  | .stx f x0 x1 x2 x3 x4 =>
    own 0x09 f && x0 == srcOf i.d && x1 == a && x2 == bits w0 0 26 && x3 == memCode (bitsOf w0 28 4) && x4 == bits w1 0 32
  | .ldxg f x0 x1 x2 x3 x4 x5 =>
    da 0x0A f x0 x1 && x2 == bits w0 0 14 && x3 == slotCode (bitsOf w0 16 3) && x4 == partCode (bitsOf w0 20 2) &&
    x5 == bits w1 0 32
  | .ldxk f x0 x1 x2 x3 x4 => da 0x0B f x0 x1 && x2 == bits w0 0 13 && x3 == memCode (bitsOf w0 28 4) && x4 == bits w1 0 32
  | .stxo f x0 x1 x2 x3 x4 x5 =>
    own 0x0C f && x0 == srcOf i.d && x1 == a && x2 == bits w0 0 23 && x3 == slotCode (bitsOf w0 24 3) &&
    x4 == nbit w0 28 && x5 == bits w1 0 32
  | .and f x0 x1 x2 => dab 0xA0 f x0 x1 x2
  | .or f x0 x1 x2 => dab 0xA1 f x0 x1 x2
  | .xor f x0 x1 x2 => dab 0xA2 f x0 x1 x2
  | .shl f x0 x1 x2 => dab 0xA4 f x0 x1 x2
  | .shr f x0 x1 x2 => dab 0xA5 f x0 x1 x2
  | .sar f x0 x1 x2 => dab 0xA6 f x0 x1 x2
  | .rol f x0 x1 x2 => dab 0xA7 f x0 x1 x2
  | .btst f x0 x1 x2 => dab 0xA8 f x0 x1 x2
  | .bset f x0 x1 x2 => dab 0xA9 f x0 x1 x2
  | .bclr f x0 x1 x2 => dab 0xAA f x0 x1 x2
  | .qtest f x0 x1 x2 => dab 0xB0 f x0 x1 x2
  | .qany f x0 x1 x2 => dab 0xB1 f x0 x1 x2
  | .qmrg f x0 x1 x2 => dab 0xB2 f x0 x1 x2
  | .stobj f x0 x1 x2 => dab 0xF6 f x0 x1 x2
  | .not f x0 x1 => da 0xA3 f x0 x1
  | .lnot f x0 x1 => da 0xAB f x0 x1
  | .popc f x0 x1 => da 0xAE f x0 x1
  | .bfx f x0 x1 x2 x3 => da 0xAC f x0 x1 && x2 == bits w0 0 6 && x3 == bits w0 8 6
  | .bins f x0 x1 x2 x3 => own 0xAD f && x0 == rd && x1 == a && x2 == bits w0 0 6 && x3 == bits w0 8 6
  | .br f x0 => own 0xC0 f && x0 == off
  | .brt f x0 x1 => own 0xC1 f && x0 == srcOf i.d && x1 == off
  | .brf f x0 x1 => own 0xC2 f && x0 == srcOf i.d && x1 == off
  | .loop f x0 x1 x2 x3 => own 0xC4 f && x0 == rd && x1 == a && x2 == bits w0 16 16 && x3 == bits w0 0 16
  | .call f x0 x1 x2 => own 0xC8 f && x0 == rd && x1 == ra && x2 == (BitVec.ofNat 8 i.b.val)
  | .ret f x0 => own 0xC9 f && x0 == ra
  | .endTask f => own 0xCA f
  | .ton f x0 x1 x2 x3 => dab 0xD0 f x0 x1 x2 && x3 == key
  | .tof f x0 x1 x2 x3 => dab 0xD1 f x0 x1 x2 && x3 == key
  | .tp f x0 x1 x2 x3 => dab 0xD2 f x0 x1 x2 && x3 == key
  | .stepgo f x0 x1 x2 x3 => dab 0xDA f x0 x1 x2 && x3 == key
  | .rtrig f x0 x1 x2 => da 0xD3 f x0 x1 && x2 == key
  | .ftrig f x0 x1 x2 => da 0xD4 f x0 x1 && x2 == key
  | .stepis f x0 x1 x2 => da 0xDB f x0 x1 && x2 == key
  | .ctu f x0 x1 x2 x3 => own 0xD5 f && x0 == d && x1 == ra && x2 == b && x3 == key
  | .ctd f x0 x1 x2 x3 => own 0xD6 f && x0 == d && x1 == ra && x2 == b && x3 == key
  | .ctud f x0 x1 x2 x3 => own 0xD7 f && x0 == d && x1 == ra && x2 == b && x3 == key
  | .hyst f x0 x1 x2 x3 => da 0xD8 f x0 x1 && x2 == rb && x3 == key
  | .intg f x0 x1 x2 x3 => da 0xD9 f x0 x1 && x2 == rb && x3 == key
  | .oreset f x0 x1 => own 0xDC f && x0 == a && x1 == key
  | .ridx f x0 => own 0xE0 f && x0 == d
  | .rnxt f => own 0xE1 f
  | .ared f x0 x1 x2 x3 =>
    own 0xE2 f && x0 == (Fin.ofNat 16 i.d.val) && x1 == a &&
    x2 == ([.sum, .min, .max, .count].getD (i.b.val % 4) .count) && x3 == kCode (i.b.val / 4)
  | .clock f x0 => own 0xF0 f && x0 == d
  | .tickn f x0 => own 0xF1 f && x0 == d
  | .jrnl f x0 x1 => own 0xF2 f && x0 == a && x1 == rb
  | .tgsend f x0 => own 0xF3 f && x0 == a
  | .streq f x0 => own 0xF4 f && x0 == a
  | .panel f x0 x1 => own 0xF5 f && x0 == a && x1 == b
  | .stack f x0 => own 0xF7 f && x0 == a
  | .add f x0 x1 x2 x3 => typed 0x10 f x0 x1 x2 x3
  | .sub f x0 x1 x2 x3 => typed 0x18 f x0 x1 x2 x3
  | .mul f x0 x1 x2 x3 => typed 0x20 f x0 x1 x2 x3
  | .div f x0 x1 x2 x3 => typed 0x28 f x0 x1 x2 x3
  | .rem f x0 x1 x2 x3 => whole 0x30 f x0 x1 x2 x3
  | .adds f x0 x1 x2 x3 => whole 0x38 f x0 x1 x2 x3
  | .subs f x0 x1 x2 x3 => whole 0x40 f x0 x1 x2 x3
  | .muls f x0 x1 x2 x3 => whole 0x48 f x0 x1 x2 x3
  | .neg f x0 x1 x2 => da (0x50 + i.op % 8) f x1 x2 && x0 == k
  | .abs f x0 x1 x2 => da (0x58 + i.op % 8) f x1 x2 && x0 == k
  | .min f x0 x1 x2 x3 => typed 0x60 f x0 x1 x2 x3
  | .max f x0 x1 x2 x3 => typed 0x68 f x0 x1 x2 x3
  | .ceq f x0 x1 x2 x3 => typed 0x70 f x0 x1 x2 x3
  | .cne f x0 x1 x2 x3 => typed 0x78 f x0 x1 x2 x3
  | .clt f x0 x1 x2 x3 => typed 0x80 f x0 x1 x2 x3
  | .cle f x0 x1 x2 x3 => typed 0x88 f x0 x1 x2 x3
  | .sqrt f x0 x1 x2 => own (0x90 + i.op % 8) f && x0 == (if i.op % 8 = 4 then .f32 else .f64) && x1 == d && x2 == a
  | .lim f x0 x1 x2 x3 => own (0x98 + i.op % 8) f && x0 == k && x1 == rd && x2 == a && x3 == b
  | _ => false

/-- Whether words of a CODE section, the first of them at word index `pc`, spell this command (R95): check 0x03 passes and it is what
the engine executes there. -/
def spellsAt (e : Fin 12) (ws : List Nat) (pc : Nat) (c : Instr) : Bool := (decodeIns ws pc).any fun i => i.spells e c

end Sys2Proof.Machine
end

