-- ==== Sys2Proof/Tests/Slice0.lean ====
section
/-!
SUPPORT. Own tests: the well-formedness smoke test, small tests of single commands, and for every statement with
hypotheses the states and operands that meet them.
-/
namespace Sys2Proof.Tests
set_option Elab.async false
open Sys2Proof Sys2Proof.Machine

/-! ### Helpers -/

/-- The invariant as a Boolean. -/
def invOk (s : State) : Bool :=
  tabWf resetWord s.regs && memWf s.mem && tabWf (fun _ => ({} : Engine)) s.eng && tabWf (fun _ => ({} : Sta)) s.sta &&
  tabWf (fun _ => ({} : StrS)) s.str && tabWf (fun _ => ({} : Mario)) s.mario && tabWf (fun _ => ({} : TaskRec)) s.tasks &&
  tabWf (fun _ => ({} : TgRx)) s.tgRx && tabWf (fun _ => false) s.dirty && decide (s.viol.length ≤ 32) &&
  decide (s.plantA.tsq.length ≤ 16) && decide (s.plantB.tsq.length ≤ 16)

theorem inv_of (s : State) (h : invOk s = true) : s.Inv := by
  simp only [invOk, Bool.and_eq_true, decide_eq_true_eq] at h
  obtain ⟨⟨⟨⟨⟨⟨⟨⟨⟨⟨⟨h1, h2⟩, h3⟩, h4⟩, h5⟩, h6⟩, h7⟩, h8⟩, h9⟩, h10⟩, h11⟩, h12⟩ := h
  exact ⟨h1, h2, h3, h4, h5, h6, h7, h8, h9, h10, h11, h12⟩

/-- The reset state with some fields of registers set. -/
def withF (l : List (Fld × Nat)) (s : State := State.reset) : State := l.foldl (fun t p => t.wf p.1 p.2) s

/-- A state in which the device is in `d`. -/
def inDev (d : DevState) (l : List (Fld × Nat) := []) (s : State := State.reset) : State := { withF l s with dev := d }

/-- A frame for the image of the reset state. -/
def fr (kind : Nat) (payload : List Byte) (flags : Nat := 0) (src : Nat := 0) (tick : Nat := 0) (member : Nat := 0) (str : Nat := 0xFF)
    (hops : Nat := 0) (epoch : Nat := 0) : Frame := mkFrame 0 kind flags epoch tick 0 member src str hops payload

/-- Frames made so pass the checks of R190. -/
theorem fr_ok (kind : Nat) (b : List Byte) (flags src tick member str hops epoch : Nat) (kinds : List Nat) (o : Option Nat)
    (h : (kinds.contains kind && decide (kind < 256 ∧ b.length ≤ 9150 ∧ str < 256) && o.all (· == str)) = true) :
    frameErr (fr kind b flags src tick member str hops epoch) kinds (some 0) o = none := by
  simp only [Bool.and_eq_true, List.contains_iff_mem, decide_eq_true_eq] at h
  refine frameErr_mkFrame _ _ _ _ _ _ _ _ _ _ _ _ _ h.1.1 h.1.2.1 h.1.2.2.1 (fun k hk => ?_) h.1.2.2.2
  cases hk
  simpa using h.2

theorem checkStr_fr (s : State) (port kind : Nat) (b : List Byte) (flags src tick member str hops epoch : Nat)
    (h : (stringKinds.contains kind && decide (b.length ≤ 9150 ∧ str < 256 ∧ s.img.pairId = 0 ∧ s.strOf port = str)) = true) :
    s.checkStr port (fr kind b flags src tick member str hops epoch) = none := by
  simp only [Bool.and_eq_true, List.contains_iff_mem, decide_eq_true_eq] at h
  have hk : kind < 256 := by
    have := h.1
    simp only [stringKinds, List.mem_cons, List.not_mem_nil, or_false] at this
    omega
  unfold State.checkStr
  rw [h.2.2.2.1]
  refine frameErr_mkFrame _ _ _ _ _ _ _ _ _ _ _ _ _ h.1 hk h.2.1 (fun k hk => ?_) h.2.2.1
  split at hk <;> cases hk
  exact h.2.2.2.2

theorem pairErr_fr (s : State) (kind : Nat) (b : List Byte) (flags src tick member str hops epoch : Nat)
    (h : (s.pairUse && pairKinds.contains kind && decide (kind < 256 ∧ b.length ≤ 9150 ∧ str < 256 ∧ s.img.pairId = 0)) = true) :
    s.pairErr (fr kind b flags src tick member str hops epoch) = none := by
  simp only [Bool.and_eq_true, decide_eq_true_eq] at h
  unfold State.pairErr
  rw [if_pos h.1.1, h.2.2.2.2]
  exact fr_ok _ _ _ _ _ _ _ _ _ _ _ (by simpa using ⟨List.contains_iff_mem.1 h.1.2, h.2.1, h.2.2.1, h.2.2.2.1⟩)

theorem reset_inv : State.reset.Inv := inv_of _ (by decide +kernel)

/-! ### Well-formedness -/

theorem test_wf_size : (Instr.registerWrite 55 0x40000000 0 0).check = some 0 ∧ (Instr.registerWrite 55 0x40000000 4 0).wf = true := by
  decide
theorem test_wf_frame : (Instr.heartbeatReceive { fr 0x10 [] with payload := List.replicate 9151 0 }).check = some 0 := by
  decide +kernel
theorem test_wf_maps : (Instr.heardMapsReceive []).check = some 0 := by decide
theorem test_wf_immediate : (Instr.add 0 .i32 (.reg 1) (.imm64 0) (.reg 2)).check = some 3 ∧
    (Instr.add 0 .i64 (.reg 1) (.imm64 0) (.reg 2)).wf = true := by decide
theorem test_wf_two_indirect : (Instr.mov 0 (.ind 1 .u16 false) (.ind 2 .u16 .value)).check = some 4 := by decide
theorem test_wf_field : (Instr.bfx 0 (.reg 1) (.reg 2) 60 4).check = some 3 ∧ (Instr.bfx 0 (.reg 1) (.reg 2) 60 3).wf = true := by decide
theorem test_wf_pair : (Instr.ctud 0 (.reg 1) 61 (.reg 2) 1).check = some 4 ∧ (Instr.ctud 0 (.reg 1) 60 (.reg 2) 1).wf = true := by decide
theorem test_wf_branch : (Instr.br 0 0).check = some 5 := by decide
theorem test_wf_loop : (Instr.loop 0 1 (.imm32 4) 0 1).check = some 6 ∧ (Instr.loop 0 1 (.imm32 4) 4 1).wf = true := by decide
theorem test_wf_handle : (Instr.mov 0 (.out 0x500000 .bit false) (.reg 1)).check = some 8 ∧
    (Instr.mov 0 (.out 0x4FFFFF .bit false) (.reg 1)).wf = true := by decide
theorem test_wf_key : (Instr.ton 0 (.reg 1) (.reg 2) (.reg 3) 0).check = some 12 ∧ (Instr.ton 0 (.reg 1) (.reg 2) (.reg 3) 0x7FFFFFFF).wf = true ∧
    (Instr.mov 0 (.reg 1) (.sot 0xFFFFFF04 0)).check = some 12 ∧ (Instr.mov 0 (.reg 1) (.sot 0xFFFFFF03 0)).wf = true := by decide
theorem test_wf_debug : (Instr.debugAccess 0x80000000 2 .write [0]).check = some 0 := by decide
theorem test_wf_field_frames : (Instr.fieldCommandReceive ⟨true, true, false, []⟩).check = some 0 ∧
    (Instr.fieldStatusReceive ⟨true, [], false, none⟩).check = some 0 ∧
    (Instr.canFrameReceive 0 ⟨false, 1, true, false, 15, true, List.replicate 65 0⟩).check = some 0 := by decide +kernel

/-! ### Witnesses -/

/-- Context 55 may read and write registers. -/
def sup (l : List (Fld × Nat) := []) : State := withF ([(F.GATE_CTX_RW_READ_MASK 55, 0x8000), (F.GATE_CTX_RW_WRITE_MASK 55, 0x8000)] ++ l)

theorem wit_StepRunsFront : (∃ (c : Instr) (rest : List Instr) (s : State), s.pending = c :: rest) ∧ (∃ s : State, s.pending = []) :=
  ⟨⟨.gather, [], { State.reset with pending := [.gather] }, rfl⟩, State.reset, rfl⟩

theorem wit_TimeRuns : ∃ s : State, s.pending = [] ∧ s.Inv := ⟨State.reset, rfl, reset_inv⟩

/-- A field with a given access code of a register that context 55 may write. -/
def fieldAt (a : Nat) (p : FieldDef → Bool) : Bool :=
  (findReg a).any fun q => q.2.2.fields.any fun f => p f && !ownCommand a f.lo

theorem fieldAt_ex (a : Nat) (p : FieldDef → Bool) (h : fieldAt a p = true) :
    ∃ b i r f, findReg a = some (b, i, r) ∧ f ∈ r.fields ∧ p f = true ∧ ownCommand a f.lo = false := by
  unfold fieldAt at h
  match hq : findReg a with
  | none => rw [hq] at h; cases h
  | some (b, i, r) =>
    rw [hq] at h
    simp only [Option.any_some, List.any_eq_true, Bool.and_eq_true, Bool.not_eq_true'] at h
    obtain ⟨f, h1, h2, h3⟩ := h
    exact ⟨b, i, r, f, rfl, h1, h2, h3⟩

theorem wit_RegisterWriteFields_go (c : Acc) (addr : Word) (h : fieldAt addr.toNat (fun f => f.acc == c) = true)
    (h2 : (sup).gateOk 55 addr.toNat 4 .write = true) (h3 : addr.toNat % 4 = 0) (h4 : fixedBits addr.toNat = 0) :
    ∃ (s : State) (b : BlockDef) (i : Nat) (r : RegDef) (f : FieldDef), s.Inv ∧ s.gateOk 55 addr.toNat 4 .write = true ∧
      addr.toNat % 4 = 0 ∧ findReg addr.toNat = some (b, i, r) ∧ f ∈ r.fields ∧ f.acc = c ∧ ownCommand addr.toNat f.lo = false ∧
      fixedBits addr.toNat = 0 := by
  obtain ⟨b, i, r, f, e1, e2, e3, e4⟩ := fieldAt_ex _ _ h
  exact ⟨sup, b, i, r, f, inv_of _ (by decide +kernel), h2, h3, e1, e2, by simpa using e3, e4, h4⟩

theorem wit_RegisterWriteFields : (∃ (s : State) (b : BlockDef) (i : Nat) (r : RegDef) (f : FieldDef), s.Inv ∧
      s.gateOk 55 (0x40110010 : Word).toNat 4 .write = true ∧ (0x40110010 : Word).toNat % 4 = 0 ∧
      findReg (0x40110010 : Word).toNat = some (b, i, r) ∧ f ∈ r.fields ∧ f.acc = .rw ∧ ownCommand (0x40110010 : Word).toNat f.lo = false ∧
      fixedBits (0x40110010 : Word).toNat = 0) ∧
    (∀ a ∈ [0x40110018, 0x4011000C, 0x40090010, 0x400C0008, 0x40010000, 0x40070020], (sup).gateOk 55 a 4 .write = true) ∧
    (sup).locked 0x40010000 = false ∧ fieldAt 0x40010004 (fun f => f.acc == .rwl) = true ∧ fieldAt 0x40110020 (fun f => f.acc == .w1c) = true ∧
    (sup).gateOk 55 0x40010004 4 .write = true ∧ (sup).gateOk 55 0x40110020 4 .write = true := 
  ⟨wit_RegisterWriteFields_go .rw 0x40110010 (by decide +kernel) (by decide +kernel) (by decide +kernel) (by decide +kernel),
   by decide +kernel, by decide +kernel, by decide +kernel, by decide +kernel, by decide +kernel, by decide +kernel⟩

/-- A running device in a state that may trip. -/
def run (d : DevState) (m : SvcMode) (l : List (Fld × Nat) := []) : State :=
  { sup ((F.TICK_STAT_RUNNING, 1) :: l) with dev := d, svcMode := m, tick := 7, squelch := false }

theorem wit_RegisterReads :
    (sup).Inv ∧ (sup).gateOk 55 0x40010006 4 .read = true ∧ (sup).gateOk 55 0x40010006 4 .write = true ∧ 0x40010006 % 4 ≠ 0 ∧
    (sup).gateOk 55 0x40010000 1 .read = true ∧ (sup).gateOk 55 0x40010000 256 .write = true ∧
    findReg 0x4001FFFC = none ∧ (sup).gateOk 55 0x4001FFFC 4 .read = true ∧ (sup).gateOk 55 0x4001FFFC 4 .write = true ∧
    (findReg 0x40110020).isSome = true ∧ (sup).gateOk 55 0x40110020 4 .read = true ∧
    fieldAt 0x40110020 (fun f => f.acc != .rc) = true ∧ fieldAt 0x4001003C (fun f => f.acc == .rc) = true ∧
    (sup).gateOk 55 0x4001003C 4 .read = true :=
  ⟨inv_of _ (by decide +kernel), by decide +kernel⟩

/-- A value other than the mask of R369 for context 48, in both words of its entry. -/
theorem wit_RegisterWriteMasks :
    let m := (sup).fixedMasks (sup).img ((0x40030580 - 0x40030400) / 8)
    (sup).gateOk 55 0x40030580 4 .write = true ∧ (0xFFFFFFFF#32 &&& 0xFFFEFFFE#32 ≠ BitVec.ofNat 32 (m.1 + 65536 * m.2.1)) ∧
      (sup).gateOk 55 0x40030584 4 .write = true ∧ (0xFFFFFFFF#32 &&& 0xFFFF#32 ≠ BitVec.ofNat 32 m.2.2) := by decide +kernel

theorem wit_LatchingReads : (sup).Inv ∧ nbit ((sup).rf (F.GATE_CTX_RW_READ_MASK 55)) 15 = true :=
  ⟨inv_of _ (by decide +kernel), by decide +kernel⟩

theorem wit_PowerDomains : State.reset.Inv ∧ State.reset.pdOffOk 4 = false ∧ State.reset.pdOffOk 11 = true ∧ State.reset.ret.flushing = false ∧
    nbit (State.reset.reg 0x40000010).toNat 8 = true ∧ (withF [(F.SYS_PD_ACK, 0)]).Inv ∧
    nbit ((withF [(F.SYS_PD_ACK, 0)]).reg 0x40000010).toNat 24 = false ∧ nbit ((withF [(F.SYS_PD_ACK, 0)]).reg 0x40000010).toNat 8 = true ∧
    (run .ready .solo).Inv ∧ (run .ready .solo).pdOffOk 11 = true ∧ (run .ready .solo).ret.flushing = false ∧
    (run .ready .solo).rfb F.TICK_STAT_RUNNING = true ∧ State.reset.rfb F.TICK_STAT_RUNNING = false ∧
    ({ State.reset with ret := { flushing := true } } : State).Inv ∧
    (∀ b : Bool, let s : State := { State.reset with can0 := { pend := [⟨0, ⟨false, 1, true, false, 0, true, []⟩, 0, b⟩] } }
      invOk s = true ∧ (s.can 0).wakeDue = false ∧ ∃ x ∈ (s.can 0).pend, x.started = b) :=
  ⟨reset_inv, by decide +kernel, by decide +kernel, by decide +kernel, by decide +kernel, inv_of _ (by decide +kernel), by decide +kernel,
   by decide +kernel, inv_of _ (by decide +kernel), by decide +kernel, by decide +kernel, by decide +kernel, by decide +kernel,
   inv_of _ (by decide +kernel), by decide +kernel⟩

/-- A member of a triad that is to trip itself, a device with a silent field die. -/
def stTrip : State :=
  { run .active .solo [(F.FIELD_CTRL_EN, 1)] with fctl := { misses := 3 } }
def stSelf : State :=
  { run .member .triad [(F.TRI_CFG_TRIPCNT, 4), (F.TRI_STAT_MINCNT, 4)] with tri := { outVoted := some 7 } }

theorem wit_TripCauses : stTrip.Inv ∧ trippable stTrip.dev = true ∧ stTrip.rfb F.TICK_STAT_RUNNING = true ∧ stTrip.tick.toNat ≠ 0 ∧
    10 * 799999 < 8 * stTrip.tb ∧ 125 * stTrip.tb < 100 * 1250001 ∧ stTrip.expectsField = true ∧ 3 ≤ stTrip.fctl.misses ∧
    stSelf.Inv ∧ stSelf.isTriad = true ∧ stSelf.dev = .member ∧ stSelf.tri.outVoted = some stSelf.n ∧
    stSelf.rf F.TRI_CFG_TRIPCNT ≤ stSelf.rf F.TRI_STAT_MINCNT ∧ trippable stSelf.dev = true ∧
    (0x82800000 : Word).toNat < 0x90000000 ∧ 8 * stTrip.tb ≤ 10 * 800000 ∧ 100 * 1250000 ≤ 125 * stTrip.tb ∧ State.reset.fctl.misses < 3 := by
  refine
  ⟨inv_of _ (by decide +kernel), ?_, ?_, ?_, ?_, ?_,
   ?_, ?_, inv_of _ (by decide +kernel), ?_⟩
  all_goals decide +kernel

theorem wit_GateRetag : State.reset.Inv ∧ State.reset.locked 0x40030014 = false ∧
    (withF [(F.GATE_RETAG_A_LINE, 0x3E3FFF)]).locked 0x40030014 = false ∧ (withF [(F.GATE_RETAG_A_LINE, 0x3E3FFF)]).Inv ∧
    (withF [(F.GATE_RETAG_A_REGION, 1)]).locked 0x40030014 = false ∧ (withF [(F.GATE_RETAG_A_REGION, 1)]).Inv ∧
    tget false (withF [(F.GATE_RETAG_A_REGION, 1)]).tagBad 4194304 = false :=
  ⟨reset_inv, by decide +kernel, by decide +kernel, inv_of _ (by decide +kernel), by decide +kernel, inv_of _ (by decide +kernel),
   by decide +kernel⟩

theorem wit_TickBoundary : (run .active .solo).Inv ∧ (run .active .solo).rfb F.TICK_STAT_RUNNING = true ∧
    (run .active .solo).isPair = false ∧ (run .active .solo).due ≠ some .syncing ∧ State.reset.rfb F.TICK_STAT_RUNNING = false ∧
    (run .active .solo [(F.TICK_CFG_PTP_ALIGN, 1)]).Inv ∧ (run .active .solo [(F.TICK_CFG_PTP_ALIGN, 1)]).tickSrc ≠ 0 ∧
    (run .active .solo [(F.TICK_CFG_PTP_ALIGN, 1)]).rfb F.TICK_STAT_RUNNING = true :=
  ⟨inv_of _ (by decide +kernel), by decide +kernel, by decide +kernel, by decide +kernel, by decide +kernel,
   inv_of _ (by decide +kernel), by decide +kernel⟩

/-- One task of one shard on twin 0 and a device that serves. -/
def oneTask (l : List (Fld × Nat) := []) (m : SvcMode := .solo) : State :=
  { run .active m ((F.TICK_DUE_FROZEN, 1) :: l) with
    img := { svc := m, tasks := [{ img := { taskId := 5, code := [0x35000000] }, set := 1, place := [0] }] }
    sched := { placed := [⟨0, 0, 0⟩] } }

theorem wit_Overruns : (oneTask).Inv ∧ (oneTask).isTriad = false ∧ (oneTask).ungathered ≠ [] ∧ trippable (oneTask).dev = true ∧
    (oneTask).rf F.TICK_OVR_KIND = 0 ∧ State.reset.ungathered = [] ∧
    (let s : State := { oneTask with flights := [⟨0, 0, 7, 0, 7, true, none⟩] }
     s.Inv ∧ (∃ x ∈ s.flights, x.deadline = s.tick.toNat ∧ x.finished = none) ∧ trippable s.dev = true ∧
       s.rfb F.TICK_STAT_RUNNING = true) ∧
    (let s : State := { oneTask with flights := [⟨0, 0, 7, 0, 7, true, some (7, 500, 0)⟩] }
     s.Inv ∧ (∀ x ∈ s.flights, x.deadline = s.tick.toNat → x.finished ≠ none) ∧ s.dev ≠ .tripped) := by
  refine
  ⟨inv_of _ (by decide +kernel), ?_, ?_, ?_, ?_, ?_,
   ⟨inv_of _ (by decide +kernel), ?_⟩, ⟨inv_of _ (by decide +kernel), ?_⟩⟩
  all_goals decide +kernel

theorem wit_Overruns_others :
    (let s := oneTask [] .triad
     invOk s = true ∧ s.isTriad = true ∧ s.rfb F.TICK_STAT_RUNNING = true ∧ s.dev ≠ .tripped) ∧
    (let s : State := { oneTask [] .pair with saw := { hovrLive := true, hovrTick := 7 } }
     invOk s = true ∧ s.handsOver = true ∧ s.rfb F.TICK_STAT_RUNNING = true) ∧
    (let s := oneTask [(F.FIELD_CTRL_EN, 1), (F.FIELD_BASE_BASE, 128), (F.IMG_RD_B_LENGTH 0, 64), (F.IMG_RD_B_DIR 0, 2), (F.IMG_RD_A_START 0, 128)]
     invOk s = true ∧ s.fieldOn = true ∧ ((s.rangeOf 160).any fun r => s.deadlineAt s.tick.toNat r.cls) = true ∧
       ((s.rangeOf 192).any fun r => s.deadlineAt s.tick.toNat r.cls) = false) := by decide +kernel

/-- Activations of task 0 on the engines of twin 0. -/
def withActs (a b : Act) (s : State := oneTask) : State := { s with eng := [(0, { cur := some a }), (1, { cur := some b })] }
def act0 : Act := { task := 0, f := 7, pc := 0 }

theorem ready_all (s : State) (h : ((List.range 12).all fun e => (s.getEng e).ready.all fun a => !a.done) = true) :
    ∀ e a, e < 12 → a ∈ (s.getEng e).ready → a.done = false := fun e a he ha => by
  simp only [List.all_eq_true, List.mem_range, Bool.not_eq_true'] at h
  exact h e he a ha

theorem cur_all (s : State) (h : ((List.range 12).all fun e => (s.getEng e).cur.all fun a => !a.check) = true) :
    ∀ e a, e < 12 → (s.getEng e).cur = some a → a.check = false := fun e a he ha => by
  simp only [List.all_eq_true, List.mem_range] at h
  simpa [ha] using h e he

/-- The trailing engine one instruction behind, outside the window. -/
def trails (s : State := oneTask) : State := withActs { act0 with steps := 1 } act0 s

theorem wit_GatherAndExecute : (oneTask).Inv ∧ (oneTask).ungathered ≠ [] ∧ (oneTask).isTriad = false ∧
    (oneTask [] .triad).Inv ∧ (oneTask [] .triad).isTriad = true ∧ (oneTask [] .triad).tri.inVoted ≠ some (oneTask [] .triad).n ∧
    (let s : State := { oneTask with eng := [(0, { ready := [act0] })] }
     invOk s = true ∧ s.isTriad = false ∧ s.serving = true ∧ s.handsOver = false ∧
       (∀ e a, e < 12 → a ∈ (s.getEng e).ready → a.done = false) ∧ (∀ e a, e < 12 → (s.getEng e).cur = some a → a.check = false) ∧
       (s.getEng 0).cur = none ∧ (s.getEng 0).ready ≠ [] ∧ (s.getEng 1).ready = []) ∧
    (let s := withActs act0 act0
     invOk s = true ∧ (s.getEng (s.leader 1)).cur = some act0 ∧ s.suspends act0 = true ∧ s.level 1 = true) ∧
    (let s := withActs { act0 with done := true } { act0 with done := true }
     invOk s = true ∧ (s.getEng (s.leader 1)).cur = some { act0 with done := true } ∧ s.suspends { act0 with done := true } = false) ∧
    (invOk trails = true ∧ ((trails).getEng ((trails).leader 1)).cur = some { act0 with steps := 1 } ∧ (trails).level 1 = false ∧
      (trails).twinMode 1 = true ∧ (trails).sched.execOpen = false ∧ (trails).mayRun 1 = true ∧ (trails).dev ≠ .tripped ∧
      ((trails).getEng 1).cur = some act0 ∧ (trails).img.tasks[act0.task]? ≠ none ∧ act0.staged.length ≤ 1024) ∧
    engineOf (.nop 0) = some 0 ∧ (Instr.nop 0).check = none ∧ (trails).mayRun 0 = false := by
  exact ⟨inv_of _ (by decide +kernel), by decide +kernel, by decide +kernel, inv_of _ (by decide +kernel), by decide +kernel, by decide +kernel,
    ⟨by decide +kernel, by decide +kernel, by decide +kernel, by decide +kernel, ready_all _ (by decide +kernel), cur_all _ (by decide +kernel),
      by decide +kernel⟩, by decide +kernel⟩

/-- Both engines at the end of their segments, with the phase past D. -/
def stCmp (a b : Act) (p : Nat) : State := { withActs a b with phase := p }

theorem wit_TwinAgreement :
    (let s := stCmp { act0 with done := true, digest := 1 } { act0 with done := true } 0
     s.Inv ∧ s.twinMode 0 = true ∧ (s.getEng 0).cur = some { act0 with done := true, digest := 1 } ∧
       (s.getEng 1).cur = some { act0 with done := true } ∧ trippable s.dev = true) ∧
    (let s := stCmp act0 act0 0
     s.Inv ∧ s.twinMode 0 = true ∧ (s.getEng 0).cur = some act0 ∧ (act0.done || act0.check) = false) ∧
    (let s := stCmp { act0 with done := true } { act0 with done := true } 249999
     s.Inv ∧ s.commitSpan = false ∧ s.twinMode 0 = true ∧ s.dev ≠ .tripped ∧ (s.getEng 0).cur = some { act0 with done := true } ∧
       (s.getEng 1).cur = some { act0 with done := true } ∧ (s.getEng 0).ecc = false ∧ (s.getEng 1).ecc = false ∧
       nbit s.sched.injDue 0 = false ∧ s.dupRuns = false) ∧
    (let s : State := { oneTask [(F.TWIN_CFG_INJ_INT, 1)] with sched := { injDue := 1 }, ns := 2000000000 }
     s.Inv ∧ nbit s.sched.injDue 0 = true ∧ trippable s.dev = true ∧ s.twinMode 0 = true ∧ s.injElapsed 0 0 = true ∧
       s.injElapsed 0 1000000000 = true) ∧ State.reset.injElapsed 0 0 = false ∧
    (withF [(F.SYS_MODE_SPLIT, 1)]).Inv ∧ (withF [(F.SYS_MODE_SPLIT, 1)]).twinMode 0 = false :=
  ⟨⟨inv_of _ (by decide +kernel), by decide +kernel⟩, ⟨inv_of _ (by decide +kernel), by decide +kernel⟩,
   ⟨inv_of _ (by decide +kernel), by decide +kernel⟩, ⟨inv_of _ (by decide +kernel), by decide +kernel⟩,
   by decide +kernel, inv_of _ (by decide +kernel), by decide +kernel⟩

/-- A deferred segment that writes two variable bytes, the colours open to engine 0's set 1. -/
def stDefer : State :=
  let s := oneTask [(F.GATE_CTX_RW_READ_MASK 1, 0xFFFF), (F.GATE_CTX_RW_WRITE_MASK 1, 0xFFFF)]
  { s with phase := 100000, deferred := [(0, { act0 with done := true, staged := [.line varBase [(varBase, 7), (varBase + 63, 9)]] })]
           tagRuns := [((varBase - 0x80000000) / 64, 1, 1)] }
/-- An entry of the force table. -/
def stForced (i h : Nat) : State := State.reset.putForce i h 5 true

theorem wit_CommitsAndForces :
    (stDefer.Inv ∧ stDefer.dev ≠ .tripped ∧ stDefer.commitSpan = true ∧ varBase < sotBase ∧ stDefer.retained = [] ∧
      stDefer.gateOk (4 * 0 + (stDefer.img.tasks[0]?).elim 0 (·.set)) varBase 64 .write = true ∧
      ([(varBase, (7 : Byte)), (varBase + 63, 9)].map Prod.fst).Nodup) ∧
    (let s : State := { State.reset with svc := { forces := [(true, 5242879, 5)] } }
     s.Inv ∧ s.forceIdx 5242879 = none ∧ s.forceFree ≠ none ∧ s.dirOf 5242879 ≠ 2) ∧
    (let s : State := { stForced 1023 0 with svc := { forces := [(false, 0, 0)] } }
     s.Inv ∧ s.forceIdx 0 = some 1023) :=
  ⟨⟨inv_of _ (by decide +kernel), by decide +kernel⟩, ⟨inv_of _ (by decide +kernel), by decide +kernel⟩,
   inv_of _ (by decide +kernel), by decide +kernel⟩

/-- Bays due for fencing, fenced and draining. -/
def stDue (n : Nat) (l : List (Fld × Nat) := []) : State := oneTask ([(F.SEQ_FENCE_DUE, n), (F.SEQ_FENCE_CFG_AUTO, 1)] ++ l)

theorem wit_BaysFenced :
    (let s := run .active .solo [(F.SEQ_FENCE_CFG_AUTO, 1), (F.SEQ_FENCE_CFG_LIMIT, 4), (F.SEQ_BAYEVT_COUNT 2, 3)]
     s.Inv ∧ s.rf F.SEQ_FENCE_CFG_LIMIT ≤ min 255 (s.rf (F.SEQ_BAYEVT_COUNT 2) + 1) ∧ s.rfb F.SEQ_FENCE_CFG_AUTO = true ∧
       nbit (s.rf F.SEQ_FENCE_FENCED) 2 = false) ∧
    (let s := withActs act0 act0
     s.Inv ∧ (s.getEng 0).cur ≠ none ∧ s.twinMode 0 = true) ∧
    (let s := withActs act0 act0 (oneTask [(F.SYS_MODE_SPLIT, 1)])
     s.Inv ∧ (s.getEng 0).cur ≠ none ∧ s.twinMode 0 = false) ∧
    ((stDue 1).Inv ∧ nbit ((stDue 1).rf F.SEQ_FENCE_DUE) 0 = true ∧ (stDue 1).sched.newPlaced = none ∧ (stDue 1).rfb F.SEQ_FENCE_CFG_AUTO = true ∧
      ((stDue 1).findPlace (stDue 1).img (stDue 1).sched.placed ((stDue 1).rf F.SEQ_FENCE_FENCED ||| 2 ^ 0) (stDue 1).sched.shed).isSome = true) ∧
    ((stDue 4).Inv ∧ nbit ((stDue 4).rf F.SEQ_FENCE_DUE) 2 = true ∧ ∀ k, k < 2 → nbit ((stDue 4).rf F.SEQ_FENCE_DUE) k = false) ∧
    (let s : State := { stDue 1 with sched := { newPlaced := some (0, [⟨0, 0, 2⟩], []) }, since := 1 }
     s.Inv ∧ s.since ≠ 0 ∧ s.awaitsMove = false) ∧
    (let s : State := { run .active .solo [(F.SEQ_FENCE_FENCED, 1), (F.SEQ_FENCE_DRAINING, 1)] with sched := { placed := [⟨0, 0, 2⟩] } }
     s.Inv ∧ nbit (s.rf F.SEQ_FENCE_DRAINING) 0 = true ∧ (∀ e, 4 * 0 ≤ e → e < 4 * 0 + 4 → (s.getEng e).cur = none ∧ (s.getEng e).ready = []) ∧
       (∀ p ∈ s.deferred, p.1 / 4 ≠ 0) ∧ nbit (s.rf F.SEQ_FENCE_FENCED) 0 = true ∧ s.ret.flushing = false ∧
       (∀ p ∈ s.sched.placed, bayOf p.code ≠ 0) ∧ s.rfb F.TICK_STAT_RUNNING = true) :=
  ⟨⟨inv_of _ (by decide +kernel), by decide +kernel⟩, ⟨inv_of _ (by decide +kernel), by decide +kernel⟩,
   ⟨inv_of _ (by decide +kernel), by decide +kernel⟩, ⟨inv_of _ (by decide +kernel), by decide +kernel⟩,
   ⟨inv_of _ (by decide +kernel), by decide +kernel⟩, ⟨inv_of _ (by decide +kernel), by decide +kernel⟩,
   ⟨inv_of _ (by decide +kernel), by decide +kernel, by
     intro e _ h; match e, h with | 0, _ => decide +kernel | 1, _ => decide +kernel | 2, _ => decide +kernel | 3, _ => decide +kernel,
    by decide +kernel⟩⟩

/-- With the two other bays fenced there is no placement, for a device that serves and for a standby. -/
theorem wit_BaysFenced_none : ∀ d ∈ [DevState.active, .standby],
    let s : State := { stDue 1 [(F.SEQ_FENCE_FENCED, 6)] with dev := d }
    invOk s = true ∧ nbit (s.rf F.SEQ_FENCE_DUE) 0 = true ∧ s.sched.newPlaced = none ∧
      (s.findPlace s.img s.sched.placed (s.rf F.SEQ_FENCE_FENCED ||| 2 ^ 0) s.sched.shed).isSome = false := by decide +kernel

/-- A device with one station at position 1 of string 0 whose one input run holds two U16 slots with quality, and whose one
output run one U32 slot. -/
def theSta : StaDef := { str := 0, pos := 1, typ := 0x1234, serial := 77, fwMin := 1, fwMax := 9, caps := 0, h := 4, ack := true, alpha := 0
                         runs := [⟨1, true, 1, 2⟩, ⟨2, false, 3, 1⟩], ins := [(10, 2)], outs := [(64, 1)], safe := [0, 0, 0, 0] }
def plantS (d : DevState) (m : SvcMode) (l : List (Fld × Nat) := []) (sta : Sta := {}) : State :=
  { run d m ([(F.STR_CTRL_EN 0, 1), (F.STR_STAT_UP 0, 1), (F.GATE_CTX_RW_READ_MASK 48, 0xFFFF), (F.GATE_CTX_RW_WRITE_MASK 48, 0xFFFF)] ++ l) with
    img := { svc := m, stations := [theSta] }
    addrOk := true
    sta := if sta = {} then [] else [(1, sta)] }
def be (n v : Nat) : List Byte := beBytes n v
/-- A reply of that station: STATUS 1, then two measured values, the applied one, two quality bytes. -/
def reply1 : Frame := fr 2 (be 4 1 ++ be 12 0 ++ [0, 5, 0, 6, 0, 0, 0, 7, 1, 0x79]) 0 1 7 0 0
def badFcs (k : Nat) : Frame := { fr k [] 0 1 7 0 0 with fcsOk := false }

theorem wit_StringPortsAndFrames : (plantS .active .solo).Inv ∧ (plantS .active .solo).hears 0 = true ∧ (badFcs 2).etherType = 0x88B5 ∧
    (badFcs 2).fcsOk = false := ⟨inv_of _ (by decide +kernel), by decide +kernel⟩

theorem wit_RepliesAndCues :
    (let s : State := { plantS .active .solo with phase := 100000 }
     let l := landRuns (s.dueRuns theSta s.n) (reply1.payload.drop 16) ((reply1.payload.drop 16).drop (valueLen (s.dueRuns theSta s.n)))
       (BitVec.ofNat 8 (b2n (nbit (beAt reply1.payload 0 4) 0)))
     s.Inv ∧ s.dev ≠ .tripped ∧ s.hears 0 = true ∧ s.checkStr 0 reply1 = none ∧ s.srcSta (s.strOf 0) reply1 = some theSta ∧
       reply1.kind = 2 ∧ s.reached (s.rf F.TICK_PH2_SAMPLE) = true ∧ 1000 * s.inTick ≤ s.rf F.TICK_PH1_REPLY_END * s.tb ∧
       reply1.payload.length = 16 + replyLen (s.dueRuns theSta s.n) ∧ s.isPair = false ∧ s.eccBad = [] ∧
       l.length = 3 ∧ (l.map (·.1)).Nodup ∧ (∀ x ∈ l, x.1 < 5242880 ∧ s.gateOk 48 (bankL + 8 * x.1) 8 .write = true)) ∧
    (let s := plantS .active .solo
     s.mayCue = true ∧ s.rfb (F.STR_CTRL_EN 0) = true ∧ s.squelch = false ∧ (s.getStr 0).cueTick ≠ some s.n ∧ s.withholds = false ∧
       s.mirr.withheld ≠ some s.n ∧ s.rfb (F.STR_STAT_RELAY 0) = false ∧ s.cueFrames 0 ≠ []) ∧
    (let s : State := { plantS .active .solo with str := [(0, { cueTick := some 7 })] }
     invOk s = true ∧ s.mayCue = true ∧ s.rfb (F.STR_CTRL_EN 0) = true ∧ s.squelch = false ∧ (s.getStr 0).cueTick = some s.n) ∧
    (let s : State := { plantS .active .solo with mirr := { withheld := some 7 } }
     invOk s = true ∧ s.mayCue = true ∧ s.rfb (F.STR_CTRL_EN 0) = true ∧ s.squelch = false ∧ (s.getStr 0).cueTick ≠ some s.n ∧
       s.mirr.withheld = some s.n) ∧
    (let s : State := { plantS .active .pair [(F.SYS_MODE_COMMIT, 1)] with saw := { role := .leased, grantElig := true } }
     s.Inv ∧ s.mayCue = true ∧ s.rfb (F.STR_CTRL_EN 0) = true ∧ s.squelch = false ∧ (s.getStr 0).cueTick ≠ some s.n ∧
       s.withholds = true ∧ s.mirr.withheld ≠ some s.n) :=
  ⟨⟨inv_of _ (by decide +kernel), by decide +kernel⟩, by decide +kernel, by decide +kernel, by decide +kernel, inv_of _ (by decide +kernel), by decide +kernel⟩

/-- A standby that relays on string 0. -/
def standby0 : State := { plantS .standby .pair [(F.PAIR_CTRL_EN, 1)] with saw := { role := .standby } }

theorem wit_RollcallAndRelay : (plantS .ready .solo).Inv ∧ (plantS .ready .solo).mayRoll 0 = true ∧ (plantS .ready .solo).isPair = false ∧
    ((plantS .ready .solo).getStr 0).rcTick ≠ some (plantS .ready .solo).n ∧
    (fr 1 [0, 0, 0, 1] 0 0xFE 7 0 0).kind = 1 ∧ (fr 1 [0, 0, 0, 1] 0 0xFE 7 0 0).tick.toNat = standby0.n ∧
    (fr 1 [0, 0, 0, 1] 0 0xFE 7 0 0).epoch.toNat = standby0.rf F.SAW_EPOCH_EPOCH ∧ standby0.Inv ∧ standby0.pairUse = true ∧ standby0.dev = .standby ∧ standby0.saw.role = .standby ∧ standby0.rfb (F.STR_CTRL_EN 0) = true ∧
    standby0.squelch = false ∧ frameErr (fr 1 [0, 0, 0, 1] 0 0xFE 7 0 0) stringKinds (some standby0.img.pairId) (some 0) = none ∧
    (7 ∈ stringKinds ∧ (List.replicate 9150 (0 : Byte)).length ≤ 9150) := by
  refine
  ⟨inv_of _ (by decide +kernel), ?_, ?_, ?_, ?_, ?_,
   ?_, inv_of _ (by decide +kernel), ?_, ?_,
   ?_, ?_, ?_, ?_, by decide, Nat.le_of_eq List.length_replicate⟩
  all_goals decide +kernel

/-- A roll-call answer of the station, and one of a station that the list does not name. -/
def answer1 (src : Nat) (typ : Nat := 0x1234) : Frame :=
  fr 3 (be 4 typ ++ be 8 77 ++ be 4 3 ++ be 6 0 ++ [2, 0] ++ be 2 100 ++ be 2 200 ++ be 8 0) 4 src 6 0 0
def asked (s : State) : State := { s with str := [(0, { rcTick := some 6 })] }
/-- The end-B port of a looped string, asked. -/
def looped : State :=
  { plantS .active .solo [(F.STR_CTRL_LOOP 0, 1), (F.STR_STAT_UP 1, 1)] with str := [(1, { rcTick := some 6 })] }

/-- A DELAYS message of the partner with two positions. -/
def delays2 : Frame := fr 0x15 (be 8 0 ++ be 2 2 ++ be 6 0 ++ be 4 0x00640064 ++ be 4 0xFFFFFFFF) 0 0xFE 7 0 15

theorem wit_RollcallAnswers_typ :
    (asked (plantS .active .solo)).checkStr 0 (answer1 1 0x1235) = none ∧ (asked (plantS .active .solo)).staDef 1 = some theSta ∧
    beAt (answer1 1 0x1235).payload 0 4 ≠ theSta.typ.toNat :=
  ⟨checkStr_fr _ _ _ _ _ _ _ _ _ _ _ (by decide +kernel), by decide +kernel⟩

theorem wit_RollcallAnswers : (asked (plantS .active .solo)).Inv ∧ (asked (plantS .active .solo)).hears 0 = true ∧
    looped.Inv ∧ looped.hears 1 = true ∧ looped.strOf 1 ≠ 1 ∧ looped.checkStr 1 (answer1 1) = none ∧
    (looped.getStr 1).rcTick = some (answer1 1).tick.toNat ∧
    (∀ k ∈ [1, 127], (asked (plantS .active .solo)).checkStr 0 (answer1 k) = none) ∧
    (∀ k ∈ [1, 127], (answer1 k).kind = 3 ∧ frameFlag (answer1 k) 2 = true ∧
      ((asked (plantS .active .solo)).getStr 0).rcTick = some (answer1 k).tick.toNat ∧ (answer1 k).src.toNat < 128 ∧
      36 ≤ (answer1 k).payload.length) ∧ (asked (plantS .active .solo)).staDef 127 = none ∧
    standby0.pairErr delays2 = none ∧ delays2.kind = 0x15 ∧ standby0.isPair = true ∧ delays2.strNo.toNat < 16 ∧
    beAt delays2.payload 8 2 ≤ 128 ∧ delays2.payload.length = 16 + 4 * beAt delays2.payload 8 2 ∧ standby0.Inv := by
  refine
  ⟨inv_of _ (by decide +kernel), ?_, inv_of _ (by decide +kernel), ?_, ?_,
   checkStr_fr _ _ _ _ _ _ _ _ _ _ _ (by decide +kernel),
   ?_, fun k _ => checkStr_fr _ _ _ _ _ _ _ _ _ _ _ (by decide +kernel), ?_,
   ?_, pairErr_fr _ _ _ _ _ _ _ _ _ _ (by decide +kernel), ?_, ?_, ?_,
   ?_, ?_, inv_of _ (by decide +kernel)⟩
  all_goals decide +kernel

/-- A SERVICE_RSP to the station's request. -/
def rsp1 (result : Nat) : Frame := fr 5 ([1, 2] ++ be 2 9 ++ be 4 0 ++ [BitVec.ofNat 8 result, 0, 0, 0]) 0 1 7 0 0

theorem wit_AdmissionRequests :
    (let s : State := { plantS .active .solo [] { matched := true } with str := [(0, { rcTick := some 7, rcSpc := 100 })] }
     s.Inv ∧ s.asks 0 1 = true ∧ s.admDue (128 * 0 + 1) ≠ 0 ∧
       (s.getSta 1).req = [] ∧ (s.getSta 1).reqTick ≠ s.n) ∧
    (∀ st ∈ [1, 8, 9], ∀ r ∈ [0, 3], (let s := plantS .active .solo [] { admStep := st, req := [1], reqSeq := 9 }
     invOk s = true ∧ s.hears 0 = true ∧ s.checkStr 0 (rsp1 r) = none ∧ (rsp1 r).kind = 5 ∧ 12 ≤ (rsp1 r).payload.length ∧
       beAt (rsp1 r).payload 0 1 = 1 ∧ (s.getSta 1).req ≠ [] ∧ beAt (rsp1 r).payload 2 2 = (s.getSta 1).reqSeq ∧
       beAt (rsp1 r).payload 8 1 = r)) ∧
    (∀ n ∈ [2, 3], (let s := plantS .active .solo [] { admStep := 2, req := [1], reqTick := 3, tries := n }
     invOk s = true ∧ s.drives = true ∧ (s.getSta 1).req ≠ [] ∧ s.n = (s.getSta 1).reqTick + 4)) ∧
    (let s : State := { plantS .active .solo [] { admStep := 2, req := [1], reqTick := 3 } with str := [(0, { rcTick := some 7, rcSpc := 100 })] }
     invOk s = true ∧ s.asks 0 1 = true ∧ (s.getSta 1).req ≠ [] ∧ (s.getSta 1).reqTick + 4 ≤ s.n ∧ (s.getSta 1).tries < 3 ∧
       ∀ q, q < 128 → q ≠ 1 → (s.getSta (128 * 0 + q)).req = []) :=
  ⟨⟨inv_of _ (by decide +kernel), by decide +kernel⟩, by decide +kernel, by decide +kernel, by decide +kernel⟩

theorem wit_AdmissionAndProbation :
    (∀ x ∈ [({ admReady := true } : Sta), { admitted := true, lose := true, prob := 2 }, { probDue := true, admitted := true, prob := 0 },
        { prob := 1, streak := 1 }, { ackPend := true, prob := 2 }],
      invOk (plantS .active .solo [] x) = true ∧ ((plantS .active .solo [] x).getSta (128 * 0 + 1)) = x) ∧
    (plantS .active .solo).staDef (128 * 0 + 1) = some theSta ∧ (plantS .active .solo [] { admitted := true, probDue := true }).drives = true ∧ 2 ^ (plantS .active .solo).slowest theSta ≤ 1 ∧
    (let s : State := { plantS .active .pair [(F.PAIR_STAT_UP, 1)] { admitted := true } with saw := { role := .leased } }
     s.Inv ∧ s.isPair = true ∧ s.drives = true ∧ s.rfb F.PAIR_STAT_UP = true) ∧
    (standby0.pairErr (fr 0x16 (List.replicate 512 2) 0 0xFE 7) = none ∧ (fr 0x16 (List.replicate 512 2) 0 0xFE 7).kind = 0x16 ∧
       standby0.dev ≠ .active ∧ (fr 0x16 (List.replicate 512 2) 0 0xFE 7).payload.length = 512 ∧
       (standby0.img.stations.map fun d => 128 * d.str + d.pos).Nodup ∧ (∀ d ∈ standby0.img.stations, d.str < 16 ∧ d.pos < 128)) := by
  refine
  ⟨?_, ?_, ?_, ?_, ⟨inv_of _ (by decide +kernel), ?_⟩,
   pairErr_fr _ _ _ _ _ _ _ _ _ _ (by decide +kernel), ?_, ?_, ?_, ?_,
   ?_⟩
  all_goals decide +kernel

/-- An active whose string 0 is relayed. -/
def relayed (q : Nat) : State :=
  { plantS .active .pair [(F.STR_STAT_RELAY 0, 1), (F.PAIR_CTRL_EN, 1)] with saw := { role := .leased }, str := [(0, { quiet := q })], phase := 100000 }

theorem wit_BreakRelay : standby0.Inv ∧ standby0.isPair = true ∧ standby0.dev = .standby ∧
    (∀ q ∈ [15, 16], invOk (relayed q) = true ∧ (relayed q).rfb (F.STR_STAT_RELAY 0) = true ∧ ((relayed q).getStr 0).quiet = q) ∧
    (relayed 1).pairUse = true ∧ reply1.epoch.toNat ≤ (relayed 1).rf F.SAW_KNOWN_KNOWN ∧ (relayed 0).isPair = true ∧ (relayed 0).dev = .active ∧ reply1.kind = 2 ∧ reply1.tick.toNat = (relayed 1).n ∧ (List.replicate 16 (0 : BitVec 128)).length = 16 ∧
    frameErr reply1 stringKinds (some (relayed 1).img.pairId) (some 0) = none ∧ (relayed 1).srcSta 0 reply1 = some theSta ∧
    ((relayed 1).getSta (128 * 0 + 1)).u ≠ some (relayed 1).n ∧ ∃ u, (relayed 1).land theSta reply1 = some u ∧ u.dev = .active := by
  refine
  ⟨inv_of _ (by decide +kernel), ?_, ?_, ?_, ?_, ?_, ?_, ?_, ?_, ?_, rfl,
   ?_, ?_, ?_, ((relayed 1).land theSta reply1).getD (relayed 1), ?_⟩
  all_goals decide +kernel

/-- A marionette at position 1 of string 0: one output run of one U32 slot. Its parameter objects: BIND, TIMING (1 ms), PATH,
HOLD 3, LAYOUT, SCHED, SAFE. -/
def mtype (caps : Byte := 0) : MarioType :=
  { typ := 0x1234, serial := 77, fw := 3, nin := 0, nout := 1, runs := [BitVec.ofNat 32 (2 * 2 ^ 30 + 3 * 2 ^ 26 + 1)], caps := caps,
    dAB := 100, dBA := 200, safe := [9], objects := [[0]] }
def mobjs : List (Nat × List Byte) :=
  [(1, be 8 0 ++ [0, 1, 0, 0]), (2, be 4 1000000 ++ be 4 100 ++ be 4 400000 ++ be 12 0), (3, be 8 0), (4, be 2 3 ++ be 2 0),
   (5, be 4 (2 * 2 ^ 30 + 3 * 2 ^ 26 + 1)), (6, [0, 0]), (7, be 4 9)]
def mar (st : MSt := .bound) (caps : Byte := 0) : Mario :=
  { powered := true, ty := some (mtype caps), pos := some 1, st := st, objs := mobjs, out := [4] }
/-- The same with an estimate from the cue of tick 7, whose section is the next to apply. -/
def marE : Mario := { mar with cueEst := some 7, tickEst := 7, applies := some 7 }
def plantM (x : Mario) (k : Nat := 1) : State := { plantS .active .solo with mario := [(k, x)] }

/-- A roll-call request, a CUE with a section for position 1, a RELEASE with SAFE, a parameter request. -/
def rcReq (flags : Nat) : Frame := fr 3 ([0, 4] ++ be 6 0 ++ [16, 0, 0, 0]) flags 0xFE 6 0 0 1
def cue1 (member : Nat := 0) (v : Nat := 42) : Frame := fr 1 ([0, 0, 0, 1] ++ [1, 0] ++ be 2 4 ++ be 4 v) 0 0xFE 7 member 0
def rel1 (flags : Nat) : Frame := fr 7 [] flags 0xFE 7 0 0
def preq (op obj : Nat) (d : List Byte) : Frame := fr 4 ([1, BitVec.ofNat 8 op] ++ be 2 5 ++ be 2 obj ++ be 2 d.length ++ be 4 0 ++ d) 0 0xFE 7 0 0

theorem takes_fr (x : Mario) (port : MPort) (kind : Nat) (b : List Byte) (flags src tick member str hops epoch : Nat)
    (h : (x.powered && x.up port && x.obj 1 == some (be 8 0 ++ [0, 1, 0, 0]) && str == 0 && stringKinds.contains kind &&
      decide (b.length ≤ 9150)) = true) :
    x.takes port (fr kind b flags src tick member str hops epoch) = true := by
  simp only [Bool.and_eq_true, beq_iff_eq, List.contains_iff_mem, decide_eq_true_eq] at h
  obtain ⟨⟨⟨⟨⟨h1, h2⟩, h3⟩, rfl⟩, h5⟩, h6⟩ := h
  have hk : kind < 256 := by
    have := h5
    simp only [stringKinds, List.mem_cons, List.not_mem_nil, or_false] at this
    omega
  have he : x.err (fr kind b flags src tick member 0 hops epoch) = none := by
    unfold Mario.err
    rw [h3]
    refine frameErr_mkFrame _ _ _ _ _ _ _ _ _ _ _ _ _ h5 hk h6 (fun k hk => ?_) (by decide)
    cases hk
    decide +kernel
  simp [Mario.takes, h1, h2, he]

theorem wit_MarionetteTraffic :
    (plantM (mar) 6143).Inv ∧ ((plantM (mar) 6143).getMario 6143).powered = true ∧ ((plantM (mar) 6143).getMario 6143).up .a = true ∧
    ((plantM (mar) 6143).getMario 6143).up (otherPort .a) = true ∧ (rcReq 0).etherType = 0x88B5 ∧ (rcReq 0).proto = 0xA7 ∧
    (rcReq 0).len ≤ 9216 ∧ ((plantM (mar) 6143).getMario 6143).waiting (otherPort .a) (plantM (mar) 6143).mono = none ∧
    (∀ b ∈ [0, 1], (mar).takes .a (rcReq b) = true) ∧ (∀ b ∈ [0, 1], (rcReq b).kind = 3 ∧ frameFlag (rcReq b) 2 = false ∧
      (rcReq b).payload.length = 12) ∧ (mar).lastFromA = none ∧
    (mar).far = false ∧ (rcReq 0).hops.toNat < 128 ∧ beAt (rcReq 0).payload 0 1 ≤ (rcReq 0).hops.toNat ∧
    (rcReq 0).hops.toNat < beAt (rcReq 0).payload 0 1 + beAt (rcReq 0).payload 1 1 ∧
    (let x := { mar with rc := [(500, .a, rcReq 0), (600, .b, rcReq 1)] }
     invOk (plantM x) = true ∧ (plantM x).getMario 1 = x ∧ x.ty = some (mtype) ∧ x.powered = true ∧ x.far = false ∧ x.up .a = true) := by
  refine
  ⟨inv_of _ (by decide +kernel), ?_, ?_, ?_, ?_, ?_,
   ?_, ?_, fun _ _ => takes_fr _ _ _ _ _ _ _ _ _ _ _ (by decide +kernel), ?_, ?_,
   ?_⟩
  all_goals decide +kernel

theorem preq_takes (st : MSt) (op obj : Nat) (d : List Byte) (h : d.length ≤ 9000) : (mar st).takes .a (preq op obj d) = true := by
  have e : ([1, BitVec.ofNat 8 op] ++ be 2 5 ++ be 2 obj ++ be 2 d.length ++ be 4 0 ++ d : List Byte).length ≤ 9150 := by
    simp only [be, List.length_append, List.length_cons, List.length_nil, beBytes, List.length_reverse]
    have : ∀ n v, (leBytes n v).length = n := by
      intro n
      induction n with
      | zero => intro v; rfl
      | succ n ih => intro v; simp [leBytes, ih]
    simp only [this]
    omega
  exact takes_fr _ _ _ _ _ _ _ _ _ _ _ (by rw [decide_eq_true e]; cases st <;> decide +kernel)

/-- READ of each object, a WRITE of object 3 and of object 2, a COMMIT that passes and one that fails, a DISCARD. -/
theorem wit_MarionetteParameters :
    (∀ st : MSt, invOk (plantM (mar st)) = true) ∧
    (∀ st ∈ [MSt.unbound, .bound, .running], ∀ f ∈ [preq 1 1 [], preq 1 7 [], preq 2 3 (be 8 5), preq 2 2 (be 24 0), preq 3 0 [], preq 4 0 []],
      f.kind = 4 ∧ (mar st).pos = some (beAt f.payload 0 1) ∧ f.payload.length = 12 + beAt f.payload 6 2 ∧
        (mar st).lastSeq ≠ some (beAt f.payload 2 2)) ∧
    (∀ st : MSt, ∀ op obj, ∀ d : List Byte, d.length ≤ 9000 → (mar st).takes .a (preq op obj d) = true) ∧
    beAt (preq 1 7 []).payload 1 1 = 1 ∧ beAt (preq 2 3 (be 8 5)).payload 1 1 = 2 ∧ beAt (preq 3 0 []).payload 1 1 = 3 ∧
    beAt (preq 4 0 []).payload 1 1 = 4 ∧ (mar .unbound).objLen 3 = some (beAt (preq 2 3 (be 8 5)).payload 6 2) ∧
    (mar .unbound).commitResult = 0 ∧ ({ mar .unbound with objs := [] } : Mario).commitResult = 5 :=
  ⟨fun st => by cases st <;> decide +kernel, by decide +kernel, fun st op obj d h => preq_takes st op obj d h, by decide +kernel⟩

theorem wit_MarionetteCues :
    (plantM marE).Inv ∧ marE.takes .a (cue1) = true ∧ (∀ b ∈ [0, 8], marE.takes .a (rel1 b) = true) ∧ marE.st ≠ .unbound ∧
    marE.accepts (cue1) = true ∧ (∀ b ∈ [0, 8], marE.accepts (rel1 b) = true ∧ (rel1 b).kind = 7) ∧ (cue1).kind = 1 ∧ marE.isCtl = false ∧
    frameFlag (rel1 8) 3 = true ∧ frameFlag (rel1 0) 3 = false ∧
    (sectionsFrom 128 ((cue1).payload.drop 4)).find? (fun c => marE.pos == some c.1) = some (1, 0, be 4 42) ∧
    (be 4 42).length = marE.secLen (cue1).tick.toNat ∧ marE.heldFor (cue1).tick.toNat = none ∧
    (∀ x ∈ marE.closed, x.1 ≠ (cue1).tick.toNat) ∧ marE.cueEst ≠ none ∧
    marE.tooLate (cue1).tick.toNat ((100000 : Dword).toNat + (cue1).len * (plantM marE).lineTime 1 / 10) = false :=
  ⟨inv_of _ (by decide +kernel), takes_fr _ _ _ _ _ _ _ _ _ _ _ (by decide +kernel),
   fun _ _ => takes_fr _ _ _ _ _ _ _ _ _ _ _ (by decide +kernel), by decide +kernel⟩

/-- A controller whose three paths hold sections of members 0 and 1, the same or not, or one section only. -/
def ctl (h : List (List Held)) : State :=
  let x (i : Nat) : Mario := { mar .bound 4 with held := (h[i]?).getD [], tickEst := 7, cueEst := some 7, applies := some 7 }
  { plantS .active .triad with mario := [(1, x 0), (2049, x 1), (4097, x 2)] }
def sec1 (member v : Nat) (inhibit : Bool := false) : Held := ⟨7, 0, inhibit, member, be 4 v⟩

theorem wit_MarionetteCycle :
    (invOk (plantM marE) = true ∧ marE.powered = true ∧ marE.st ≠ .unbound ∧ marE.cueEst ≠ none ∧ marE.upA = true ∧ marE.upB = true ∧
      marE.isCtl = false ∧ marE.applies = some 7 ∧ marE.heldFor 7 = none ∧ marE.k < marE.par 4 0 2) ∧
    (∀ i : Bool, let x := { marE with held := [sec1 0 42 i] }
      invOk (plantM x) = true ∧ x.heldFor 7 = some (sec1 0 42 i) ∧ x.applies = some 7 ∧ x.isCtl = false ∧ (sec1 0 42 i).inhibit = i ∧
        x.rejoin = false) ∧
    (let x := { marE with k := 3 }
     invOk (plantM x) = true ∧ x.isCtl = false ∧ x.applies ≠ none ∧ x.holdsSection = false ∧ x.k = x.par 4 0 2) ∧
    (∀ l ∈ [[[sec1 0 4], [sec1 1 5]], [[sec1 0 4], [], [sec1 1 4]], [[sec1 0 4]]],
      invOk (ctl l) = true ∧ ((ctl l).getMario 1).isCtl = true ∧ (ctl l).paths 1 ≠ [] ∧ (ctl l).ctlCloses 1 = 7) ∧
    ((ctl [[sec1 0 4], [sec1 1 5]]).candidates 1 7).length = 2 ∧
    (((ctl [[sec1 0 4], [sec1 1 5]]).getMario 1).ty.elim [] (·.objects))[0]? = some [0] ∧
    agreed (((ctl [[sec1 0 4], [sec1 1 5]]).getMario 1).dueRuns 7) [0] ((ctl [[sec1 0 4], [sec1 1 5]]).candidates 1 7) = none ∧
    ((ctl [[sec1 0 4]]).candidates 1 7).length < 2 := by decide +kernel

/-- A member of a pair. -/
def pairS (d : DevState) (saw : Saw) (l : List (Fld × Nat) := []) : State :=
  { plantS d .pair ([(F.PAIR_CTRL_EN, 1), (F.PAIR_STAT_UP, 1), (F.PAIR_STAT_LANE0, 1)] ++ l) with saw := saw }
/-- A message of the partner, big enough for a SEESAW message of its kind. -/
def msg (kind n : Nat) (p : List Byte := []) (tick : Nat := 7) (epoch : Nat := 0) : Frame :=
  fr kind (p ++ List.replicate (n - p.length) 0) 0 0xFF tick 0 0 0 epoch

theorem wit_SeesawSends :
    (let s := pairS .active { role := .lapsed }
     invOk s = true ∧ s.pairUse = true ∧ s.rfb F.PAIR_STAT_UP = true ∧ s.dev = .active ∧ s.saw.role ≠ .relinquished ∧ s.mirr.recLeft = none) ∧
    State.reset.Inv ∧ State.reset.pairUse = false ∧
    (let s := pairS .standby { role := .standby }
     invOk s = true ∧ s.pairUse = true ∧ s.rfb F.PAIR_STAT_UP = true ∧ s.dev = .standby ∧ s.saw.role = .standby ∧ s.eligible = true) ∧
    (let s := pairS .ready { role := .ready }
     invOk s = true ∧ s.pairUse = true ∧ s.rfb F.PAIR_STAT_UP = true ∧ s.dev = .ready) :=
  ⟨by decide +kernel, reset_inv, by decide +kernel⟩

theorem wit_SeesawReceives :
    (∀ x ∈ [(DevState.standby, SawRole.claim), (.standby, .standby), (.active, .leased), (.active, .unleased), (.ready, .ready)],
      invOk (pairS x.1 { role := x.2 }) = true ∧ (pairS x.1 { role := x.2 }).isPair = true ∧ (pairS x.1 { role := x.2 }).pairUse = true ∧
        (pairS x.1 { role := x.2 }).img.pairId = 0 ∧ (pairS x.1 { role := x.2 }).n = 7 ∧ (pairS x.1 { role := x.2 }).reached 40 = false ∧
        (pairS x.1 { role := x.2 }).rf F.SAW_EPOCH_EPOCH = 0 ∧ (pairS x.1 { role := x.2 }).hears 0 = true ∧
        (pairS x.1 { role := x.2 }).saw.hovrLive = false ∧ (pairS x.1 { role := x.2 }).handedOver = false) ∧
    (∀ s : State, s.pairUse = true → s.img.pairId = 0 → s.pairErr (msg 0x10 48) = none ∧ s.pairErr (msg 0x10 48 [] 6) = none ∧
      s.pairErr (msg 0x11 48 [6]) = none ∧ s.pairErr (msg 0x12 48) = none ∧ s.pairErr (msg 0x13 12) = none) ∧
    (msg 0x10 48).kind = 0x10 ∧ (msg 0x10 48).payload.length = 48 ∧ (msg 0x10 48).tick.toNat = 7 ∧ nbit (beAt (msg 0x10 48).payload 2 1) 2 = false ∧
    (msg 0x10 48 [] 6).tick.toNat < 7 ∧ (msg 0x10 48 [] 6).payload.length = 48 ∧
    (msg 0x11 48 [6]).kind = 0x11 ∧ (msg 0x11 48 [6]).payload.length = 48 ∧ beAt (msg 0x11 48 [6]).payload 0 1 = 6 ∧ (msg 0x11 48 [6]).epoch.toNat = 0 ∧
    (msg 0x12 48).kind = 0x12 ∧ (msg 0x12 48).payload.length = 48 ∧ (msg 0x13 12).kind = 0x13 ∧ (msg 0x13 12).payload.length = 12 ∧
    (pairS .standby { role := .standby }).checkStr 0 (fr 1 [0, 0, 0, 1] 0 0xFF 7 0 0) = none ∧
    (fr 1 [0, 0, 0, 1] 0 0xFF 7 0 0).src.toNat = (pairS .standby { role := .standby }).peerSrc := by
  refine
  ⟨?_,
   fun s u h => ⟨pairErr_fr _ _ _ _ _ _ _ _ _ _ (by rw [u, h]; decide), pairErr_fr _ _ _ _ _ _ _ _ _ _ (by rw [u, h]; decide),
     pairErr_fr _ _ _ _ _ _ _ _ _ _ (by rw [u, h]; decide), pairErr_fr _ _ _ _ _ _ _ _ _ _ (by rw [u, h]; decide),
     pairErr_fr _ _ _ _ _ _ _ _ _ _ (by rw [u, h]; decide)⟩,
   ?_, ?_, ?_, ?_, ?_, ?_, ?_,
   ?_, ?_, ?_, ?_, ?_, ?_, ?_,
   checkStr_fr _ _ _ _ _ _ _ _ _ _ _ (by decide +kernel), ?_⟩
  all_goals decide +kernel

theorem wit_LeaseAndClaim :
    (∀ g ∈ [some 7, none], ∀ r ∈ [SawRole.leased, .lapsed],
      let s := pairS .active { role := r, grantTick := g } [(F.SAW_STAT_MISS_GRANT, 1), (F.SAW_CFG_LEASE, 2)]
      invOk s = true ∧ s.isPair = true ∧ s.dev = .active ∧ s.saw.role = r ∧ s.n = 7 ∧ s.saw.grantTick = g ∧ s.rf F.SAW_CFG_LEASE = 2 ∧
        min 15 (s.rf F.SAW_STAT_MISS_GRANT + 1) = 2) ∧
    (∀ m ∈ [2, 3], let s := pairS .standby { role := .standby } [(F.SAW_STAT_MISS_HB, m), (F.SAW_CFG_LEASE, 2)]
      invOk s = true ∧ s.isPair = true ∧ s.dev = .standby ∧ s.rf F.SAW_STAT_MISS_HB = m ∧ s.rf F.SAW_CFG_LEASE = 2 ∧ s.eligible = true ∧
        s.rfb F.SAW_STAT_PATH_FAULT = false ∧ s.saw.claimEpoch = none) ∧
    (∀ x ∈ [(some 7, none), (none, none), (none, some 7)], let s := pairS .standby { role := .claim, cueSeen := x.1, replyTick := x.2 }
      invOk s = true ∧ s.isPair = true ∧ s.dev = .standby ∧ s.saw.role = .claim ∧ s.saw.claimTrip = none ∧ s.saw.cueSeen = x.1 ∧
        s.saw.replyTick = x.2 ∧ s.mirr.applying = none ∧ s.eligible = true ∧ s.n = 7) := by decide +kernel

theorem wit_HandoverRuns :
    (∀ g : Bool, let s := pairS .active { role := .leased, grantElig := g, hovrReq := true, pLevels := some (0, 0), grantTick := some 7 }
      invOk s = true ∧ s.saw.hovrReq = true ∧ s.saw.hovrLive = false ∧ s.handoverRefusal false = if g then 0 else 2) ∧
    (let s := pairS .active { role := .leased, hovrReq := true, hovrLive := true }
     invOk s = true ∧ s.saw.hovrReq = true ∧ s.saw.hovrLive = true) ∧
    (let s := pairS .active { role := .leased, hovrLive := true, hovrTick := 7 }
     invOk s = true ∧ s.dev = .active ∧ s.saw.hovrLive = true ∧ s.n = s.saw.hovrTick ∧ s.rfb (F.STR_CTRL_EN 0) = true ∧
       nbit (s.rf F.SYS_MODE_RATE1000) 0 = false) ∧
    (let s := pairS .standby { role := .standby, hbHandover := 7 }
     invOk s = true ∧ s.isPair = true ∧ s.dev = .standby ∧ s.saw.hbHandover = s.n ∧ 0 < s.n ∧ s.epochFits = true) ∧
    (let s := pairS .active { role := .leased, hovrLive := true, hovrTick := 6 }
     invOk s = true ∧ s.dev = .active ∧ s.saw.role ≠ .relinquished ∧ s.saw.hovrLive = true ∧ s.n = s.saw.hovrTick + 1) ∧
    (let s := pairS .active { role := .relinquished }
     invOk s = true ∧ s.saw.role = .relinquished ∧ s.saw.newEpoch = false) ∧
    (∀ b ∈ [0, 1], ∀ d ∈ [DevState.ready, .active], let s : State := pairS d { role := .ready, winTicks := 4 * (b + 1) } [(F.SAW_STAT_END_B, b), (F.SAW_CFG_START_WIN, 4)]
     invOk s = true ∧ s.isPair = true ∧ s.dev = d ∧
       s.rf F.SAW_CFG_START_WIN * (if s.rfb F.SAW_STAT_END_B then 2 else 1) ≤ s.saw.winTicks) ∧
    (let s : State := pairS .ready { role := .ready } [(F.SAW_CFG_START_WIN, 4)]
     invOk s = true ∧ s.isPair = true ∧ s.dev = .ready ∧ s.saw.winEnd = false ∧ s.saw.winTicks < s.rf F.SAW_CFG_START_WIN) ∧
    (let s : State := { pairS .active { role := .unleased, unleasedAt := some 0 } [(F.RACK_CFG_SPARE_WAIT, 1)] with ns := 1000000000 }
     invOk s = true ∧ s.isPair = true ∧ s.dev = .active ∧ s.saw.role = .unleased ∧ s.saw.unleasedAt = some 0 ∧
       s.rf F.RACK_CFG_SPARE_WAIT ≠ 0 ∧ 0 + s.rf F.RACK_CFG_SPARE_WAIT * 1000000000 ≤ s.mono ∧ s.rack.spareWoken = false) := by decide +kernel

/-- The standby aborts a handover before the lease point of its tick. -/
theorem wit_HandoverRuns_abort :
    let s := pairS .active { role := .relinquished, hovrLive := true, hovrTick := 6 }
    let f := msg 0x11 48 [6, 0, 4]
    s.Inv ∧ s.isPair = true ∧ s.dev = .active ∧ s.saw.role = .relinquished ∧ s.pairErr f = none ∧ f.kind = 0x11 ∧ f.payload.length = 48 ∧
      f.tick.toNat = s.n ∧ s.reached 40 = false ∧ f.epoch.toNat = s.rf F.SAW_EPOCH_EPOCH ∧ nbit (beAt f.payload 2 1) 2 = true ∧
      s.rfb F.IMG_CTRL_FREEZE_EN = false ∧ beAt f.payload 0 1 = 6 :=
  ⟨inv_of _ (by decide +kernel), by decide +kernel, by decide +kernel, by decide +kernel, pairErr_fr _ _ _ _ _ _ _ _ _ _ (by decide +kernel),
   by decide +kernel⟩

/-- The active of a pair that mirrors, and a standby that takes its stream. -/
def mirS (m : Mirr := {}) (l : List (Fld × Nat) := []) : State :=
  { pairS .active { role := .leased, partner := 6 } ([(F.MIRR_STAT_MODE, 2)] ++ l) with mirr := m, dirty := [(lineOf varBase, true)] }
def stbS (m : Mirr := {}) (l : List (Fld × Nat) := []) : State :=
  { pairS .standby { role := .standby, hbTick := some 7 } ([(F.MIRR_STAT_MODE, 2), (F.GATE_CTX_RW_WRITE_MASK 52, 0xFFFF)] ++ l) with mirr := m }
/-- The same active once the tick has reached D. -/
def mirD (m : Mirr := {}) (l : List (Fld × Nat) := []) : State := { mirS m l with phase := 180000 }
/-- A mirror frame of one line. -/
def data1 (fseq flags : Nat) : Frame :=
  fr 0x20 (be 2 fseq ++ [1, BitVec.ofNat 8 flags] ++ be 4 (lineOf varBase) ++ List.replicate 64 7) 0 0xFF 7 0 0xFF
def ack1 (r : Nat) : Frame := fr 0x22 (be 8 6 ++ [BitVec.ofNat 8 r] ++ List.replicate 131 0) 0 0xFF 7

theorem wit_MirrorSending :
    (invOk mirD = true ∧ (mirD).isPair = true ∧ (mirD).isTriad = false ∧ (mirD).mirrors = true ∧ (mirD).dirtyMirrored ≠ [] ∧
      (mirD).reached ((mirD).rf F.TICK_PH0_DISPATCH) = true ∧
      (mirD).mirr.copying = false ∧ (mirD).mirr.recLeft ≠ some (mirD).n ∧ (mirD).mirr.mergeTick ≠ some (mirD).n ∧
      (mirD).rfb F.PAIR_STAT_UP = true) ∧
    (invOk mirS = true ∧ (mirS).isPair = true ∧ (mirS).isTriad = false ∧ (mirS).mirrors = true ∧ (mirS).dev = .active ∧
      (mirS).mirr.copying = false ∧ (mirS).mirr.wantCopy = false ∧ (mirS).reached ((mirS).rf F.TICK_PH0_DISPATCH) = false) ∧
    (invOk (mirD { recLeft := some 7 }) = true ∧ (mirD { recLeft := some 7 }).mirrors = true ∧
      (mirD { recLeft := some 7 }).mirr.recLeft = some (mirD { recLeft := some 7 }).n) ∧
    (invOk (mirS { wantCopy := true }) = true ∧ (mirS { wantCopy := true }).dev = .active ∧ (mirS { wantCopy := true }).saw.partner = 6) ∧
    (invOk (mirS { copying := true }) = true ∧ (mirS { copying := true }).mirrors = true ∧
      (takeRuns (mirS { copying := true }).mirrorRuns 0 (128 * 1)).getLast? = some (lineOf varBase + 127)) ∧
    (∀ r ∈ [0, 1, 2], (mirS).pairErr (ack1 r) = none) ∧
    (∀ r ∈ [0, 1, 2], (ack1 r).kind = 0x22 ∧ (ack1 r).payload.length = 140 ∧ beAt (ack1 r).payload 8 1 = r) := by
  refine
  ⟨?_, ?_, ?_, ?_, ?_,
   fun _ _ => pairErr_fr _ _ _ _ _ _ _ _ _ _ (by
     have e : ∀ r : Nat, (be 8 6 ++ [BitVec.ofNat 8 r] ++ List.replicate 131 0 : List Byte).length = 140 := fun r => by
       simp [be, beBytes, leBytes]
     rw [e]; decide +kernel), ?_⟩
  all_goals decide +kernel

/-- The record of one tick that closes the frames 0 and 1. -/
def rec1 (n lines : Nat) (dig : Dword) : Frame :=
  fr 0x21 (be 8 6 ++ be 8 6 ++ be 4 lines ++ be 2 n ++ be 2 0 ++ be 8 dig.toNat) 0 0xFF 7
theorem ofLe_leBytes : ∀ n v, ofLe (leBytes n v) = v % 256 ^ n
  | 0, v => by simp [leBytes, ofLe, Nat.mod_one]
  | n + 1, v => by
    have := Nat.mod_mul (x := v) (a := 256) (b := 256 ^ n)
    simp only [leBytes, ofLe, ofLe_leBytes n, BitVec.toNat_ofNat, Nat.pow_succ]
    rw [Nat.mul_comm (256 ^ n), this]

theorem rec1_digest (n l : Nat) (d : Dword) : BitVec.ofNat 64 (beAt (rec1 n l d).payload 24 8) = d := by
  have h : ((rec1 n l d).payload.drop 24).take 8 = beBytes 8 d.toNat := rfl
  have hl : (leBytes 8 d.toNat).length = 8 := rfl
  simp only [beAt, ofBe, slice, h, beBytes, List.length_reverse, hl, Nat.sub_self, List.replicate_zero, List.append_nil,
    List.reverse_reverse, ofLe_leBytes]
  exact BitVec.eq_of_toNat_eq (by have := d.isLt; simp; omega)
def twoFrames : Mirr := { rx := [(0, [(lineOf varBase, List.replicate 64 7)]), (1, [(lineOf varBase + 1, List.replicate 64 8)])] }

theorem wit_MirrorReceiving :
    (invOk (stbS) = true ∧ (∀ x ∈ [(0, 0), (1, 1)], (stbS).pairErr (data1 x.1 x.2) = none)) ∧
    (∀ x ∈ [(0, 0), (1, 1)], (data1 x.1 x.2).kind = 0x20 ∧ (stbS).takesMirror (data1 x.1 x.2) = true ∧ (stbS).dev = .standby ∧
      beAt (data1 x.1 x.2).payload 2 1 = 1 ∧ (data1 x.1 x.2).payload.length = 4 + 68 * 1 ∧ nbit (beAt (data1 x.1 x.2).payload 3 1) 0 = (x.2 == 1) ∧
      (stbS).mirr.staged + 1 ≤ 122880 ∧ beAt (data1 x.1 x.2).payload 0 2 = x.1 ∧
      dataEntries (data1 x.1 x.2).payload = [(lineOf varBase, List.replicate 64 7)] ∧ inLines (stbS).mirrorRuns (lineOf varBase) = true ∧
      (stbS).mirrorImage = none ∧ (stbS).gateOk 52 (bankL + 64 * lineOf varBase) 64 .write = true) ∧
    (let s := stbS twoFrames
     let fs := (List.range 2).map fun i => (aget? i s.mirr.rx).getD []
     invOk s = true ∧ s.dev = .standby ∧ s.mirr.applying = none ∧ s.mirr.rehIn = none ∧ s.rfb F.PAIR_STAT_UP = true ∧ (∀ i, i < 2 → aget? i s.mirr.rx ≠ none) ∧ linesIn fs = 2 ∧
       aget? 2 s.mirr.rx = none) ∧
    (∀ n l d, (stbS twoFrames).pairErr (rec1 n l d) = none ∧ BitVec.ofNat 64 (beAt (rec1 n l d).payload 24 8) = d) ∧
    (∀ n ∈ [2, 3], (rec1 n 2 5).kind = 0x21 ∧ (stbS twoFrames).takesMirror (rec1 n 2 5) = true ∧ (rec1 n 2 5).payload.length = 32 ∧
      nbit (beAt (rec1 n 2 5).payload 22 1) 2 = false ∧ beAt (rec1 n 2 5).payload 20 2 = n ∧ beAt (rec1 n 2 5).payload 16 4 = 2) ∧
    (let s := stbS { applying := some { last := 6, frames := [] } }
     invOk s = true ∧ s.mirr.applying = some { last := 6, frames := [] } ∧ s.mirr.rehIn = none) :=
  ⟨⟨by decide +kernel, fun _ _ => pairErr_fr _ _ _ _ _ _ _ _ _ _ (by rfl)⟩, by decide +kernel, by decide +kernel,
   fun n l d => ⟨pairErr_fr _ _ _ _ _ _ _ _ _ _ (by
     have e : (be 8 6 ++ be 8 6 ++ be 4 l ++ be 2 n ++ be 2 0 ++ be 8 d.toNat : List Byte).length = 32 := by
       simp [be, beBytes, leBytes]
     rw [e]; decide +kernel), rec1_digest n l d⟩, by decide +kernel, by decide +kernel⟩

def sweepMsg1 (flags : Nat) : Frame := fr 0x23 ([1, BitVec.ofNat 8 flags, 0, 0] ++ be 8 0 ++ be 4 (lineOf varBase / 64) ++ be 8 5) 0 0xFF 7

theorem wit_MirrorSweepsAndRehearsals :
    (let s := mirD { recLeft := some 7 }
     invOk s = true ∧ s.isPair = true ∧ s.isTriad = false ∧ s.rfb F.PAIR_STAT_UP = true ∧ s.maySweep = true) ∧
    (invOk mirS = true ∧ (mirS).isPair = true ∧ (mirS).isTriad = false ∧ (mirS).rfb F.PAIR_STAT_UP = true ∧ (mirS).mirr.recLeft ≠ some (mirS).n) ∧
    (∀ s : State, s.pairUse = true → s.img.pairId = 0 → ∀ x, s.pairErr (sweepMsg1 x) = none) ∧
    (mirS).pairUse = true ∧ (stbS).pairUse = true ∧ (mirS).img.pairId = 0 ∧ (stbS).img.pairId = 0 ∧ (mirS).dev = .active ∧ (stbS).dev = .standby ∧
    (∀ x ∈ [0, 3], (sweepMsg1 x).kind = 0x23 ∧ nbit (beAt (sweepMsg1 x).payload 1 1) 0 = (x == 3) ∧
      nbit (beAt (sweepMsg1 x).payload 1 1) 1 = (x == 3) ∧ beAt (sweepMsg1 x).payload 0 1 = 1 ∧ (sweepMsg1 x).payload.length = 12 + 12 * 1 ∧
      (stbS).takesMirror (sweepMsg1 x) = true ∧ beAt (sweepMsg1 x).payload 4 8 = (stbS).mirr.applied ∧ (stbS).mirr.rxCopying = false ∧
      (stbS).mirr.applying = none ∧ sweepEntries (sweepMsg1 x).payload = [(lineOf varBase / 64, 5)]) ∧
    (let s := stbS { applying := some { last := 0, frames := [] } }
     invOk s = true ∧ s.pairUse = true ∧ s.img.pairId = 0 ∧ s.dev = .standby ∧ s.takesMirror (sweepMsg1 0) = true ∧ s.mirr.rxCopying = false ∧
       s.mirr.applying = some { last := 0, frames := [] } ∧ beAt (sweepMsg1 0).payload 4 8 = 0) ∧
    inLines (mirS).mirrorRuns (64 * (lineOf varBase / 64)) = true ∧
    (let s := mirS {} [(F.MIRR_REH_EN, 1), (F.MIRR_REH_INTERVAL, 7)]
     invOk s = true ∧ s.mirrors = true ∧ s.imagesDiffer = false ∧ s.rfb F.MIRR_REH_EN = true ∧
       s.mirr.rehTick + s.rf F.MIRR_REH_INTERVAL ≤ s.n) ∧
    (∀ p ∈ [(0, 2), (1, 2)], let f := fr 0x24 (be 2 0 ++ [BitVec.ofNat 8 p.1, BitVec.ofNat 8 p.2] ++ be 4 0 ++ be 8 5 ++ be 8 0) 0 0xFF 7
      (stbS).pairErr f = none ∧ f.kind = 0x24 ∧ (stbS).takesMirror f = true ∧ 24 ≤ f.payload.length ∧ (stbS).mirr.rehIn = none ∧
        2 ≤ beAt f.payload 3 1 ∧ beAt f.payload 2 1 < beAt f.payload 3 1) ∧
    (let s := stbS { rehIn := some (3, 5, 0, 2) }
     invOk s = true ∧ s.mirr.rehIn.map (fun r => (r.1, r.2.1)) = some (3, 5)) ∧
    (let f := fr 0x25 (be 2 3 ++ be 2 0 ++ be 4 4 ++ be 8 5 ++ be 8 6) 0 0xFF 7
     let s := stbS { rehRun := some (3, 5) }
     invOk s = true ∧ s.pairErr f = none ∧ f.kind = 0x25 ∧ s.takesMirror f = true ∧ f.payload.length = 24 ∧
       s.mirr.rehRun = some (beAt f.payload 0 2, beAt f.payload 8 8)) ∧
    (∀ b ∈ [(4, (6 : Dword)), (4, 7)], let s := stbS { rehOut := some (4, 6), rehOwn := some b }
      invOk s = true ∧ s.mirr.rehOut = some (4, 6) ∧ s.mirr.rehOwn = some b) :=
  ⟨by decide +kernel, by decide +kernel, fun s u h x => pairErr_fr _ _ _ _ _ _ _ _ _ _ (by
     have e : ([1, BitVec.ofNat 8 x, 0, 0] ++ be 8 0 ++ be 4 (lineOf varBase / 64) ++ be 8 5 : List Byte).length = 24 := by
       simp [be, beBytes, leBytes]
     rw [e, u, h]; decide +kernel), by decide +kernel⟩

/-! ### Triad -/

/-- Member 1 of a triad: both links up, one task of one class, an input and an output range (handles 0 to 63 and 64 to 127). -/
def triS (d : DevState) (t : Tri) (l : List (Fld × Nat) := []) (g : Image := {}) : State :=
  { run d .triad ([(F.TL_CTRL_EN 0, 1), (F.TL_CTRL_EN 1, 1), (F.TL_STAT_UP 0, 1), (F.TL_STAT_UP 1, 1), (F.TICK_STAT_LOCKED, 1), (F.GATE_CTX_RW_WRITE_MASK 52, 0xFFFF)] ++ l) with
    img := { g with svc := .triad }
    addrOk := true
    tri := { t with idx := 1 } }
def peer8 : Peer := { state := 8, locked := true, tick := some 7, links := 7, image := List.replicate 16 0 }
def tsync (member : Nat) (tick : Nat := 7) : Frame :=
  fr 0x30 ([8, 0, 9, 7] ++ List.replicate 52 0) 0 0xFE tick member

theorem triErr_fr (s : State) (l : TriLink) (kind : Nat) (b : List Byte) (flags src tick member str hops epoch : Nat)
    (h : (s.triLane l && triadKinds.contains kind && decide (kind < 256 ∧ b.length ≤ 9150 ∧ str < 256 ∧ s.img.pairId = 0)) = true) :
    s.triadErr l (fr kind b flags src tick member str hops epoch) = none := by
  simp only [Bool.and_eq_true, decide_eq_true_eq] at h
  unfold State.triadErr
  rw [if_pos h.1.1, h.2.2.2.2]
  exact fr_ok _ _ _ _ _ _ _ _ _ _ _ (by simpa using ⟨List.contains_iff_mem.1 h.1.2, h.2.1, h.2.2.1, h.2.2.2.1⟩)

/-- A vote of the phase `p`. -/
def voteS (p : Nat) (d : DevState := .member) (own : Nat := 0) (l : List (Fld × Nat) := []) : State :=
  triS d { phase := p, phaseTick := 7, set := [1, 2, 3], a := { peer8 with digs := some (0, []) }, b := { peer8 with digs := some (0, []) },
           commit := BitVec.ofNat 64 own } l
/-- Digests and blocks of the phases. -/
def digs1 (kind : Nat) (p : List Byte) (n : Nat) : Frame := fr kind (p ++ List.replicate (n - p.length) 0) 0 0xFE 7 2

theorem wit_TriadExchange :
    (let s := triS .member { majority := true }
     invOk s = true ∧ s.triOn = true ∧ s.triUse .a = true ∧ s.triUse .b = true ∧ s.triLane .a = true ∧ s.triLane .b = true ∧ s.dev ≠ .ready ∧
       s.reached (s.rf F.TICK_PH0_FREEZE_DONE) = false) ∧
    (invOk State.reset = true ∧ State.reset.triLane .a = false) ∧
    (let s : State := { triS .member {} with phase := 100000 }
     invOk s = true ∧ s.triOn = true ∧ s.dev ≠ .ready ∧ s.reached (s.rf F.TICK_PH0_FREEZE_DONE) = true) ∧
    (∀ s : State, s.triLane .a = true → s.img.pairId = 0 → ∀ m, s.triadErr .a (tsync m) = none) ∧
    (∀ m ∈ [1, 2, 3], (tsync m).kind = 0x30 ∧ (tsync m).payload.length = 56 ∧ ((tsync m).memberNo.toNat = peerIdx 1 .a) = (m = 2) ∧
      (tsync m).tick.toNat = 7) ∧
    (let s : State := { triS .ready {} with img := { svc := .triad, hash := List.replicate 48 0 } }
     invOk s = true ∧ s.triLane .a = true ∧ s.img.pairId = 0 ∧ s.mayJoin = true ∧ s.rfb F.TRI_STAT_JOIN_FAIL = false ∧
       (tsync 2).memberNo.toNat = peerIdx s.tri.idx .a ∧ s.mayAdopt (tsync 2) = true ∧ beAt (tsync 2).payload 0 1 = 8 ∧
       slice (tsync 2).payload 8 16 = s.img.hash.take 16) ∧
    (let s : State := { triS .ready { a := { peer8 with state := 4, image := List.replicate 16 0 } } [(F.TRI_CFG1_START_WIN, 7)] with
       img := { svc := .triad, hash := List.replicate 48 0 }, since := 7 }
     invOk s = true ∧ s.mayJoin = true ∧ s.tri.start = 0 ∧ s.rfb F.TRI_STAT_JOINING = false ∧
       s.rf F.TRI_CFG1_START_WIN ≤ s.since ∧ s.rfb F.TICK_STAT_LOCKED = true ∧ s.coldPeer .a = true ∧
       s.coldPeer .b = false ∧ s.tri.idx < peerIdx s.tri.idx .a ∧ (s.peer .a).state = 4 ∧ (s.peer .b).state = 0) ∧
    (let s := triS .ready { start := 8 }
     invOk s = true ∧ s.isTriad = true ∧ s.dev = .ready ∧ s.addrOk = true ∧ s.rfb F.SEC_DBG_UNLOCKED = false ∧
       s.rfb F.TRI_STAT_JOIN_FAIL = false ∧ s.tri.start = s.n + 1) ∧
    (let s := triS .member { a := { peer8 with early := some (1, 7, 5, [6]) }, b := peer8 }
     invOk s = true ∧ s.votes = true ∧ s.tri.phaseTick ≠ s.n ∧ s.joins = false ∧ (s.peer .a).early = some (1, s.n, 5, [6])) ∧
    (invOk (voteS 1) = true ∧ (voteS 1).votes = true ∧ (voteS 1).tri.phaseTick = (voteS 1).n ∧ (voteS 1).tri.phase = 1 ∧
      (voteS 1).tri.formed = false ∧ (∀ x ∈ (voteS 1).flights, x.deadline ≠ (voteS 1).n) ∧ (voteS 1).tri.idx ∈ (voteS 1).tri.set ∧
      (voteS 1).triLane .a = true ∧ (voteS 1).triUse .a = true ∧ (voteS 2).tri.phase = 2 ∧ invOk (voteS 2) = true) ∧
    (∀ p ∈ [1, 2], ∀ x ∈ [(0x31, 8 + 8 * 2), (0x33, 16 + 8 * 2)], (voteS p).triadErr .a (digs1 x.1 [0, 2] x.2) = none ∧
      (digs1 x.1 [0, 2] x.2).kind = BitVec.ofNat 8 x.1 ∧ (digs1 x.1 [0, 2] x.2).payload.length = x.2 ∧
      beAt (digs1 x.1 [0, 2] x.2).payload 0 2 = 2 ∧ (digs1 x.1 [0, 2] x.2).memberNo.toNat = peerIdx 1 .a ∧
      (digs1 x.1 [0, 2] x.2).tick.toNat = 7) ∧
    (∀ p ∈ [1, 2], ∀ k ∈ [0x32, 0x34], (voteS p).triadErr .a (digs1 k [0, 2] 8200) = none) ∧
    (∀ k ∈ [0x32, 0x34], (digs1 k [0, 2] 8200).kind = BitVec.ofNat 8 k ∧ (digs1 k [0, 2] 8200).memberNo.toNat = peerIdx 1 .a ∧
      (digs1 k [0, 2] 8200).tick.toNat = 7) ∧
    (∀ k, (digs1 k [0, 2] 8200).payload.length = 8200) := by
  refine
  ⟨?_, ?_, ?_, fun s u h m => triErr_fr _ _ _ _ _ _ _ _ _ _ _ (by rw [u, h]; rfl),
   ?_, ?_, ?_, ?_, ?_, ?_, ?_, by
     intro p hp k hk
     refine triErr_fr _ _ _ _ _ _ _ _ _ _ _ ?_
     have e : ([0, 2] ++ List.replicate (8200 - ([0, 2] : List Byte).length) 0 : List Byte).length = 8200 := by
       rw [List.length_append, List.length_replicate]; rfl
     rw [e]
     simp only [List.mem_cons, List.not_mem_nil, or_false] at hk hp
     rcases hk with rfl | rfl <;> rcases hp with rfl | rfl <;> decide +kernel, ?_, fun k => by
     show ([0, 2] ++ List.replicate (8200 - ([0, 2] : List Byte).length) 0 : List Byte).length = 8200
     rw [List.length_append, List.length_replicate]; rfl⟩
  all_goals decide +kernel

theorem wit_TriadVotes :
    slotNear 3 5 7 2 = true ∧ slotNear 3 5 8 2 = false ∧ (5 : Word) ≠ 7 ∧ (5 : Word) ≠ 8 ∧ (0 : Word).toNat ≤ 1 ∧ (1 : Word).toNat ≤ 1 ∧
    (let r : RangeD := ⟨0, 0, 64, 3, 0, 1, none⟩
     let cs (b : Word) : List Slot := [⟨5, 1, 0⟩, ⟨b, 1, 0⟩, ⟨9, 0, 0⟩]
     let v (b : Word) := voteValue r.typ (BitVec.ofNat 32 (State.reset.rf (F.TRI_VD_TOL_TOL r.n))) (State.reset.rfb (F.TRI_VD_CFG_SIDE r.n))
       (((cs b).filter (usable r.typ)).map (·.val))
     v 6 = none ∧ v 5 = some 5) ∧
    (∀ x ∈ [none, some 7], ∀ d ∈ [DevState.member, .benched], let s : State := { voteS 1 d with tri := { (voteS 1 d).tri with inVoted := x } }
      invOk s = true ∧ s.votes = true ∧ s.tri.phaseTick = s.n ∧ s.tri.phase = 1 ∧ s.tri.inVoted = x ∧
        s.reached (s.rf F.TICK_PH0_DISPATCH) = false) ∧
    (∀ x ∈ [none, some 7], ∀ d ∈ [DevState.member, .benched], let s : State := { voteS 2 d with tri := { (voteS 2 d).tri with outVoted := x } }
      invOk s = true ∧ s.votes = true ∧ s.tri.phaseTick = s.n ∧ s.tri.phase = 2 ∧ s.tri.outVoted = x ∧ s.dev ≠ .ready) := by decide +kernel

/-- A joiner that takes its copy over link A. -/
def joinS (m : Mirr := {}) (t : Tri := {}) : State :=
  { triS .ready { t with source := some 2 } [(F.TRI_STAT_JOINING, 1)] with mirr := m }
def rsData : Frame := fr 0x37 (be 2 1 ++ [1, 1] ++ be 4 (lineOf varBase) ++ List.replicate 64 7) 0 0xFE 7 2
def rsCommit : Frame := fr 0x38 (be 8 6 ++ be 8 6 ++ be 4 3 ++ be 2 2 ++ [1, 0] ++ be 8 5) 0 0xFE 7 2
def triForce (on : Byte) : Frame := fr 0x36 ([on, 0, 0, 0] ++ be 4 5 ++ be 4 1 ++ be 4 0 ++ be 8 15) 0 0xFE 7 2

theorem wit_TriadJoins :
    (invOk (triS .member {}) = true ∧ (triS .member {}).isTriad = true ∧ (triS .member {}).triadErr .a (fr 0x35 (List.replicate 16 0) 0 0xFE 7 2) = none ∧
      (fr 0x35 (List.replicate 16 0) 0 0xFE 7 2).memberNo.toNat = peerIdx (triS .member {}).tri.idx .a ∧
      (fr 0x35 (List.replicate 16 0) 0 0xFE 7 2).payload.length = 16) ∧
    (invOk (joinS) = true ∧ (joinS).isTriad = true) ∧ (joinS).triadErr .a rsData = none ∧ (rsData.memberNo.toNat = peerIdx (joinS).tri.idx .a ∧
    (joinS).fromSource .a rsData = true ∧ rsData.kind = 0x37 ∧ beAt rsData.payload 2 1 = 1 ∧ rsData.payload.length = 4 + 68 * 1 ∧
    nbit (beAt rsData.payload 3 1) 0 = true ∧ beAt rsData.payload 0 2 ≠ 0 ∧
    dataEntries rsData.payload = [(lineOf varBase, List.replicate 64 7)] ∧ inLines (joinS).mirrorRuns (lineOf varBase) = true ∧
    (joinS).mirrorImage = none ∧ (joinS).gateOk 52 (bankL + 64 * lineOf varBase) 64 .write = true) ∧
    (let s := joinS { rxCopying := true, cpFrames := 2, cpLines := 3, cpDig := 5 }
     invOk s = true ∧ s.triadErr .a rsCommit = none ∧ s.fromSource .a rsCommit = true ∧ rsCommit.kind = 0x38 ∧ rsCommit.payload.length = 32 ∧
       nbit (beAt rsCommit.payload 22 1) 0 = true ∧ s.tri.joinTick = none ∧ s.mirr.rxCopying = true ∧
       s.mirr.cpFrames = beAt rsCommit.payload 20 2 ∧ s.mirr.cpLines = beAt rsCommit.payload 16 4 ∧
       s.mirr.cpDig = BitVec.ofNat 64 (beAt rsCommit.payload 24 8)) ∧
    (let s := joinS {} { joinTick := some 6, outVoted := some 7, majs := [2], a := { peer8 with digs := some (0, []) } }
     invOk s = true ∧ s.tri.joinTick = some 6 ∧ s.joins = true ∧ s.n = 6 + s.longest ∧ s.tri.outVoted = some s.n ∧ s.tri.joinMiss = false ∧
       (∃ m ∈ s.tri.majs, m ≠ s.tri.idx) ∧ ∀ m ∈ s.tri.majs, m ≠ s.tri.idx → s.vector m = some (s.tri.commit, s.tri.own)) ∧
    (∀ b ∈ [(1 : Byte), 2], (triS .member {}).triadErr .a (triForce b) = none ∧ (triForce b).kind = 0x36 ∧ (triS .member {}).triOn = true ∧
      (triForce b).payload.length = 24 ∧ beAt (triForce b).payload 0 1 = b.toNat) ∧
    (let s := triS .member { forces := [(7, true, 2 ^ 23 - 1, 5)] }
     invOk s = true ∧ s.tri.forces.filter (fun x => x.1 == s.n) = [(s.n, true, 2 ^ 23 - 1, 5)] ∧ s.forceFree ≠ none) := by
  refine
  ⟨⟨?_, ?_, triErr_fr _ _ _ _ _ _ _ _ _ _ _ (by decide +kernel), ?_, ?_⟩, ?_,
   triErr_fr _ _ _ _ _ _ _ _ _ _ _ (by decide +kernel), ?_, ?_, ?_, ?_, ?_⟩
  all_goals decide +kernel

/-! ### Change -/

def rq (op : Nat) (body : List Byte) (pw : Option (List Byte) := none) : SvcReq := ⟨0, 0x0A000001, 4000, 9, op, pw, 77, body, 7⟩
/-- The request at the front of the queue, from the place that opened the session. -/
def svcS (op : Nat) (body : List Byte) (s : State) : State :=
  { s with svc := { s.svc with queue := [rq op body], session := some ⟨77, 0, 0x0A000001, 4000, 0⟩ } }

/-- The bytes of an image that breaks no rule of chapter 20 which they decide: one register, one task, one run. -/
def le (n v : Nat) : List Byte := leBytes n v
def padTo (n : Nat) (l : List Byte) : List Byte := l ++ List.replicate (n - l.length) 0
def miniImage : List Byte :=
  padTo 0x80 (be 16 0 ++ le 2 1 ++ [1, 6] ++ le 4 2 ++ le 8 1 ++ le 2 0 ++ le 2 0 ++ [0, 0, 0xFF, 0xFF, 0xFF, 0xFF]) ++
  padTo 0x80 ([(1, 0x100, 8, 1), (3, 0x140, 0, 0), (4, 0x280, 0x80, 1), (5, 0x180, 16, 1), (6, 0x1C0, 16, 1), (10, 0x200, 84, 1)].flatMap
    fun x => le 2 x.1 ++ le 2 0 ++ le 4 x.2.1 ++ le 4 x.2.2.1 ++ le 4 x.2.2.2) ++
  padTo 0x80 (le 4 0x40010018 ++ le 4 0) ++
  padTo 0x40 (le 4 5 ++ [1, 1, 0, 0, 0, 0xFF, 0xFF, 0xFF, 0xFF, 0xFF]) ++ padTo 0x40 (le 4 1 ++ le 4 0 ++ le 4 64) ++
  padTo 0x80 (le 4 100000) ++
  padTo 0x40 (le 4 0x31435A41 ++ le 2 0 ++ le 2 1 ++ le 4 0x80) ++ padTo 0x40 (be 8 0 ++ le 4 5 ++ [0, 0, 1, 0] ++ be 12 0 ++ le 4 0x40)

/-- The NOR flash with that image as the sixth component of slot 1, committed. -/
def cells : Nat → List Byte → Tab Byte
  | _, [] => []
  | a, b :: l => (a, b) :: cells (a + 1) l
def slot1 : Tab Byte :=
  cells 0x3000000 (le 4 0x544F4C53) ++ cells 0x3000060 (le 4 6 ++ le 4 0x1000 ++ le 4 (0x300 + 208)) ++
  cells 0x3000FFC (le 4 commitWord) ++ cells 0x3001000 miniImage
def nor1 : State := { run .active .solo with nor := slot1 }

theorem tget_cells (d : Byte) : ∀ (l : List Byte) (a i : Nat), (h : i < l.length) → tget d (cells a l) (a + i) = l[i]
  | b :: l, a, 0, _ => by simp [cells, tget]
  | b :: l, a, i + 1, h => by
    have e : a + (i + 1) = a + 1 + i := by omega
    have n : ¬ a + 1 + i = a := by omega
    have n2 : ¬ a + 1 + i < a := by omega
    simp only [cells, tget, e, n, n2, if_false, List.getElem_cons_succ]
    exact tget_cells d l (a + 1) i (by simpa using h)

theorem tget_skip (d : Byte) (a : Nat) : ∀ p t : Tab Byte, p.all (fun x => decide (x.1 < a)) = true → tget d (p ++ t) a = tget d t a
  | [], _, _ => rfl
  | x :: p, t, h => by
    simp only [List.all_cons, Bool.and_eq_true, decide_eq_true_eq] at h
    simp [tget, Nat.ne_of_gt h.1, Nat.not_lt_of_gt h.1, tget_skip d a p t h.2]

theorem nor1_image : (nor1.compOf 1 5).bytes = miniImage := by
  have he : (nor1.slotComps 1).getD 5 ⟨0, 0, 0⟩ = ⟨6, 0x1000, 0x300 + 208⟩ := by decide +kernel
  have hl : miniImage.length = 0x300 := by decide +kernel
  unfold State.compOf
  rw [he]
  simp only [State.norBytes, slotBase, Nat.add_sub_cancel]
  have hn : nor1.nor = slot1 := rfl
  rw [hn]
  apply List.ext_getElem (by simp [hl])
  intro i h1 h2
  have hp : (cells 0x3000000 (le 4 0x544F4C53) ++ cells 0x3000060 (le 4 6 ++ le 4 0x1000 ++ le 4 (0x300 + 208)) ++
      cells 0x3000FFC (le 4 commitWord)).all (fun x => decide (x.1 < 0x3001000)) = true := by decide +kernel
  rw [List.getElem_map, List.getElem_range, slot1]
  show tget 0xFF#8 _ (0x3001000 + i) = _
  rw [tget_skip _ _ _ _ (by
    rw [List.all_eq_true] at hp ⊢
    intro x hx
    have := hp x hx
    simp only [decide_eq_true_eq] at this ⊢
    omega)]
  exact tget_cells _ _ _ _ h2

theorem slot1_some : (nor1.slotImage 1).isSome = true := by
  unfold State.slotImage
  rw [nor1_image]
  decide +kernel

theorem slotImage_nor (s t : State) (k : Nat) (h : s.nor = t.nor) : s.slotImage k = t.slotImage k := by
  simp only [State.slotImage, State.compOf, State.slotComps, State.norBytes, h]

theorem any_hash (s : State) (o : Image) (e : nor1.slotImage 1 = some o) (h : s.nor = nor1.nor) :
    (s.slotImage 1).any (fun x => x.hash == o.hash) = true := by
  rw [slotImage_nor s nor1 1 h, e]
  simp

theorem granted_svc (op : Nat) (body : List Byte) (s : State) (h1 : s.opAllowed op = true) (h2 : s.ret.norOk = true)
    (h3 : s.pwLocked = false) : Granted op (rq op body) [] (svcS op body s) := by
  have h : (svcS op body s).pwLocked = false := h3
  refine ⟨rfl, rfl, h1, ?_, h2⟩
  unfold State.authorise State.sessionStatus
  rw [h]
  simp [rq, svcS, State.inSession]

def actS (m : SvcMode := .solo) (l : List (Fld × Nat) := []) : State := plantS .active m l
/-- CHANGE: stage of slot 1, roll back, complete; a switch at tick 15. -/
def chgBody (act slot : Byte) (fl : Byte := 0) (tick : Nat := 0) : List Byte := [act, slot, fl, 0] ++ be 8 tick

theorem wit_ChangeRequests :
    (let s := svcS 0x21 (chgBody 1 1) actS
     Granted 0x21 (rq 0x21 (chgBody 1 1)) [] s ∧ s.Inv ∧ s.chgBusy = false ∧ s.saw.hovrLive = false ∧ s.saw.hovrReq = false ∧ s.saw.hbHandover = 0 ∧
       beAt (chgBody 1 1) 1 1 < 2 ∧ beAt (chgBody 1 1) 1 1 ≠ s.boot.slot ∧ (chgBody 1 1).length = 12 ∧ beAt (chgBody 1 1) 3 1 = 0 ∧
       beAt (chgBody 1 1) 0 1 = 1) ∧
    (let s := svcS 0x21 (chgBody 1 1) { actS with chg := { staging := some (1, []) } }
     Granted 0x21 (rq 0x21 (chgBody 1 1)) [] s ∧ s.Inv ∧ s.chgBusy = true ∧ s.chg.staging = some (1, [])) ∧
    (∃ h, let s := svcS 0x21 (chgBody 3 0) { nor1 with img := { prev := h } }
      Granted 0x21 (rq 0x21 (chgBody 3 0)) [] s ∧ s.Inv ∧ s.chgBusy = false ∧ 1 - s.boot.slot = 1 ∧ s.candidateSlot 1 = true ∧
        (s.slotImage 1).any (fun o => o.hash == s.img.prev) = true ∧ (chgBody 3 0).length = 12 ∧
        beAt (chgBody 3 0) 3 1 = 0 ∧ beAt (chgBody 3 0) 0 1 = 3) ∧
    (let s := svcS 0x21 (chgBody 4 0) { actS with boot := { revoke := 2 }, otp := { keys := [(1, { present := true })] } }
     Granted 0x21 (rq 0x21 (chgBody 4 0)) [] s ∧ s.Inv ∧ s.chgBusy = false ∧ s.isPair = false ∧ tabWf (fun _ => (0 : Nat)) s.otp.ctr = true ∧
       nbit s.boot.revoke 1 = true ∧ beAt (chgBody 4 0) 0 1 = 4) ∧
    (let s := pairS .standby { role := .standby }
     s.Inv ∧ s.isPair = true ∧ s.rfb F.PAIR_STAT_UP = true ∧ s.dev = .standby ∧ s.pairErr (msg 0x14 104) = none ∧ (msg 0x14 104).kind = 0x14 ∧
       (msg 0x14 104).payload.length = 104) := by
  refine ⟨⟨granted_svc _ _ _ (by decide +kernel) (by decide +kernel) rfl, inv_of _ (by decide +kernel), by decide +kernel⟩,
    ⟨granted_svc _ _ _ (by decide +kernel) (by decide +kernel) rfl, inv_of _ (by decide +kernel), by decide +kernel⟩,
    ⟨((nor1.slotImage 1).map (·.hash)).getD [], granted_svc _ _ _ (by decide +kernel) (by decide +kernel) rfl, inv_of _ ?_, ?_, rfl, ?_, ?_, ?_⟩,
    ⟨granted_svc _ _ _ (by decide +kernel) (by decide +kernel) rfl, inv_of _ (by decide +kernel), by decide +kernel⟩,
    ⟨inv_of _ (by decide +kernel), by decide +kernel, by decide +kernel, by decide +kernel,
     pairErr_fr _ _ _ _ _ _ _ _ _ _ (by decide +kernel), by decide +kernel⟩⟩
  · rfl
  · rfl
  · decide +kernel
  · have h := slot1_some
    cases e : nor1.slotImage 1 with
    | none => rw [e] at h; cases h
    | some o => exact any_hash _ o e rfl
  · decide +kernel

/-- A plan that waits for its switch. -/
def planS (m : SvcMode) (d : DevState := .active) (sw : Option Nat := none) : State :=
  { plantS d m [(F.SYS_CHG_PHASE, 2), (F.TL_CTRL_EN 0, 1), (F.TL_STAT_UP 0, 1)] with
    addrOk := true
    tri := { set := [1, 2, 3], idx := 1 }
    chg := { plan := some { z := 2, hash := List.replicate 48 3, img := { hash := List.replicate 48 2, svc := m } }, switch := sw } }
def aPlan (m : SvcMode) : Plan := { z := 2, hash := List.replicate 48 3, img := { hash := List.replicate 48 2, svc := m } }
def swMsg : Frame := fr 0x39 (switchPayload (aPlan .triad) 15) 0 0xFE 7 2

theorem wit_ChangeSwitches :
    (let s := svcS 0x21 (chgBody 2 0 1 15) (planS .solo)
     Granted 0x21 (rq 0x21 (chgBody 2 0 1 15)) [] s ∧ s.Inv ∧ s.chg.plan = some (aPlan .solo) ∧ (chgBody 2 0 1 15).length = 12 ∧
       beAt (chgBody 2 0 1 15) 0 1 = 2 ∧ s.switchRefusal (some (aPlan .solo)) (nbit (beAt (chgBody 2 0 1 15) 2 1) 0) s.peersStaged (beAt (chgBody 2 0 1 15) 4 8) = 0 ∧
       s.switchRefusal (some (aPlan .solo)) true s.peersStaged 14 ≠ 0) ∧
    (let s := svcS 0x21 (chgBody 2 0 1 0) (planS .triad .member)
     Granted 0x21 (rq 0x21 (chgBody 2 0 1 0)) [] s ∧ s.Inv ∧ s.switchRefusal (some (aPlan .triad)) true true 0 = 0) ∧
    (let s := planS .triad .member
     s.Inv ∧ s.triadErr .a swMsg = none ∧ swMsg.kind = 0x39 ∧ s.isTriad = true ∧ s.dev = .member ∧ s.changing = false ∧
       s.chg.plan = some (aPlan .triad) ∧ s.rf F.SYS_CHG_PHASE = 2 ∧ swMsg.payload = switchPayload (aPlan .triad) (beAt swMsg.payload 32 8) ∧
       s.n < beAt swMsg.payload 32 8) ∧
    (let s := planS .triad .member
     s.triUse .a = true ∧ s.triLane .a = true) ∧
    (∀ x ∈ [(SvcMode.pair, DevState.standby), (.solo, .active), (.triad, .member), (.solo, .ready)],
      invOk (planS x.1 x.2 (some 7)) = true ∧ (planS x.1 x.2 (some 7)).chg.plan = some (aPlan x.1) ∧
        (planS x.1 x.2 (some 7)).chg.switch = some (planS x.1 x.2 (some 7)).n ∧ (planS x.1 x.2 (some 7)).dev = x.2) ∧
    (let s : State := { planS .solo .ready (some 7) with regs := (planS .solo .ready |>.wf F.SYS_CHG_PHASE 6).regs }
     invOk s = true ∧ s.dev = .ready ∧ s.chg.plan = some (aPlan .solo) ∧ s.chg.switch = some s.n ∧ s.rf F.SYS_CHG_PHASE = 6) ∧
    ((planS .solo .active (some 8)).chg.switch = some 8 ∧ 8 ≠ (planS .solo .active (some 8)).n) ∧
    (let s : State := { planS .solo .stopped with chg := { stopEnd := some 7 } }
     invOk s = true ∧ s.dev = .stopped ∧ s.chg.stopEnd = some s.n ∧ s.rfb F.IMG_CTRL_FREEZE_EN = false) ∧
    (let s : State := { planS .solo .ready with chg := { stopEnd := some 6 } }
     invOk s = true ∧ s.dev = .ready ∧ s.addrOk = true ∧ s.rfb F.SEC_DBG_UNLOCKED = false ∧ s.chg.stopEnd = some 6 ∧ s.n = 6 + 1 ∧ s.rfb F.IMG_CTRL_FREEZE_EN = false) := by
  refine ⟨⟨granted_svc _ _ _ (by decide +kernel) (by decide +kernel) rfl, inv_of _ (by decide +kernel), by decide +kernel⟩,
    ⟨granted_svc _ _ _ (by decide +kernel) (by decide +kernel) rfl, inv_of _ (by decide +kernel), by decide +kernel⟩,
    ⟨inv_of _ (by decide +kernel), triErr_fr _ _ _ _ _ _ _ _ _ _ _ (by decide +kernel), by decide +kernel⟩, by decide +kernel⟩

/-- One receive connection of 4 bytes and a datagram of network a or b for it. -/
def tg1 : TgDef := { num := 3, send := false, connId := 99, ipA := 1, ipB := 2, port := 5000, len := 4, varkey := 1, wd := 8, skw := 1000,
                     key := 0, safe := [0, 0, 0, 0] }
def tgHead (net : Byte) (seq : Nat) : List Byte := [0xA7, 1, 0x40, net] ++ be 4 99 ++ be 8 seq ++ be 2 4 ++ [0, 0]
def tgram (net : Byte) (seq : Nat) (d : List Byte) : List Byte :=
  tgHead net seq ++ d ++ be 8 (crc64 0 (tgHead 0 seq ++ d)).toNat
def tgS (x : TgRx) : State :=
  { plantS .active .solo ([(F.PL_CTRL_EN 0, 1), (F.PL_STAT_UP 0, 1), (F.PL_CTRL_EN 1, 1), (F.PL_STAT_UP 1, 1)] ++
      [(F.GATE_CTX_RW_READ_MASK 63, 0x7FFF), (F.GATE_CTX_RW_WRITE_MASK 63, 0x7FFF)]) with
    img := { telegrams := [tg1] }
    tgRx := if x = {} then [] else [(3, x)] }

theorem wit_TelegramsAndDebug :
    (∀ p ∈ [PlantPort.a, .b], (tgS {}).plantUp p = true) ∧ (tgS {}).dev ∉ [DevState.booting, .parked, .refused] ∧
    (∀ d ∈ [[1, 2, 3, 4], ([1, 2, 3, 5] : List Byte)], (tgS {}).tgValid (PlantPort.a == .b) 5000 (tgram 0 9 d) = some (tg1, 9, d) ∧
      (tgS {}).tgValid (PlantPort.b == .b) 5000 (tgram 1 9 d) = some (tg1, 9, d)) ∧
    (tgS {}).tgValid (PlantPort.b == .b) 5001 (tgram 1 9 [1, 2, 3, 4]) = none ∧
    (∀ x ∈ [({} : TgRx), { openSeq := some 9, openData := [1, 2, 3, 4] }, { lastSeq := some 9 }, { lastSeq := some 8 }],
      invOk (tgS x) = true ∧ tget {} (tgS x).tgRx tg1.num = x ∧ (tgS x).mono ≤ x.openAt + 1000 * tg1.skw) ∧
    (tgS {}).tgDef false (3 : Byte).toNat = some tg1 ∧ (tgS {}).n + 1 = (tget {} (tgS {}).tgRx 3).acceptTick + tg1.wd ∧
    (let s : State := { tgS {} with tick := 8 }
     invOk s = true ∧ (tget {} s.tgRx 3).acceptTick + tg1.wd ≤ s.n) ∧
    (let s : State := { tgS { openSeq := some 9 } with ns := 1000000 }
     invOk s = true ∧ (tget {} s.tgRx tg1.num).openSeq = some 9 ∧ (tget {} s.tgRx tg1.num).openAt + 1000 * tg1.skw ≤ s.mono) ∧
    (tgS {}).gateOk 63 0x80000040 256 .read = true ∧ (tgS {}).gateOk 63 0x80000040 256 .write = true ∧ (tgS {}).retained = [] ∧
    State.reset.gateOk 63 0x80000040 1 .write = false ∧ State.reset.viol.length < 32 ∧ State.reset.gateOk 63 0x80000040 1 .read = false := by
  decide +kernel

/-! ### The service channel -/

def dgram (fl op : Byte) (body : List Byte) : SvcDatagram :=
  ⟨0, 0x0A000001, 4000, true, false, [0xA7, 1, op, fl] ++ be 4 9 ++ be 8 77 ++ be 2 body.length ++ [0, 0] ++ body⟩
/-- A device whose service port is on and which the boot has left. -/
def svcOnS (v : Svc := {}) : State :=
  { plantS .active .solo [(F.SVC_CFG_EN, 1), (F.SVC_STAT_UP, 1)] with svc := v, boot := { held := false, por := false } }

theorem wit_ServiceQueue :
    invOk svcOnS = true ∧ svcOnS.dev ≠ .parked ∧ svcOnS.boot.held = false ∧ svcOnS.svcOn 0 = true ∧ svcOnS.ifaceUp 0 = true ∧ svcOnS.svcOn 1 = false ∧
    svcOnS.ifaceUp 1 = false ∧
    (∀ d ∈ [dgram 0 0x10 [1], dgram 1 0x10 [1], dgram 0 0x7F [1]], d.sumOk = true ∧ d.sumZero = false ∧ 20 ≤ d.bytes.length ∧
      d.bytes.length ≤ 1472) ∧
    (svcParse (dgram 0 0x10 [1]) 7).2 = true ∧ (svcParse (dgram 0 0x10 [1]) 7).1.op ∈ svcOps ∧ (svcParse (dgram 1 0x10 [1]) 7).2 = false ∧
    (svcParse (dgram 0 0x7F [1]) 7).2 = true ∧ (svcParse (dgram 0 0x7F [1]) 7).1.op ∉ svcOps ∧
    (∀ k ∈ svcOnS.svc.kept, k.reqId ≠ (svcParse (dgram 0 0x10 [1]) 7).1.reqId) ∧ svcOnS.dev ≠ .booting ∧ svcOnS.svc.queue.length < 16 ∧
    (let s := svcOnS { queue := List.replicate 16 (rq 0x10 []) }
     invOk s = true ∧ 16 ≤ s.svc.queue.length) ∧
    (let s : State := { svcOnS with dev := .booting }
     invOk s = true ∧ s.svcOn 0 = true ∧ s.ifaceUp 0 = true ∧ s.dev = .booting ∧ s.svc.kept = [] ∧
       ((svcParse (dgram 0 0x10 [1]) 7).1.rsp 3 0 []).status ≠ 0 ∧ ((svcParse (dgram 0 0x10 [1]) 7).1.rsp 3 0 []).status ≠ 0xA) ∧
    (let s := svcOnS { kept := [(svcParse (dgram 0 0x10 [1]) 7).1.rsp 0 0 []] }
     invOk s = true ∧ (s.svc.kept.find? fun k => k.ip == (svcParse (dgram 0 0x10 [1]) 7).1.ip && k.port == (svcParse (dgram 0 0x10 [1]) 7).1.port &&
       k.reqId == (svcParse (dgram 0 0x10 [1]) 7).1.reqId) = some ((svcParse (dgram 0 0x10 [1]) 7).1.rsp 0 0 [])) := by decide +kernel

theorem pw_img (s : State) (h : s.nor = []) : s.pwInForce = (s.img.password, none) := by
  have hw : leAt ((List.range 256).map fun _ => 0xFF#8) 0xFC 4 ≠ logCommit := by decide +kernel
  have hn : ∀ a, s.pwRecord a = none := by
    intro a
    simp only [State.pwRecord, State.norBytes, h, tget]
    rw [if_neg fun x => hw x.1]
  unfold State.pwInForce
  rw [hn, hn]

theorem hmac384_length (k m : List Byte) : (hmac384 k m).length = 48 := by simp [hmac384, beBytes, leBytes]

theorem pbkdfIter_length (p : List Byte) : ∀ (n : Nat) (u t : List Byte), t.length = 48 → (pbkdfIter p n u t).length = 48
  | 0, _, _, h => h
  | n + 1, u, t, h => pbkdfIter_length p n _ _ (by simp [List.length_zipWith, h, hmac384_length])

theorem pbkdf2_length (p s : List Byte) (n : Nat) : (pbkdf2 p s n).length = 48 := by
  unfold pbkdf2
  exact pbkdfIter_length _ _ _ _ (hmac384_length _ _)

/-- A device whose image holds a password record with the derived key `dk`, and a request with an inline password. -/
def pw1 : List Byte := [0x61, 0x62]
def pwS (dk : List Byte) (fails : Nat) (op : Nat) (body : List Byte) (pw : Option (List Byte)) : State :=
  { plantS .active .solo with
    img := { password := { iter := 100000, salt := [1], dk := dk } }
    pwd := { fails := fails }
    svc := { queue := [rq op body pw] } }

theorem pwS_record (dk : List Byte) (fails op : Nat) (body : List Byte) (pw : Option (List Byte)) :
    (pwS dk fails op body pw).pwInForce.1 = { iter := 100000, salt := [1], dk := dk } := by
  rw [pw_img _ rfl]; rfl

theorem pw_right (dk : List Byte) (h : pbkdf2 pw1 [1] 100000 = dk) (fails op : Nat) (body : List Byte) (pw : Option (List Byte)) :
    ((pwS dk fails op body pw).pwCheck pw1).1 = 0 := by
  have hk : dk.length = 48 := h ▸ pbkdf2_length _ _ _
  have hl : (pwS dk fails op body pw).pwLocked = false := rfl
  unfold State.pwCheck
  rw [hl, pwS_record]
  simp only [Bool.false_eq_true, if_false]
  rw [if_pos ⟨hk, h⟩]

theorem pw_wrong (fails op : Nat) (body : List Byte) (pw : Option (List Byte)) : ((pwS [] fails op body pw).pwCheck pw1).1 ≠ 0 := by
  have hl : (pwS [] fails op body pw).pwLocked = false := rfl
  unfold State.pwCheck
  rw [hl, pwS_record]
  simp only [List.length_nil, Bool.false_eq_true, if_false]
  split
  · next h => exact absurd h.1 (by decide)
  · split <;> simp

theorem pwS_inv (dk : List Byte) (fails op : Nat) (body : List Byte) (pw : Option (List Byte)) : (pwS dk fails op body pw).Inv := by
  have h : (plantS .active .solo).Inv := inv_of _ (by decide +kernel)
  exact ⟨h.1, h.2, h.3, h.4, h.5, h.6, h.7, h.8, h.9, h.10, h.11, h.12⟩

theorem auth_pw (s : State) (r : SvcReq) (pw : List Byte) (h : r.pw = some pw) (hb : s.pwBarred r.iface = false)
    (hc : (s.pwCheck pw).1 = 0) : (s.authorise r).1 = 0 := by
  have hi : s.inlineCheck r = s.pwCheck pw := by simp [State.inlineCheck, h, hb]
  simp [State.authorise, h, hi, hc]

theorem wit_ServiceSessions_pw (dk : List Byte) (hk : pbkdf2 pw1 [1] 100000 = dk) :
    (∀ fails, ((pwS dk fails 0x01 (2 :: pw1) none).pwCheck pw1).1 = 0 ∧ ((pwS [] fails 0x01 (2 :: pw1) none).pwCheck pw1).1 ≠ 0) ∧
    (∀ d fails, let s := pwS d fails 0x01 (2 :: pw1) none
      s.Inv ∧ s.svc.queue = [rq 0x01 (2 :: pw1)] ∧ s.opAllowed 0x01 = true ∧ s.pwBarred 0 = false ∧ s.svc.session = none ∧
        s.ret.norOk = true ∧ s.pwLocked = false ∧ s.pwd.fails = fails) ∧
    (let s := pwS [] 0 0x01 (2 :: pw1) (some pw1)
     s.Inv ∧ s.svc.queue = [rq 0x01 (2 :: pw1) (some pw1)] ∧ s.pwLocked = false ∧ s.svc.session = none ∧ (s.pwCheck pw1).1 ≠ 0) ∧
    Granted 0x03 (rq 0x03 (2 :: pw1) (some pw1)) [] (pwS dk 0 0x03 (2 :: pw1) (some pw1)) :=
  ⟨fun _ => ⟨pw_right dk hk _ _ _ _, pw_wrong _ _ _ _⟩,
   fun _ _ => ⟨pwS_inv _ _ _ _ _, rfl, rfl, rfl, rfl, rfl, rfl, rfl⟩,
   ⟨pwS_inv _ _ _ _ _, rfl, rfl, rfl, pw_wrong _ _ _ _⟩,
   rfl, rfl, rfl, auth_pw _ _ pw1 rfl rfl (pw_right dk hk _ _ _ _), rfl⟩

theorem wit_ServiceSessions :
    (∃ dk, pbkdf2 pw1 [1] 100000 = dk) ∧
    ((rq 0x01 (2 :: pw1)).op = 0x01 ∧ (rq 0x01 (2 :: pw1)).body.drop 1 = pw1 ∧
      (rq 0x01 (2 :: pw1)).body.length = 1 + beAt (rq 0x01 (2 :: pw1)).body 0 1 ∧ beAt (rq 0x01 (2 :: pw1)).body 0 1 = 2) ∧
    (let s := svcS 0x02 [] actS
     invOk s = true ∧ s.svc.queue = [rq 0x02 []] ∧ s.opAllowed 0x02 = true ∧ s.inSession (rq 0x02 []) = true ∧ (s.inlineCheck (rq 0x02 [])).1 = 0) ∧
    ((rq 0x03 (2 :: pw1) (some pw1)).pw = some pw1 ∧
      (rq 0x03 (2 :: pw1) (some pw1)).body.length = 1 + beAt (rq 0x03 (2 :: pw1) (some pw1)).body 0 1 ∧
      beAt (rq 0x03 (2 :: pw1) (some pw1)).body 0 1 = 2) ∧
    (∃ e, ({ actS with pwd := { lockEnd := some 0 } } : State).pwd.lockEnd = some e) :=
  ⟨⟨_, rfl⟩, by decide +kernel, by decide +kernel, by decide +kernel, ⟨0, rfl⟩⟩

def rdBody (space : Byte) (o n : Nat) : List Byte := [space, 0, 0, 0] ++ be 4 o ++ be 4 n

theorem wit_ServiceReads :
    (∀ x ∈ [(1, bankF, 8, slotCount), (2, bankL, 8, slotCount), (3, varBase, 1, 0x4000000), (7, jrnlBase, 64, 524288)],
      (let b := rdBody (BitVec.ofNat 8 x.1) (x.2.2.2 - 2) 2
       invOk (svcS 0x10 b actS) = true ∧ (svcS 0x10 b actS).svc.queue = [rq 0x10 b] ∧ (svcS 0x10 b actS).opAllowed 0x10 = true ∧
         b.length = 12 ∧ beAt b 1 3 = 0 ∧ beAt b 8 4 * spaceUnit (beAt b 0 1) ≤ 1452 ∧ beAt b 0 1 = x.1 ∧
         beAt b 4 4 + beAt b 8 4 = x.2.2.2)) ∧
    (∀ k ∈ [(0 : Byte), 9], let b := rdBody k 0 1
      b.length = 12 ∧ beAt b 1 3 = 0 ∧ beAt b 8 4 * spaceUnit (beAt b 0 1) ≤ 1452 ∧ (beAt b 0 1 = 0 ∨ 9 ≤ beAt b 0 1)) ∧
    (∀ n ∈ [(1 : Byte), 5], let s : State := { svcS 0x31 (be 4 0 ++ [n]) actS with
        nor := cells (logAt 0) (le 4 0) ++ cells (logAt 0 + 0xFC) (le 4 logCommit), logSeq := 1 }
      invOk s = true ∧ s.svc.queue = [rq 0x31 (be 4 0 ++ [n])] ∧ s.opAllowed 0x31 = true ∧ (be 4 0 ++ [n]).length = 5 ∧
        beAt (be 4 0 ++ [n]) 4 1 = n.toNat ∧ beAt (be 4 0 ++ [n]) 0 4 < s.logSeq ∧
        leAt (s.norBytes (logAt (beAt (be 4 0 ++ [n]) 0 4)) 256) 0xFC 4 = logCommit ∧
        leAt (s.norBytes (logAt (beAt (be 4 0 ++ [n]) 0 4)) 256) 0 4 = beAt (be 4 0 ++ [n]) 0 4) ∧
    (svcS 0x32 [] actS).svc.queue = [rq 0x32 []] ∧ (svcS 0x32 [1] actS).svc.queue = [rq 0x32 [1]] ∧
    (let s := svcS 0x30 (List.replicate 49 1) { actS with otp := { retired := (0xFFFFFFFF, 0xFFFFFFFF) } }
     invOk s = true ∧ s.svc.queue = [rq 0x30 (List.replicate 49 1)] ∧ s.opAllowed 0x30 = true ∧ (List.replicate 49 (1 : Byte)).length = 49 ∧
       s.otp.life = 3) := by decide +kernel

/-- Slots and variables that context 55 may read; as reset leaves the tags they hold no line of colour 14, and one is retagged. -/
theorem wit_ServiceReads_lines :
    (let s := svcS 0x10 (rdBody 1 0 8) (actS .solo [(F.GATE_CTX_RW_READ_MASK 55, 0xFFFF)])
     let ps := lineParts (bankF + 8 * 0) (8 * 8)
     invOk s = true ∧ (s.inlineCheck (rq 0x10 (rdBody 1 0 8))).1 = 0 ∧ (∀ p ∈ ps, s.gateOk 55 p.1 p.2 .read = true) ∧
       ∀ p ∈ ps, s.colourOf p.1 ≠ 14) ∧
    (let s := svcS 0x10 (rdBody 3 0 64) { actS .solo [(F.GATE_CTX_RW_READ_MASK 55, 0xFFFF)] with tagRuns := [((varBase - 0x80000000) / 64, 1, 14)] }
     let ps := lineParts (varBase + 1 * 0) (1 * 64)
     invOk s = true ∧ (∀ p ∈ ps, s.gateOk 55 p.1 p.2 .read = true) ∧ ∀ p ∈ ps, s.colourOf p.1 = 14) ∧
    (svcS 0x32 [] actS).hlth.record = [] ∧
    (let s := svcS 0x32 [] { actS with hlth := { record := List.replicate 128 1 } }
     invOk s = true ∧ s.hlth.record ≠ [] ∧ (s.inlineCheck (rq 0x32 [])).1 = 0) ∧
    (let s := svcS 0x30 (List.replicate 49 1) actS
     s.otp.life ≠ 3 ∧ ({ s with otp := { s.otp with key := 1 } } : State).otp.key = 1) := by decide +kernel

/-- A device with a variable that the service channel may write, a range, and all members in the set where it is a triad. -/
def wrS (m : SvcMode) (d : DevState) : State :=
  { plantS d m [(F.IMG_RD_B_LENGTH 0, 64), (F.IMG_RD_B_DIR 0, 1)] with
    img := { varmap := [⟨1, 0, 64, 6, true, false, false⟩] }
    tri := { set := [1, 2, 3], idx := 1 } }

theorem wit_ServiceWrites :
    (∀ x ∈ [(SvcMode.solo, DevState.active), (.triad, .member)],
      invOk (wrS x.1 x.2) = true ∧ (wrS x.1 x.2).opAllowed 0x11 = true ∧ (wrS x.1 x.2).opAllowed 0x12 = true ∧
        (wrS x.1 x.2).opAllowed 0x13 = true ∧ (wrS x.1 x.2).ret.norOk = true ∧ (wrS x.1 x.2).rangeOf 0 ≠ none ∧
        (wrS x.1 x.2).tri.set.length = 3 ∧ (wrS x.1 x.2).forcedHandles.length < 1024) ∧
    (∀ op b, ∀ s : State, s.opAllowed op = true → s.ret.norOk = true → s.pwLocked = false → Granted op (rq op b) [] (svcS op b s)) ∧
    writable (wrS .solo .active).img (beAt (be 4 60 ++ be 4 9) 0 4) ((be 4 60 ++ be 4 9).drop 4).length = true ∧
    5 ≤ (be 4 60 ++ be 4 9).length ∧
    (wrS .solo .active).commitSpan = false ∧
    (let s : State := { wrS .solo .active with svc := { writes := [(60, be 4 9, 6)] }, phase := 100000 }
     invOk s = true ∧ s.commitSpan = true ∧ s.svc.writes = [(60, be 4 9, 6)] ∧ 6 < s.n ∧ s.retained = []) ∧
    (be 4 0 ++ be 4 5).length = 8 ∧ beAt (be 4 0 ++ be 4 5) 0 4 < slotCount ∧ (be 4 0).length = 4 ∧ (actS).opAllowed 0x23 = true ∧
    invOk (actS) = true ∧ (actS).opAllowed 0x20 = true ∧
    (let b : List Byte := [1, 0, 0, 0] ++ be 4 0x2FFFFFF ++ [7]
     9 ≤ b.length ∧ b.length ≤ 1032 ∧ beAt b 1 3 = 0 ∧ beAt b 0 1 < 2 ∧ beAt b 4 4 + (b.length - 8) ≤ 0x3000000 ∧
       (actS).runningSlot (beAt b 0 1) = false ∧ meets (beAt b 4 4) (b.length - 8) 0xFFC 4 = false) ∧
    (let s : State := { actS with ret := { ops := [NvmOp.mk 0x100 0 [1, 2] none, NvmOp.mk 0x10000 65536 [] none] } }
     invOk s = true ∧ s.ret.ops ≠ [] ∧ s.ret.suspended = false ∧ tabWf (fun _ => (0xFF : Byte)) s.nor = true) ∧
    (let s : State := { actS with ret := { suspended := true } }
     invOk s = true ∧ s.ret.suspended = true) ∧
    (∀ b ∈ [(0 : Byte), 2], [b].length = 1 ∧ beAt [b] 0 1 < 3 ∧ (actS).opAllowed 0x26 = true) :=
  ⟨by decide +kernel, fun op b s h1 h2 h3 => granted_svc op b s h1 h2 h3, by decide +kernel⟩

/-- A boot that waits for a token, with key 1 serving debug tokens; a token for it with the masks of colour 4, signed with the
private key 1 and the message number 1: key and r are the base point of P-384, s is (SHA-384 of the token + r) modulo the order. -/
def tokKey : List Byte := 4 :: be 48 p384G.1 ++ be 48 p384G.2.1
def lockS : State :=
  { State.reset with
    boot := { waiting := true, nonce := List.replicate 32 5, por := false }
    otp := { keys := [(1, { present := true, hash := sha tokKey, purpose := 4 })] } }
def token1 : List Byte :=
  be 4 0x444B4E55 ++ be 2 1 ++ [1, 0] ++ be 8 0 ++ List.replicate 32 5 ++ be 2 16 ++ be 2 16 ++ List.replicate 12 0 ++ tokKey ++
  List.replicate 3 0 ++ be 48 (p384G.1 % p384N) ++
  be 48 0x5942206917DCB0FEF4E8FC33EA9013FBCA95BC57EF6BD3A05800F806378CBB7D847D3BF03AF167849A42C659BE5AD757

/-- SHA-384 of "abc", as FIPS 180 gives it (R381). -/
theorem test_sha384_abc : sha384 [0x61, 0x62, 0x63] =
    0xcb00753f45a35e8bb5a03d699ac65007272c32ab0eded1631a8b605a43ff5bed8086072ba1e7cc2358baeca134c825a7 := by
  decide +kernel

theorem lockS_inv : lockS.Inv := by
  have h := reset_inv
  exact ⟨h.1, h.2, h.3, h.4, h.5, h.6, h.7, h.8, h.9, h.10, h.11, h.12⟩

theorem wit_LifecycleAndKeys_token :
    lockS.Inv ∧ lockS.boot.waiting = true ∧ lockS.ret.norOk = true ∧ lockS.tokenOk token1 = true :=
  ⟨lockS_inv, rfl, rfl, by decide +kernel⟩

theorem wit_LifecycleAndKeys :
    lockS.Inv ∧ lockS.boot.waiting = true ∧ lockS.tokenOk [] = false ∧ lockS.boot.por = false ∧ State.reset.boot.waiting = false ∧
    State.reset.dev = .booting ∧ (actS).boot.waiting = false ∧ (actS).dev ≠ .booting ∧ invOk actS = true ∧
    (∀ op b, ∀ s : State, s.opAllowed op = true → s.ret.norOk = true → s.pwLocked = false → Granted op (rq op b) [] (svcS op b s)) ∧
    (∀ life ∈ [1, 2], let s : State := { plantS .ready .solo with
        otp := { sealed := if life = 2 then (0xFFFFFFFF, 0xFFFFFFFF) else (0, 0), keys := [(1, { present := true, purpose := 2 })] } }
      invOk s = true ∧ s.opAllowed 0x24 = true ∧ s.opAllowed 0x25 = true ∧ s.ret.norOk = true ∧ s.otp.life = life ∧ s.keyServes 1 1 = true ∧
        (tget {} s.otp.keys 1).present = true ∧ (tget {} s.otp.keys 2).present = false ∧ s.otp.id.toNat = 0 ∧ s.boot.life = 1) ∧
    (∀ x ∈ [(2 : Byte), 3], let b : List Byte := [x] ++ be 7 0 ++ be 8 0
      b.length = 16 ∧ beAt b 1 7 = 0 ∧ beAt b 8 8 = 0 ∧ beAt b 0 1 = x.toNat) ∧
    (∀ x ∈ [(1 : Byte), 2, 3], let b : List Byte := [x, 7, 0, 0] ++ List.replicate 48 1
      b.length = 52 ∧ beAt b 2 2 = 0 ∧ beAt b 1 1 < 8 ∧ beAt b 0 1 = x.toNat) :=
  ⟨lockS_inv, rfl, by decide +kernel, rfl, rfl, rfl, rfl, by decide +kernel, by decide +kernel, fun op b s h1 h2 h3 => granted_svc op b s h1 h2 h3, by decide +kernel⟩

theorem wit_Resets :
    (State.reset.boot.por = true ∧ State.reset.boot.rstN = false ∧ State.reset.boot.waiting = false ∧ State.reset.dev = .booting) ∧
    (let s : State := { State.reset with boot := { rstN := true } }
     invOk s = true ∧ s.boot.por = true ∧ s.boot.rstN = true) ∧
    (let s : State := { State.reset with boot := { rstN := true, por := false } }
     invOk s = true ∧ s.boot.por = false ∧ s.boot.rstN = true ∧ s.ret.flushing = false) ∧
    (let s : State := { run .active .solo with boot := { por := false } }
     invOk s = true ∧ s.boot.por = false ∧ s.boot.rstN = false ∧ s.dev ∉ [DevState.booting, .parked, .refused] ∧ trippable s.dev = true) ∧
    (lockS.dev = .booting ∧ lockS.boot.waiting = true) ∧
    ({ run .active .solo with boot := { por := false } } : State).boot.por = false ∧ (2000 : Nat) < 1000000 ∧
    (invOk (inDev .parked) = true ∧ (inDev .parked).dev = .parked ∧ (run .active .solo).boot.held = true ∧ (1 : Nat) < 2000) ∧
    (∀ b ∈ [(0 : Byte), 1, 0xFF], [b].length = 1 ∧ (beAt [b] 0 1 < 2 ∨ beAt [b] 0 1 = 0xFF)) ∧
    (∀ op b, ∀ s : State, s.opAllowed op = true → s.ret.norOk = true → s.pwLocked = false → Granted op (rq op b) [] (svcS op b s)) ∧
    (let s : State := { plantS .tripped .solo [(F.TUMB_STAT_CAUSE, 11)] with boot := { por := false } }
     invOk s = true ∧ s.opAllowed 0x22 = true ∧ s.ret.norOk = true ∧ s.causeCleared = true) ∧
    (let s : State := { plantS .tripped .solo [(F.TUMB_STAT_CAUSE, 8)] with boot := { por := false } }
     invOk s = true ∧ s.opAllowed 0x22 = true ∧ s.ret.norOk = true ∧ s.causeCleared = false ∧ s.dev ≠ .stopped) ∧
    (let s := plantS .stopped .solo
     invOk s = true ∧ s.opAllowed 0x22 = true ∧ s.dev = .stopped) := by
  refine
  ⟨?_, ?_, ?_, ?_, ?_, ?_, ?_, ?_, ?_,
   fun op b s h1 h2 h3 => granted_svc op b s h1 h2 h3, ?_⟩
  all_goals decide +kernel

/-! ### Plant ports, field die, CAN -/

def plS (l : List (Fld × Nat) := []) : State :=
  { plantS .active .solo ([(F.PL_CTRL_EN 0, 1), (F.PL_STAT_UP 0, 1), (F.PL_CTRL_EN 1, 1), (F.PL_STAT_UP 1, 1), (F.PL_IP_IP 0, 0x0A000002),
      (F.PL_MAC_LO_MAC_LO 0, 5)] ++ l) with boot := { held := false, por := false } }
def pfr (et : Nat) (p : List Byte) (proto icmp : Nat := 0) (ok : Bool := true) (len : Nat := 64) : PlantFrame :=
  ⟨ok, len, false, 0, 0, 5, 9, false, BitVec.ofNat 16 et, 0x0A000002, 0x0A000003, false, BitVec.ofNat 8 proto, BitVec.ofNat 8 icmp, 0, 0, true, 0,
   15, 0, 0, p⟩
def arpReq : PlantFrame := pfr 0x0806 (be 6 0 ++ be 2 1 ++ be 16 0 ++ be 4 0x0A000002)
def echoReq : PlantFrame := pfr 0x0800 (be 8 0) 1 8
def annA : Announce := ⟨0, false, 1, 1, 128, 248, 0x20, 0xFFFF, 128, 1, 0, 0⟩
def syncA (two : Bool) (log : Int := 0) : SyncMsg := ⟨0, false, 1, two, 4, log, 1, 0, 5⟩
def forA (p : PlantPort) (prev : Option Nat) : Foreign := ⟨p, annA, 0, prev⟩
def ptpS (pt : Ptp) : State := { plS [(F.TIME_CFG_PTP_EN, 1), (F.TIME_STAT_PTP_LOCKED, 1)] with ptp := pt }

theorem wit_PlantPortsAndTime :
    invOk plS = true ∧ plS.rfb (F.PL_CTRL_EN (ppIdx .a)) = true ∧ State.reset.rfb (F.PL_CTRL_EN (ppIdx .a)) = false ∧ plS.plantOn .a = true ∧
    (pfr 0x0806 [] 0 0 false).fcsOk = false ∧ (pfr 0x1234 []).fcsOk = true ∧ plS.consumes .a (pfr 0x1234 []) = false ∧ plS.lineMode = false ∧
    plS.consumes .a arpReq = true ∧ plS.plantForm .a arpReq = true ∧ plS.plantUp .a = true ∧ plS.isArp .a arpReq = true ∧
    beAt arpReq.payload 6 2 = 1 ∧ plS.isEcho .a echoReq = true ∧ plS.plantForm .a echoReq = true ∧ echoReq.fcsOk = true ∧
    (let s := plS [(F.SYS_MODE_PLANT, 1)]
     invOk s = true ∧ s.lineMode = true ∧ s.consumes .a (pfr 0x1234 []) = false ∧ (pfr 0x1234 []).etherType ≠ 0x8808 ∧
       s.plantForm .a (pfr 0x1234 []) = true ∧ s.plantUp (otherPlant .a) = true ∧ (s.plant (otherPlant .a)).fifo + 8 * (pfr 0x1234 []).len ≤ 262144) ∧
    (let s : State := { plS [(F.SYS_MODE_PLANT, 1)] with plantB := { fifo := 262144 - 511 } }
     invOk s = true ∧ s.lineMode = true ∧ 262144 < (s.plant (otherPlant .a)).fifo + 8 * (pfr 0x1234 []).len ∧ s.consumes .a (pfr 0x1234 []) = false ∧
       s.plantForm .a (pfr 0x1234 []) = true ∧ s.plantUp (otherPlant .a) = true) ∧
    ptpEvent { pfr 0x88F7 [] with ptpType := 3 } = true := by decide +kernel

theorem wit_PlantPortsAndTime_ptp :
    (∀ l ∈ [[], [forA .a none]], let s := ptpS { foreign := l }
     invOk s = true ∧ s.ptpOn .a annA.domain annA.udp = true ∧ s.ptp.best = none ∧ s.ptp.foreign = l ∧ annA.steps.toNat < 255 ∧
       s.mono ≤ 0 + announceWindow annA.logInterval) ∧
    (syncInterval (syncA true).logInterval = true ∧ syncInterval (syncA true 1).logInterval = false ∧ syncInterval (-7) = true ∧
      syncInterval (-8) = false ∧ (syncA true).twoStep = true ∧ (syncA false).twoStep = false) ∧
    (∀ sy ∈ [none, some (syncA true, (9 : Word))], let s := ptpS { best := some annA, sync := sy, reqId := some 6 }
     invOk s = true ∧ s.fromMaster .a 0 false 1 = true ∧ s.ptp.sync = sy ∧ s.ptp.acquired = false ∧ s.plantUp .a = true ∧ s.ptpUsed = .a ∧
       s.ptp.best ≠ none ∧ s.rfb F.TIME_CFG_PTP_EN = true ∧ s.delayReqDue = true ∧ (s.plant .a).tsq.length < 16 ∧ s.ptp.reqId = some 6 ∧
       s.ptpPort .b = false ∧ s.bestOn .b = none) ∧
    (let s : State := { plS [(F.TIME_CFG_PTP_EN, 1), (F.TIME_CFG_ALT, 1)] with ptp := { best := some annA, foreign := [forA .b (some 0)] } }
     invOk s = true ∧ s.ptpUsed = .a ∧ s.ptp.best ≠ none ∧ s.rfb F.TIME_CFG_PTP_EN = true ∧ s.ptpPort (otherPlant .a) = true ∧
       s.bestOn (otherPlant .a) = some annA) ∧
    (let s : State := { plS [(F.TIME_STAT_PTP_LOCKED, 0), (F.TIME_STAT_SYNC, 1), (F.TIME_CFG_HOLDOVER, 1)] with
       ptp := { lostAt := some 0 }, ns := 1000000000 }
     invOk s = true ∧ s.rfb F.TIME_STAT_PTP_LOCKED = false ∧ s.ptp.lostAt = some 0 ∧
       0 + s.rf F.TIME_CFG_HOLDOVER * 1000000000 ≤ s.mono) := by decide +kernel

def fldS (f : FieldDie := {}) (l : List (Fld × Nat) := []) : State :=
  { plantS .active .solo ([(F.FIELD_CTRL_EN, 1), (F.FIELD_BASE_BASE, 128)] ++ l) with field := f }
def fcmd (ok drive sf : Bool) : FieldCmd := ⟨ok, drive, sf, List.replicate 32 1⟩
def fstat (ok : Bool) : FieldStatus := ⟨ok, List.replicate 64 ⟨3, 1⟩, false, none⟩
/-- What the field die meets in one tick: every digital input high for 1 ms, its wire check too. -/
def fin1 : FieldIn := ⟨List.replicate 16 [(true, 1000)], List.replicate 16 [(true, 1000)], [], 0, 0, 0, 0, [], 0, 0, 0⟩

theorem wit_FieldDie :
    (invOk (fldS) = true ∧ (fldS).fieldOn = true ∧ (fldS).pdAck 11 = true ∧ (fldS).dev ∉ [DevState.booting, .parked, .refused] ∧
      (fldS).field.k ≤ (fldS).field.cfg.hold ∧ (fldS).field.cal = none ∧ ∀ x ∈ (fldS).fctl.cmdTest, x.1 ≠ 10) ∧
    (fcmd false true false).crcOk = false ∧ (fcmd true true false).safe = false ∧ (fcmd true false true).safe = true ∧
    (∀ c ∈ [fcmd true true false, fcmd true false false, fcmd true true true], invOk (fldS { cmd := some c }) = true ∧
      (fldS { cmd := some c }).field.cmd = some c) ∧
    (let s := fldS { k := 9 }
     invOk s = true ∧ s.fieldOn = true ∧ s.field.cfg.hold < s.field.k ∧ s.field.safeSt = false) ∧
    (let s : State := { fldS with boot := { por := false }, ns := 9500000 }
     invOk s = true ∧ s.pdAck 11 = true ∧ s.boot.por = false ∧ s.field.heardAt + 950000 * s.field.cfg.wd ≤ s.mono) ∧
    (let s : State := { fldS with boot := { por := false }, ns := 9499999 }
     invOk s = true ∧ s.boot.por = false ∧ s.mono < s.field.heardAt + 950000 * s.field.cfg.wd) ∧
    (let s := fldS { cfg := { openEn := 128 } }
     invOk s = true ∧ nbit s.field.cfg.openEn 7 = true ∧ s.field.on 7 = false ∧ s.pulseOk 7 = false) ∧
    (let s : State := { fldS { doCmd := 128, cfg := { pulseEn := 128 } } with fctl := { cmdTest := [(7, 7)] } }
     invOk s = true ∧ s.fieldOn = true ∧ (7, 7) ∈ s.fctl.cmdTest ∧ s.pulseOk 7 = true) ∧
    (let s := fldS { pulse := [(7, true)] }
     invOk s = true ∧ tget false s.field.pulse 7 = true) ∧
    (nbit (fldS).field.cfg.diWire 15 = false ∧ tabWf (fun _ => ({} : Debounce)) (fldS).field.di = true ∧ fin1.di.getD 15 [] = [(true, 1000)] ∧
      100 * (fldS).field.cfg.diFilter.getD 15 0 ≤ 1000) ∧
    (fstat false).crcOk = false ∧ (fldS).reached ((fldS).rf F.TICK_PH2_SAMPLE) = false ∧
    (let s : State := { fldS with phase := 100000 }
     invOk s = true ∧ s.fieldOn = true ∧ s.reached (s.rf F.TICK_PH2_SAMPLE) = true ∧ 1000 * s.inTick ≤ s.rf F.TICK_PH1_REPLY_END * s.tb ∧
       (∀ line, line < 8 → s.gateOk 48 (bankL + 8 * (s.rf F.FIELD_BASE_BASE + 8 * line)) 64 .write = true)) := by decide +kernel

def canS (c : CanS) (l : List (Fld × Nat) := []) : State := { plantS .active .solo ([(F.CAN_CTRL_EN 0, 1)] ++ l) with can0 := c }
def cfr (ok : Bool) : CanFrame := ⟨false, 5, false, false, 1, ok, [7]⟩
def cobj : List (Fld × Nat) := [(F.CAN_OBJ_A_DIR 0 127, 1), (F.CAN_OBJ_A_ID 0 127, 5), (F.CAN_OBJ_B_MASK 0 127, 0x7FF)]
def cpend (n : Nat) (drive : Bool := true) : CanS := { pend := [⟨127, cfr true, n, true⟩], drive := drive }

theorem wit_CanPorts :
    (let s := canS {} cobj
     invOk s = true ∧ s.canOn 0 = true ∧ (List.range 128).find? (s.canMatch 0 (cfr true)) = some 127 ∧ (cfr true).crcOk = true) ∧
    (let s := canS { buf := [(127, ⟨some (cfr true), 6, 1⟩)] } cobj
     invOk s = true ∧ (tget {} (s.can 0).buf 127).news ≠ 0) ∧
    (∀ k, k < 128 → (canS {}).canMatch 0 (cfr true) k = false) ∧ (cfr false).crcOk = false ∧
    (let s := canS {} [(F.CAN_STAT_REC 0, 127)]
     invOk s = true ∧ s.canOn 0 = true ∧ 127 ≤ s.rf (F.CAN_STAT_REC 0)) ∧
    (invOk { canS {} with dev := .ready } = true ∧ ({ canS {} with dev := .ready } : State).mayDrive = false ∧ (canS {}).canSends = true) ∧
    (let s := canS {} [(F.CAN_OBJ_A_DIR 0 127, 2), (F.CAN_OBJ_D_PERIOD 0 127, 7)]
     invOk s = true ∧ (s.can 0).pend = [] ∧ ((List.range 128).filter fun k => s.rf (F.CAN_OBJ_A_DIR 0 k) == 2 &&
       decide (0 < s.rf (F.CAN_OBJ_D_PERIOD 0 k)) && s.n % s.rf (F.CAN_OBJ_D_PERIOD 0 k) == 0) = [127]) ∧
    (∀ n ∈ [0, 1], let s := canS (cpend n) [(F.CAN_CTRL_RETRY 0, 1), (F.CAN_STAT_TEC 0, 247)]
      invOk s = true ∧ (s.can 0).pend = [⟨127, cfr true, n, true⟩] ∧ s.canOn 0 = true ∧ (s.can 0).drive = true ∧ s.dev ≠ .tripped ∧ s.rf (F.CAN_STAT_TEC 0) + 8 ≤ 255 ∧
        s.rfb (F.CAN_CTRL_POLICY 0) = false ∧ s.rfb (F.CAN_CTRL_UNLIM 0) = false ∧ s.rf (F.CAN_CTRL_RETRY 0) = 1) ∧
    (let s := canS (cpend 0 false)
     invOk s = true ∧ (s.can 0).pend = [⟨127, cfr true, 0, true⟩] ∧ s.rfb (F.CAN_CTRL_SLEEP 0) = false ∧ (s.can 0).drive = false) ∧
    (let s := canS (cpend 0) [(F.CAN_CTRL_SLEEP 0, 1)]
     invOk s = true ∧ (s.can 0).pend = [⟨127, cfr true, 0, true⟩] ∧ s.rfb (F.CAN_CTRL_SLEEP 0) = true ∧ (s.can 0).wakeDue = false) ∧
    (let s := canS (cpend 0) [(F.CAN_STAT_TEC 0, 248)]
     invOk s = true ∧ s.dev ≠ .tripped ∧ s.rfb (F.CAN_CTRL_SLEEP 0) = false ∧ 255 < s.rf (F.CAN_STAT_TEC 0) + 8 ∧ (s.can 0).stb = false ∧ s.rfb (F.CAN_CTRL_EN 0) = true) ∧
    (let s := canS {} [(F.CAN_STAT_STATE 0, 2), (F.CAN_CTRL_ABO 0, 1)]
     invOk s = true ∧ s.rf (F.CAN_STAT_STATE 0) = 2 ∧ s.rfb (F.CAN_CTRL_ABO 0) = true) ∧
    (canS {}).rf (F.CAN_STAT_STATE 0) ≠ 2 := by decide +kernel

/-! ### Power, rack chain, health, panel -/

def rackS (r : RackS) (d : DevState := .active) : State := { plantS d .solo with rack := r, boot := { por := false } }
def wakeFr (a : Nat) (wk pk : Bool) : BitVec 24 := rackFrame a wk pk 3

theorem wit_RetainAndRack :
    (invOk actS = true ∧ (actS).retOn = true ∧ (actS).ret.flushing = false ∧ (actS).ret.writing = false) ∧
    (let s : State := { actS with ret := { flushing := true, writing := true } }
     invOk s = true ∧ s.ret.flushing = true ∧ s.ret.writing = true) ∧
    (invOk (rackS {}) = true ∧ (rackS {}).boot.por = false ∧ rackOk 0 = false) ∧
    (let s := rackS { seen := some 127, same := 7 }
     invOk s = true ∧ rackOk (wakeFr 127 false false) = true ∧ (s.rackTake (wakeFr 127 false false)).rackActs = false ∧
       s.rack.seen = some (bitsOf (wakeFr 127 false false).toNat 13 7) ∧ s.rack.addr ≠ some 127) ∧
    ((rackS { seen := some 1 }).rack.seen ≠ some (bitsOf (wakeFr 127 false false).toNat 13 7)) ∧
    (∀ x ∈ [(DevState.ready, false, true), (.parked, true, false)],
      let s := rackS { addr := some 3, wake := x.2.1, park := x.2.2, tgt := 3, cmdCnt := 3 } x.1
      invOk s = true ∧ rackOk (wakeFr 2 x.2.1 x.2.2) = true ∧ (s.rackTake (wakeFr 2 x.2.1 x.2.2)).rackActs = true ∧
        nbit (wakeFr 2 x.2.1 x.2.2).toNat 11 = x.2.2 ∧ nbit (wakeFr 2 x.2.1 x.2.2).toNat 12 = x.2.1) ∧
    (∀ l ∈ [1, 2], let s := rackS { inject := [(true, false, 5)], left := l }
      invOk s = true ∧ s.rack.inject = [(true, false, 5)]) ∧
    (rackS {}).rfb F.RACK_STAT_HEAD = false ∧ (rackS {}).rack.inject = [] ∧
    (∀ x ∈ [(DevState.active, true), (.active, false), (.parked, true)],
      let s : State := { plantS x.1 .solo [(F.CAN_WAKE_MODE 0, 1), (F.CAN_CTRL_EN 0, 1), (F.CAN_CTRL_SLEEP 0, 1)] with
        can0 := { stb := x.2 }, boot := { por := false } }
      invOk s = true ∧ s.canWakes 0 (.dominant 5000) = true ∧ s.canWakes 0 (.dominant 4999) = false ∧ (s.can 0).stb = x.2 ∧ s.dev = x.1) := by decide +kernel

def hlS (x : Item) (ns : Nat) : State :=
  { plantS .active .solo [(F.HLTH_CFG_BG_EN, 1)] with hlth := { items := [(2, x)] }, ns := BitVec.ofNat 32 ns, wrap := BitVec.ofNat 32 (ns / 2 ^ 32) }
def panS (p : Pan) (l : List (Fld × Nat) := []) : State := { plantS .active .solo ([(F.PANEL_CTRL_EN, 1)] ++ l) with pan := p }

theorem wit_HealthAndPanel :
    (let s := hlS { last := some 0 } 10000000000
     invOk s = true ∧ s.itemPeriod 2 = some 10000000000 ∧ 10000000000 ≤ s.itemAge 2 ∧ testsRun s.dev = true ∧
       s.rfb F.HLTH_CFG_BG_EN = true ∧ (s.item 2).pending = false) ∧
    (withF [(F.HLTH_CFG_BG_EN, 0)]).rfb F.HLTH_CFG_BG_EN = false ∧
    (let s := hlS { pending := true, req := true, reqAt := 0, last := some 0 } 60000000000
     invOk s = true ∧ s.itemBound 2 = some 60000000000 ∧ (s.item 2).pending = true ∧ (s.item 2).req = true ∧
       (s.item 2).reqAt + 60000000000 ≤ s.mono ∧ s.itemAge 2 ≤ 60000000000) ∧
    ((hlS { reqAt := 0 } 59999999999).mono < ((hlS { reqAt := 0 } 59999999999).item 2).reqAt + 60000000000 ∧
      60000000000 < (hlS { last := some 0 } 60000000001).itemAge 2) ∧
    (∀ m ∈ [0, 1], let s := panS { r := 0x10000 } [(F.SYS_PWR_MRAM, m)]
      invOk s = true ∧ s.rfb F.PANEL_CTRL_EN = true ∧ s.pan.busy = false ∧ s.pan.waitRec = false ∧ s.dev ≠ .parked ∧
        (s.pan.r ^^^ s.pan.d) &&& mainMask ≠ 0 ∧ s.mramClass = (m == 1)) ∧
    (let s := panS { waitRec := true, recIn := true, record := some { new := 5, old := 6, pstate := 1 } }
     invOk s = true ∧ s.pan.record.isSome = true ∧ s.pan.waitRec = true ∧ s.pan.recIn = true ∧ s.dev ≠ .parked) ∧
    (let s := panS { busy := true, aonBusy := true }
     invOk s = true ∧ s.pan.busy = true ∧ s.pan.clearing = false ∧ s.pan.aonBusy = true) ∧
    (let s := panS { busy := true, clearing := true }
     invOk s = true ∧ s.pan.busy = true ∧ (s.pan.r ^^^ s.pan.target) &&& mainMask = 0) ∧
    (let s := panS {}
     invOk s = true ∧ (s.pan.r ^^^ s.pan.d) &&& mainMask = 0 ∧ s.pan.recIn = false ∧ s.rfb F.PANEL_CTRL_EN = true ∧ s.pan.aonBusy = false ∧
       s.pan.aonFull = true) := by decide +kernel

/-! ### Azwin -/

/-- R95 to R99 written out: ADD.I64 V5, V6, V7; ADD.I32 V1, immediate 9, short immediate 3 with its extension word; MOV of V2 to the
VALUE of the U32 output slot 0x123. -/
theorem test_spell_words : spellsAt 0 [0x11050607] 0 (.add 0 .i64 (.reg 5) (.reg 6) (.reg 7)) = true ∧
    spellsAt 3 [0x10018043, 9] 0 (.add 3 .i32 (.reg 1) (.imm32 9) (.short 3)) = true ∧
    spellsAt 0 [0x01820200, 0x03000123] 0 (.mov 0 (.out 0x123 .u32 false) (.reg 2)) = true := by decide +kernel

/-- Another operation, swapped sources, a field that must be 0 and a reserved opcode spell no such command. -/
theorem test_spell_refused : spellsAt 0 [0x11050607] 0 (.sub 0 .i64 (.reg 5) (.reg 6) (.reg 7)) = false ∧
    spellsAt 0 [0x11050607] 0 (.add 0 .i64 (.reg 5) (.reg 7) (.reg 6)) = false ∧
    spellsAt 0 [0x00000001] 0 (.nop 0) = false ∧ spellsAt 0 [0] 0 (.nop 0) = true ∧ spellsAt 0 [0xFF000000] 0 (.nop 0) = false := by decide +kernel

/-- Engine 0 (and its twin) at an instruction of task 0, with values 7 and -3 in registers 0 and 1. -/
def azAct : Act := { act0 with frames := [{ v := [(0, 7), (1, 0xFFFFFFFFFFFFFFFD)] }] }
def azTask (array : Bool) : TaskImg :=
  { taskId := 5, array := array, code := [0x35000000], funcs := [⟨0, 0, 0⟩, ⟨4, 2, 1⟩],
    arrd := if array then some ⟨0, 8, 64, 8, none, 0, 0, 0, none, none, 0, []⟩ else none }
def azS (a : Act) (split : Nat := 0) (array : Bool := false) : State :=
  withActs a a { oneTask [(F.SYS_MODE_SPLIT, split)] with
    sched := { placed := [⟨0, 0, 0⟩], execOpen := true }
    img := { svc := .solo, stations := [theSta], journal := [1], telegrams := [{ tg1 with send := true }],
             tasks := [{ img := azTask array, set := 1, place := [0] }] } }

theorem azS_executes (a : Act) (split : Nat) (array : Bool) (h : (a.task == 0 && !a.done && !a.check) = true) :
    Executing (azS a split array) 0 a { img := azTask array, set := 1, place := [0] } := by
  simp only [Bool.and_eq_true, beq_iff_eq, Bool.not_eq_true'] at h
  obtain ⟨⟨h1, h2⟩, h3⟩ := h
  refine ⟨rfl, by rw [h1]; rfl, ?_, rfl⟩
  have hc : ((azS a split array).getEng ↑(0 : Fin 12)).cur = some a := rfl
  simp only [State.mayRun, hc, h2, h3, show ((0 : Fin 12).val % 2 == 1) = false from rfl, Bool.and_false]
  rfl

/-- Operations with a register destination and register sources pass the verifier; the last bit of a field is bit 63. -/
theorem wit_IntegerAndLogicResults :
    (azS azAct).Inv ∧ Executing (azS azAct) 0 azAct { img := azTask false, set := 1, place := [0] } ∧ (azS azAct).dev ≠ .tripped ∧
    azAct.staged.length ≤ 1024 ∧ (Src.reg 0).isInd = false ∧ (Src.reg 1).isInd = false ∧
    (∀ i ∈ ([.mov 0 (.reg 2) (.reg 0), .sel 0 2 (.reg 0) (.reg 1), .cvt 0 (.reg 2) (.reg 0) .i64 .i32 .zero, .cvt 0 (.reg 2) (.reg 0) .u32 .i64 .zero,
        .satw 0 (.reg 2) (.reg 0) .int8, .satw 0 (.reg 2) (.reg 0) .uint16, .neg 0 .i64 (.reg 2) (.reg 0), .neg 0 .i32 (.reg 2) (.reg 0),
        .abs 0 .i64 (.reg 2) (.reg 0), .abs 0 .u64 (.reg 2) (.reg 0), .not 0 (.reg 2) (.reg 0), .lnot 0 (.reg 2) (.reg 0),
        .bfx 0 (.reg 2) (.reg 0) 60 3, .bins 0 2 (.reg 0) 60 3, .popc 0 (.reg 2) (.reg 0),
        .adds 0 .i64 (.reg 2) (.reg 0) (.reg 1), .subs 0 .u64 (.reg 2) (.reg 0) (.reg 1), .muls 0 .u64 (.reg 2) (.reg 0) (.reg 1),
        .lim 0 .u64 2 (.reg 0) (.reg 1), .shl 0 (.reg 2) (.reg 0) (.reg 1), .shr 0 (.reg 2) (.reg 0) (.reg 1), .sar 0 (.reg 2) (.reg 0) (.reg 1),
        .rol 0 (.reg 2) (.reg 0) (.reg 1), .btst 0 (.reg 2) (.reg 0) (.reg 1), .bset 0 (.reg 2) (.reg 0) (.reg 1), .bclr 0 (.reg 2) (.reg 0) (.reg 1),
        .and 0 (.reg 2) (.reg 0) (.reg 1), .or 0 (.reg 2) (.reg 0) (.reg 1), .xor 0 (.reg 2) (.reg 0) (.reg 1), .qtest 0 (.reg 2) (.reg 0) (.reg 1),
        .qany 0 (.reg 2) (.reg 0) (.reg 1), .qmrg 0 (.reg 2) (.reg 0) (.reg 1)] : List Instr), i.check = none) ∧
    (∀ k ∈ [K.i64, .u64, .i32, .u32], ∀ i ∈ ([.add 0 k (.reg 2) (.reg 0) (.reg 1), .sub 0 k (.reg 2) (.reg 0) (.reg 1),
        .mul 0 k (.reg 2) (.reg 0) (.reg 1), .min 0 k (.reg 2) (.reg 0) (.reg 1), .max 0 k (.reg 2) (.reg 0) (.reg 1),
        .ceq 0 k (.reg 2) (.reg 0) (.reg 1), .cne 0 k (.reg 2) (.reg 0) (.reg 1), .clt 0 k (.reg 2) (.reg 0) (.reg 1),
        .cle 0 k (.reg 2) (.reg 0) (.reg 1), .div 0 k (.reg 2) (.reg 0) (.reg 1)] : List Instr), i.check = none) ∧
    (Instr.rem 0 .i64 (.reg 2) (.reg 0) (.reg 1)).check = none ∧ (Instr.rem 0 .u64 (.reg 2) (.reg 0) (.short 0)).check = none ∧
    (Instr.div 0 .i64 (.reg 2) (.reg 0) (.short 0)).check = none ∧
    ((atInstr (azS azAct) 0 azAct { img := azTask false, set := 1, place := [0] } 0).rd (.reg 1)).1 ≠ 0 ∧
    ((atInstr (azS azAct) 0 azAct { img := azTask false, set := 1, place := [0] } 0).rd (.short 0)).1 = 0 := by
  refine
  ⟨inv_of _ (by decide +kernel), azS_executes _ _ _ rfl, ?_, ?_, rfl, rfl, ?_, ?_,
   ?_, ?_, ?_, ?_, ?_⟩
  all_goals decide +kernel

/-- Every operation on memory operands passes the verifier: an output slot as destination, a variable and the gather buffer as sources. -/
theorem wit_OperationsOnEveryForm :
    (azS azAct 1).Inv ∧ Executing (azS azAct 1) 0 azAct { img := azTask false, set := 1, place := [0] } ∧
    (let o : Dst := .out 64 .u32 false
     let x : Src := .var 0 .int32
     let y : Src := .gath 0 .u16 .value
     (∀ i ∈ ([.nop 0, .mov 0 o x, .satw 0 o x .int8, .sqrt 0 .f64 o x, .cvt 0 o x .f64 .i32 .down, .not 0 o x, .lnot 0 o x, .popc 0 o x, .bfx 0 o x 60 3,
         .adds 0 .i32 o x y, .subs 0 .i32 o x y, .muls 0 .i32 o x y, .rem 0 .i32 o x y, .and 0 o x y, .or 0 o x y, .xor 0 o x y, .shl 0 o x y,
         .shr 0 o x y, .sar 0 o x y, .rol 0 o x y, .btst 0 o x y, .bset 0 o x y, .bclr 0 o x y, .qtest 0 o x y, .qany 0 o x y, .qmrg 0 o x y,
         .ldx 0 o x 0 .int16 4, .ldxg 0 o x 0 .u16 .quality 4, .ldxk 0 o x 0 .int16 4, .stx 0 x y 0 .int16 4, .stxo 0 x y 64 .u32 false 4,
         .ridx 0 o, .clock 0 o, .tickn 0 o, .ared 0 15 x .sum .f64] : List Instr), i.check = none) ∧
     (∀ k ∈ [K.i64, .f32], ∀ i ∈ ([.neg 0 k o x, .abs 0 k o x, .add 0 k o x y, .sub 0 k o x y, .mul 0 k o x y, .min 0 k o x y, .max 0 k o x y,
         .div 0 k o x y, .lim 0 k 2 x y, .ceq 0 k o x y, .cne 0 k o x y, .clt 0 k o x y, .cle 0 k o x y] : List Instr), i.check = none)) :=
  ⟨inv_of _ (by decide +kernel), azS_executes _ _ _ rfl, by decide +kernel⟩

/-- Activations: in two frames, in a record, in the prologue, at the end. -/
def act2 : Act := { azAct with frames := [{ v := [(3, 9)], func := 1, ret := 8, d := 60 }, { v := [(0, 7)] }] }
def actRec (r : Nat) : Act := { azAct with part := .record, rcd := r, recEnd := 8 }

theorem wit_ControlFlow :
    (∀ a ∈ [azAct, act2, actRec 0, actRec 7, { azAct with part := .pro }, { azAct with part := .epi }], ∀ n ∈ [0, 1], ∀ ar : Bool,
      invOk (azS a n ar) = true ∧ (azS a n ar).dev ≠ .tripped ∧ a.staged.length ≤ 1024 ∧ (a.task == 0 && !a.done && !a.check) = true ∧
        (azS a n ar).twinMode 0 = (n == 0)) ∧
    (∀ a n ar, (a.task == 0 && !a.done && !a.check) = true → Executing (azS a n ar) 0 a { img := azTask ar, set := 1, place := [0] }) ∧
    (Instr.brt 0 (.reg 0) 5).check = none ∧ (Instr.brf 0 (.short 0) 5).check = none ∧ (Instr.loop 0 1 (.reg 0) 4 3).check = none ∧
    (5 : BitVec 16) ≠ 0 ∧ (Instr.loop 0 1 (.short 0) 8 3).check = none ∧ (Src.reg 0).isInd = false ∧
    ((atInstr (azS azAct) 0 azAct { img := azTask false, set := 1, place := [0] } 0).rd (.reg 0)).1.toNat = 7 ∧
    (∃ f l, azAct.frames = f :: l) ∧ (∃ f g l, act2.frames = f :: g :: l ∧ tabWf (fun _ => (0 : Dword)) g.v = true) ∧
    azAct.frames.length ≤ 1 ∧ azAct.part = .plain ∧ (actRec 0).part = .record ∧
    (atInstr (azS (actRec 0) 0 true) 0 (actRec 0) { img := azTask true, set := 1, place := [0] } 0).findRecord (0 + 1) = some 1 ∧
    (atInstr (azS (actRec 7) 0 true) 0 (actRec 7) { img := azTask true, set := 1, place := [0] } 0).findRecord (7 + 1) = none ∧
    (azTask true).arrd ≠ none ∧ (azTask true).arrd.bind (·.epi) = none :=
  ⟨by decide +kernel, fun a n ar h => azS_executes a n ar h, by decide +kernel, by decide +kernel, by decide +kernel, by decide, by decide +kernel,
   rfl, by decide +kernel, ⟨_, _, rfl⟩, ⟨_, _, _, rfl, by decide +kernel⟩, by decide, rfl, rfl, by decide +kernel, by decide +kernel,
   by decide +kernel, by decide +kernel⟩

theorem wit_StateObjects :
    (azS azAct).Inv ∧ Executing (azS azAct) 0 azAct { img := azTask false, set := 1, place := [0] } ∧
    (∀ i ∈ ([.ton 0 (.reg 2) (.reg 0) (.reg 1) 1, .tof 0 (.reg 2) (.reg 0) (.reg 1) 1, .tp 0 (.reg 2) (.reg 0) (.reg 1) 1, .rtrig 0 (.reg 2) (.reg 0) 1,
        .ftrig 0 (.reg 2) (.reg 0) 1, .ctu 0 (.reg 2) 62 (.reg 0) 1, .ctd 0 (.reg 2) 62 (.reg 0) 1, .ctud 0 (.reg 2) 60 (.reg 0) 1,
        .hyst 0 (.reg 2) (.reg 0) 62 1, .intg 0 (.reg 2) (.reg 0) 62 1, .stepgo 0 (.reg 2) (.reg 0) (.reg 1) 1, .stepis 0 (.reg 2) (.reg 0) 1,
        .oreset 0 (.reg 0) 0x7FFFFFFF] : List Instr), i.check = none) ∧
    (0 : Int) ≤ (0 : Dword).toInt ∧ (0 : Int) ≤ (0x7FFFFFFFFFFFFFFF : Dword).toInt :=
  ⟨inv_of _ (by decide +kernel), azS_executes _ _ _ rfl, by decide +kernel, by decide, by decide⟩

theorem wit_ObjectRules :
    (azS azAct).Inv ∧ Executing (azS azAct) 0 azAct { img := azTask false, set := 1, place := [0] } ∧ (azS azAct).dev ≠ .tripped ∧
    tabWf (fun _ => (0 : Byte)) azAct.lmem = true ∧ azAct.staged.length ≤ 1022 ∧ (Instr.oreset 0 (.reg 0) 1).check = none ∧
    (atInstr (azS azAct) 0 azAct { img := azTask false, set := 1, place := [0] } 0).v 0 ≠ 0 ∧
    (f64.read (0x7FF8000000000000 : Dword).toNat).isNan = true ∧ (f64.read (0 : Dword).toNat).isNan = false :=
  ⟨inv_of _ (by decide +kernel), azS_executes _ _ _ rfl, by decide +kernel⟩

theorem wit_SystemInstructions :
    (azS azAct).Inv ∧ Executing (azS azAct) 0 azAct { img := azTask false, set := 1, place := [0] } ∧
    (∀ i ∈ ([.jrnl 0 (.short 1) 58, .tgsend 0 (.short 3), .streq 0 (.short 10), .panel 0 (.reg 0) (.reg 1), .stack 0 (.short 1),
        .stobj 0 (.reg 2) (.short 1) (.short 9)] : List Instr), i.check = none) ∧ 1 ∈ (azS azAct).img.journal ∧
    (∃ t ∈ (azS azAct).img.telegrams, t.send = true ∧ t.num = 3) ∧ (azS azAct).declares 1 = true ∧ (azS azAct).declares 2 = false := by
  refine
  ⟨inv_of _ (by decide +kernel), azS_executes _ _ _ rfl, ?_, ?_, ?_, ?_,
   ?_⟩
  all_goals decide +kernel

theorem wit_StationObjectFields :
    (azS azAct).Inv ∧ Executing (azS azAct) 0 azAct { img := azTask false, set := 1, place := [0] } ∧ (azS azAct).dev ≠ .tripped ∧
    azAct.staged.length ≤ 1024 ∧ (Src.short 1).isInd = false ∧ (∀ i ∈ [0, 9, 10], (Instr.stobj 0 (.reg 2) (.short 1) (.short i)).check = none) ∧
    (azS azAct).declares 1 = true ∧ (azS azAct).declares 0 = false ∧
    ((atInstr (azS azAct) 0 azAct { img := azTask false, set := 1, place := [0] } 0).rd (.short 10)).1.toNat = 10 :=
  ⟨inv_of _ (by decide +kernel), azS_executes _ _ _ rfl, by decide +kernel⟩

/-- On a twin an addition answers a next state that has not tripped. -/
theorem wit_TwinStagingHolds : (azS azAct).Inv ∧ engineOf (.add 0 .i64 (.out 64 .u32 false) (.reg 0) (.reg 1)) = some 0 ∧
    (azS azAct).twinMode (0 : Fin 12) = true ∧ (azS azAct).dev ≠ .booting ∧
    ∃ t, exec (.add 0 .i64 (.out 64 .u32 false) (.reg 0) (.reg 1)) (azS azAct) = .next t ∧ t.dev ≠ .tripped := by
  refine ⟨inv_of _ (by decide +kernel), rfl, by decide +kernel, by decide +kernel, ?_⟩
  have h : (match exec (.add 0 .i64 (.out 64 .u32 false) (.reg 0) (.reg 1)) (azS azAct) with
    | .next t => decide (t.dev ≠ .tripped) | _ => false) = true := by decide +kernel
  generalize exec (.add 0 .i64 (.out 64 .u32 false) (.reg 0) (.reg 1)) (azS azAct) = o at h
  cases o with
  | next t => exact ⟨t, rfl, by simpa using h⟩
  | fault f => cases h
  | refused r => cases h

/-- A step of a state with a command and of one without: both answer a next state. -/
theorem wit_StepKeepsInv : State.reset.Inv ∧ ∃ t, step State.reset = .next t := ⟨reset_inv, _, rfl⟩

end Sys2Proof.Tests
end

section
/-!
SUPPORT. Registers through the gate (R4 to R7): what a write stores in each bit of a register, what a read clears, the writes
that act, and the statements about them; the reset state meets the invariant (R8, R22).
-/
namespace Sys2Proof.Proofs
open Sys2Proof Sys2Proof.Machine Sys2Proof.Laws

/-! ### The reset state -/

/-- Settles O4: the reset state lists no register, byte or record, and its bounded queues are empty. -/
theorem resetInv : Obligations.ResetInv where
  regs := rfl
  mem := rfl
  eng := rfl
  sta := rfl
  str := rfl
  mario := rfl
  tasks := rfl
  tgRx := rfl
  dirty := rfl
  viol := Nat.zero_le _
  tsqA := Nat.zero_le _
  tsqB := Nat.zero_le _

/-! ### Fields of the register map -/

/-- The fields of a register word: each within its 32 bits, no two sharing a bit. -/
def FieldsWf (fs : List FieldDef) : Prop :=
  (∀ f ∈ fs, f.lo ≤ f.hi ∧ f.hi < 32) ∧ fs.Pairwise fun f g => f.hi < g.lo ∨ g.hi < f.lo

/-- Every register of the map (R15) has well-formed fields. -/
theorem fieldsWf_of_mem_regBlocks : ∀ b ∈ regBlocks, ∀ r ∈ b.regs, FieldsWf r.fields := by
  unfold FieldsWf
  decide +kernel

theorem findReg_mem {a : Nat} {b : BlockDef} {i : Nat} {r : RegDef} (h : findReg a = some (b, i, r)) :
    b ∈ regBlocks ∧ r ∈ b.regs := by
  unfold findReg at h
  split at h
  · cases h
  · next b' i' hb =>
    obtain ⟨r', hr, he⟩ := Option.map_eq_some_iff.1 h
    cases he
    obtain ⟨b'', hmem, hb''⟩ := List.exists_of_findSome?_eq_some hb
    split at hb''
    · cases hb''
      exact ⟨hmem, List.mem_of_find?_eq_some hr⟩
    · cases hb''

theorem fieldsWf_of_findReg {a : Nat} {b : BlockDef} {i : Nat} {r : RegDef} (h : findReg a = some (b, i, r)) :
    FieldsWf r.fields :=
  fieldsWf_of_mem_regBlocks b (findReg_mem h).1 r (findReg_mem h).2

/-- A fold each of whose steps keeps bit `k` keeps it. -/
theorem nbit_foldl_of_kept {g : Word → FieldDef → Word} {k : Nat} : ∀ (fs : List FieldDef) (w : Word),
    (∀ x ∈ fs, ∀ u, nbit (g u x).toNat k = nbit u.toNat k) → nbit (fs.foldl g w).toNat k = nbit w.toNat k
  | [], _, _ => rfl
  | x :: fs, w, hg => by
    obtain ⟨hx, hfs⟩ := List.forall_mem_cons.1 hg
    rw [List.foldl_cons, nbit_foldl_of_kept fs _ hfs, hx]

/-- A fold over well-formed fields, each of which changes no bit but its own: bit `k` of the result is what the one field that
holds it makes of it. -/
theorem nbit_foldl_fields {g : Word → FieldDef → Word} {φ : FieldDef → Bool → Bool} {k : Nat} {f : FieldDef}
    (hlo : f.lo ≤ k) (hhi : k ≤ f.hi) : ∀ (fs : List FieldDef) (w : Word),
    (∀ x ∈ fs, ∀ u, nbit (g u x).toNat k = if x.lo ≤ k ∧ k ≤ x.hi then φ x (nbit u.toNat k) else nbit u.toNat k) →
    (fs.Pairwise fun f g => f.hi < g.lo ∨ g.hi < f.lo) → f ∈ fs →
    nbit (fs.foldl g w).toNat k = φ f (nbit w.toNat k)
  | x :: fs, w, hg, hd, hf => by
    obtain ⟨hx, hd⟩ := List.pairwise_cons.1 hd
    obtain ⟨hgx, hgfs⟩ := List.forall_mem_cons.1 hg
    rw [List.foldl_cons]
    rcases List.mem_cons.1 hf with rfl | hf
    · have hkept : ∀ y ∈ fs, ∀ u, nbit (g u y).toNat k = nbit u.toNat k := fun y hy u => by
        have := hx y hy
        rw [hgfs y hy, if_neg (by omega)]
      rw [nbit_foldl_of_kept fs _ hkept, hgx, if_pos ⟨hlo, hhi⟩]
    · have := hx f hf
      rw [nbit_foldl_fields hlo hhi fs _ hgfs hd hf, hgx, if_neg (by omega)]

/-! ### What a write stores (R5, R7) -/

/-- What a write of the bit `v` makes of a bit of field `f`: `old` before the write, `cur` if the field takes nothing. -/
def writtenBit (a : Nat) (locked : Bool) (f : FieldDef) (old v cur : Bool) : Bool :=
  if ownCommand a f.lo then cur
  else match f.acc with
    | .rw => v
    | .rwl => if locked then cur else v
    | .w1c => old && !v
    | _ => cur

theorem nbit_putBits_field (w : Word) (f : FieldDef) (v k : Nat) (hf : f.lo ≤ f.hi) (hk : k < 32) :
    nbit (putBits w f.lo (f.hi - f.lo + 1) v).toNat k =
      if f.lo ≤ k ∧ k ≤ f.hi then nbit v (k - f.lo) else nbit w.toNat k := by
  rw [nbit_putBits _ _ _ _ _ hk]
  congr 1
  exact propext (by omega)

/-- Bit `k` of the part of a word that a field holds. -/
theorem nbit_bitsOf_field (v k : Nat) (f : FieldDef) (hlo : f.lo ≤ k) (hhi : k ≤ f.hi) :
    nbit (bitsOf v f.lo (f.hi - f.lo + 1)) (k - f.lo) = nbit v k := by
  rw [nbit_bitsOf, decide_eq_true (by omega), Bool.true_and, Nat.add_sub_cancel' hlo]

/-- The bits that a W1C field keeps: those of its old value at which the written one is 0. -/
theorem nbit_and_complement (lo n old v i : Nat) (hi : i < n) :
    nbit (bitsOf old lo n &&& (2 ^ n - 1 - bitsOf v lo n)) i = (nbit (bitsOf old lo n) i && !nbit (bitsOf v lo n) i) := by
  have hv : bitsOf v lo n < 2 ^ n := Nat.mod_lt _ (Nat.two_pow_pos n)
  rw [Nat.sub_sub, Nat.add_comm 1]
  simp [nbit, Nat.testBit_and, Nat.testBit_two_pow_sub_succ hv, hi]

theorem nbit_writeField (a : Nat) (locked : Bool) (old v w : Word) (f : FieldDef) (k : Nat) (hf : f.lo ≤ f.hi) (hk : k < 32) :
    nbit (writeField a locked old v w f).toNat k =
      if f.lo ≤ k ∧ k ≤ f.hi then writtenBit a locked f (nbit old.toNat k) (nbit v.toNat k) (nbit w.toNat k)
      else nbit w.toNat k := by
  have hput := nbit_putBits_field w f (hf := hf) (hk := hk)
  unfold writeField writtenBit
  by_cases hown : ownCommand a f.lo = true
  · simp [hown]
  by_cases hin : f.lo ≤ k ∧ k ≤ f.hi
  · have hold := nbit_bitsOf_field old.toNat k f hin.1 hin.2
    have hnew := nbit_bitsOf_field v.toNat k f hin.1 hin.2
    have hw1c := nbit_and_complement f.lo (f.hi - f.lo + 1) old.toNat v.toNat (k - f.lo) (by omega)
    cases f.acc with
    | rw => simp [hown, hin, hput, hnew]
    | rwl => cases locked <;> simp [hown, hin, hput, hnew]
    | w1c => simp [hown, hin, hput, hold, hnew, hw1c]
    | ro | wo | rc => simp [hown]
  · cases f.acc with
    | rw | w1c => simp [hown, hin, hput]
    | rwl => cases locked <;> simp [hown, hin, hput]
    | ro | wo | rc => simp [hown]

theorem writtenWord_of_fixedBits_zero (s : State) (a : Nat) (fs : List FieldDef) (v : Word) (h : fixedBits a = 0) :
    s.writtenWord a fs v = fs.foldl (writeField a (s.locked a) (s.reg a) v) (s.reg a) := by
  have hall : ~~~(BitVec.ofNat 32 0) = BitVec.allOnes 32 := rfl
  simp only [State.writtenWord, h, hall, BitVec.and_allOnes, BitVec.and_zero, BitVec.or_zero]

/-- A write gives each bit of a register what the field that holds it makes of it. -/
theorem nbit_reg_writeReg {s : State} {a : Nat} {b : BlockDef} {i : Nat} {r : RegDef} {f : FieldDef} (v : Word)
    (hs : tabWf resetWord s.regs = true) (hr : findReg a = some (b, i, r)) (hf : f ∈ r.fields) (hfix : fixedBits a = 0)
    {k : Nat} (hlo : f.lo ≤ k) (hhi : k ≤ f.hi) :
    nbit ((s.writeReg a v).reg a).toNat k =
      writtenBit a (s.locked a) f (nbit (s.reg a).toNat k) (nbit v.toNat k) (nbit (s.reg a).toNat k) := by
  obtain ⟨hbits, hapart⟩ := fieldsWf_of_findReg hr
  have hk : k < 32 := Nat.lt_of_le_of_lt hhi (hbits f hf).2
  have hw : s.writeReg a v = s.setReg a (s.writtenWord a r.fields v) := by simp [State.writeReg, hr]
  rw [hw, reg_setReg_same s hs, writtenWord_of_fixedBits_zero s a _ v hfix]
  exact nbit_foldl_fields (φ := fun x c => writtenBit a (s.locked a) x (nbit (s.reg a).toNat k) (nbit v.toNat k) c) hlo hhi _ _
    (fun x hx u => nbit_writeField _ _ _ _ _ _ _ (hbits x hx).1 hk) hapart hf

theorem onlyRegsAt_setReg {s : State} (hs : tabWf resetWord s.regs = true) (a : Nat) (v : Word) :
    OnlyRegsAt [a] s (s.setReg a v) :=
  ⟨rfl, fun b hb => reg_setReg_ne s hs a b v (List.ne_of_not_mem_cons hb)⟩

/-- A register set to the word it holds changes no register. -/
theorem onlyRegsAt_setReg_self {s : State} (hs : tabWf resetWord s.regs = true) (a : Nat) :
    OnlyRegsAt [] s (s.setReg a (s.reg a)) := by
  refine ⟨rfl, fun b _ => ?_⟩
  by_cases hb : b = a
  · rw [hb, reg_setReg_same s hs]
  · exact reg_setReg_ne s hs a b _ hb

/-- A write to a register address changes no other register. -/
theorem onlyRegsAt_writeReg {s : State} (hs : tabWf resetWord s.regs = true) (a : Nat) (v : Word) :
    OnlyRegsAt [a] s (s.writeReg a v) := by
  unfold State.writeReg
  split
  · exact ⟨rfl, fun _ _ => rfl⟩
  · exact onlyRegsAt_setReg hs a _

/-- No field of the register at `a` takes a written bit: they are RO and WO. -/
def takesNothing (a : Nat) : Bool :=
  fixedBits a == 0 && (findReg a).all fun q => q.2.2.fields.all fun f => f.acc == .ro || f.acc == .wo

theorem foldl_writeField_of_ro_wo (a : Nat) (locked : Bool) (old v w : Word) : ∀ fs : List FieldDef,
    (fs.all fun f => f.acc == .ro || f.acc == .wo) = true → fs.foldl (writeField a locked old v) w = w
  | [], _ => rfl
  | f :: fs, h => by
    simp only [List.all_cons, Bool.and_eq_true, Bool.or_eq_true, beq_iff_eq] at h
    have hf : writeField a locked old v w f = w := by
      rcases h.1 with hacc | hacc <;> simp [writeField, hacc]
    rw [List.foldl_cons, hf]
    exact foldl_writeField_of_ro_wo a locked old v w fs (by simpa using h.2)

/-- A write of a register that only acts leaves every register as it was. -/
theorem onlyRegsAt_writeReg_of_takesNothing {s : State} (hs : tabWf resetWord s.regs = true) {a : Nat} (v : Word)
    (ha : takesNothing a = true) : OnlyRegsAt [] s (s.writeReg a v) := by
  obtain ⟨hfix, hfields⟩ := (Bool.and_eq_true _ _).mp ha
  unfold State.writeReg
  split
  · exact ⟨rfl, fun _ _ => rfl⟩
  · next hr =>
    rw [hr] at hfields
    rw [writtenWord_of_fixedBits_zero s a _ v (beq_iff_eq.1 hfix), foldl_writeField_of_ro_wo _ _ _ _ _ _ hfields]
    exact onlyRegsAt_setReg_self hs a

/-! ### Writes through the gate -/

theorem doWrite_of_gateOk {s : State} {ctx a n : Nat} (v : Word) (h1 : 1 ≤ n) (h2 : n ≤ 256)
    (hg : s.gateOk ctx a n .write = true) :
    s.doWrite ctx a n v =
      if n ≠ 4 ∨ a % 4 ≠ 0 ∨ ctx ≠ 55 ∨ s.maskRefused a v then s else (s.storeReg a v).regAction a (s.locked a) v.toNat := by
  rw [State.doWrite, if_neg (by omega), State.gate, if_pos hg]

/-- An aligned word that the gate passes is stored, then its action happens. -/
theorem exec_registerWrite_of_gateOk {s : State} {addr : Word} {a : Nat} (v : Word) (haddr : addr.toNat = a)
    (hg : s.gateOk 55 a 4 .write = true) (halign : a % 4 = 0) (hmask : s.maskRefused a v = false) :
    exec (.registerWrite 55 addr 4 v) s = .next ((s.storeReg a v).regAction a (s.locked a) v.toNat) := by
  subst haddr
  have h := doWrite_of_gateOk v (by decide) (by decide) hg
  rw [if_neg (by simp [halign, hmask])] at h
  exact congrArg Host.Outcome.next h

/-- Only the entries of the gate, which hold fixed bits, are checked against the table of R369. -/
theorem maskRefused_of_fixedBits_zero {s : State} {a : Nat} (v : Word) (h : fixedBits a = 0) : s.maskRefused a v = false := by
  have hout : ¬ (0x40030580 ≤ a ∧ a < 0x400305C0) := by
    intro hin
    rw [fixedBits, if_pos (by omega)] at h
    split at h <;> cases h
  simp [State.maskRefused, hout]

theorem storeReg_of_plain {s : State} {a : Nat} (v : Word) (ha : a ∉ [0x4011000C, 0x400D0000, 0x400E0000]) :
    s.storeReg a v = s.writeReg a v := by
  simp only [List.mem_cons, List.not_mem_nil, or_false, not_or] at ha
  obtain ⟨hinc, hcan0, hcan1⟩ := ha
  simp [State.storeReg, hinc, hcan0, hcan1]

/-- The registers with a field whose write acts (R5). -/
def actingRegs : List Nat :=
  [0x40000010, 0x40010000, 0x40030014, 0x40070020, 0x40090010, 0x40090018, 0x40110018, 0x400C0008]

theorem regAction_of_plain {s : State} {a : Nat} (locked : Bool) (v : Nat) (ha : a ∉ actingRegs) :
    s.regAction a locked v = s := by
  simp only [actingRegs, List.mem_cons, List.not_mem_nil, or_false, not_or] at ha
  obtain ⟨hpd, htick, hretag, hsaw, htumb, hrestart, htime, hrack⟩ := ha
  simp [State.regAction, pdAddr, hpd, htick, hretag, hsaw, htumb, hrestart, htime, hrack]

/-- A write of a register that only acts is its action, in a state with the same registers. -/
theorem exec_registerWrite_of_takesNothing {s : State} (hs : tabWf resetWord s.regs = true) (addr v : Word) {a : Nat}
    (haddr : addr.toNat = a) (hg : s.gateOk 55 a 4 .write = true) (halign : a % 4 = 0) (ha : takesNothing a = true)
    (hplain : a ∉ [0x4011000C, 0x400D0000, 0x400E0000]) :
    ∃ u, OnlyRegsAt [] s u ∧ exec (.registerWrite 55 addr 4 v) s = .next (u.regAction a (s.locked a) v.toNat) := by
  have hfix : fixedBits a = 0 := beq_iff_eq.1 ((Bool.and_eq_true _ _).mp ha).1
  refine ⟨s.writeReg a v, onlyRegsAt_writeReg_of_takesNothing hs v ha, ?_⟩
  rw [exec_registerWrite_of_gateOk v haddr hg halign (maskRefused_of_fixedBits_zero v hfix), storeReg_of_plain v hplain]

/-! ### The writes that act (R5) -/

theorem locked_tickCfg (s : State) : s.locked 0x40010000 = nbit (s.reg 0x40010000).toNat 31 := rfl

theorem rfb_tickCfgRun (s : State) : s.rfb F.TICK_CFG_RUN = nbit (s.reg 0x40010000).toNat 3 := by
  simp [State.rfb, State.rf, F.TICK_CFG_RUN, bitsOf, nbit, Nat.testBit, Nat.and_comm 1, Nat.and_one_is_mod]

section
variable {s : State} (hs : tabWf resetWord s.regs = true) (v : Word)
include hs

/-- `TIME_CTRL.LOAD` (R408). -/
theorem exec_registerWrite_timeLoad (hg : s.gateOk 55 0x40110018 4 .write = true) (h0 : nbit v.toNat 0 = true) :
    ∃ u, OnlyRegsAt [] s u ∧ exec (.registerWrite 55 0x40110018 4 v) s = exec .timeLoad u := by
  obtain ⟨u, hu, he⟩ := exec_registerWrite_of_takesNothing hs 0x40110018 v rfl hg rfl (by decide) (by decide)
  have hact : u.regAction 0x40110018 (s.locked 0x40110018) v.toNat = u.timeLoad := by simp [State.regAction, pdAddr, h0]
  exact ⟨u, hu, he.trans (congrArg Host.Outcome.next hact)⟩

/-- `TUMB_CMD.TRIP` (R364): the key stands in the upper half of the word. -/
theorem exec_registerWrite_tumbCmd (hg : s.gateOk 55 0x40090010 4 .write = true) (h0 : nbit v.toNat 0 = true) :
    ∃ u, OnlyRegsAt [] s u ∧
      exec (.registerWrite 55 0x40090010 4 v) s = exec (.tumbCmdTrip (BitVec.ofNat 16 (v.toNat / 65536))) u := by
  obtain ⟨u, hu, he⟩ := exec_registerWrite_of_takesNothing hs 0x40090010 v rfl hg rfl (by decide) (by decide)
  have hkey : (bitsOf v.toNat 16 16 == 0xA5C3) = decide (BitVec.ofNat 16 (v.toNat / 65536) = 0xA5C3#16) := by
    rw [Bool.eq_iff_iff, beq_iff_eq, decide_eq_true_iff, ← BitVec.toNat_inj, BitVec.toNat_ofNat, bitsOf,
      Nat.shiftRight_eq_div_pow]
    rfl
  have hact : u.regAction 0x40090010 (s.locked 0x40090010) v.toNat =
      if BitVec.ofNat 16 (v.toNat / 65536) = 0xA5C3#16 then u.trip 0x0B else u := by
    simp [State.regAction, pdAddr, h0, hkey]
  exact ⟨u, hu, he.trans (congrArg Host.Outcome.next hact)⟩

/-- `RACK_CMD` (R473): what is injected, and for which address. -/
theorem exec_registerWrite_rackCmd (hg : s.gateOk 55 0x400C0008 4 .write = true)
    (h01 : (nbit v.toNat 0 || nbit v.toNat 1) = true) :
    ∃ u, OnlyRegsAt [] s u ∧ exec (.registerWrite 55 0x400C0008 4 v) s =
      .next (u.rackInject (nbit v.toNat 0) (nbit v.toNat 1) (BitVec.ofNat 6 (v.toNat / 256)).toNat) := by
  obtain ⟨u, hu, he⟩ := exec_registerWrite_of_takesNothing hs 0x400C0008 v rfl hg rfl (by decide) (by decide)
  have htgt : bitsOf v.toNat 8 6 = (BitVec.ofNat 6 (v.toNat / 256)).toNat := by
    simp [bitsOf, Nat.shiftRight_eq_div_pow]
  refine ⟨u, hu, he.trans ?_⟩
  rw [← htgt]
  simp only [Bool.or_eq_true] at h01
  simp [State.regAction, pdAddr, h01]

/-- `SAW_HOVR.START` (R260, R266). -/
theorem exec_registerWrite_sawHovr (hg : s.gateOk 55 0x40070020 4 .write = true) (h0 : nbit v.toNat 0 = true) :
    ∃ t, exec (.registerWrite 55 0x40070020 4 v) s = .next t ∧
      t = { s with regs := t.regs, saw := { s.saw with hovrReq := true } } ∧ RegsBut [] s t := by
  obtain ⟨u, ⟨honly, hregs⟩, he⟩ := exec_registerWrite_of_takesNothing hs 0x40070020 v rfl hg rfl (by decide) (by decide)
  have hact : u.regAction 0x40070020 (s.locked 0x40070020) v.toNat = u.updSaw fun w => { w with hovrReq := true } := by
    simp [State.regAction, pdAddr, h0]
  refine ⟨_, he.trans (congrArg Host.Outcome.next hact), ?_, hregs⟩
  rw [honly]
  rfl

/-- `TICK_CFG.RUN` (R54): the other fields are stored, then the tick generator starts. -/
theorem exec_registerWrite_tickCfg (hg : s.gateOk 55 0x40010000 4 .write = true) (h3 : nbit v.toNat 3 = true)
    (h31 : nbit v.toNat 31 = false) (hlock : s.locked 0x40010000 = false) :
    ∃ u, OnlyRegsAt [0x40010000] s u ∧ u.rfb F.TICK_CFG_RUN = s.rfb F.TICK_CFG_RUN ∧
      exec (.registerWrite 55 0x40010000 4 v) s = exec .tickRun u := by
  obtain ⟨b, i, r, hr, hrun, hlockField⟩ : ∃ b i r, findReg 0x40010000 = some (b, i, r) ∧
      ⟨3, 3, .rwl, 0⟩ ∈ r.fields ∧ ⟨31, 31, .rwl, 0⟩ ∈ r.fields := ⟨_, _, _, rfl, by decide, by decide⟩
  have hrunBit := nbit_reg_writeReg v hs hr hrun rfl (Nat.le_refl 3) (Nat.le_refl 3)
  have hlockBit := nbit_reg_writeReg v hs hr hlockField rfl (Nat.le_refl 31) (Nat.le_refl 31)
  have hu : (s.writeReg 0x40010000 v).locked 0x40010000 = false := by
    rw [locked_tickCfg, hlockBit]
    simp [writtenBit, hlock, h31, ownCommand]
  refine ⟨s.writeReg 0x40010000 v, onlyRegsAt_writeReg hs _ v, ?_, ?_⟩
  · rw [rfb_tickCfgRun, rfb_tickCfgRun, hrunBit]
    simp [writtenBit, ownCommand]
  · rw [exec_registerWrite_of_gateOk v rfl hg rfl (maskRefused_of_fixedBits_zero v rfl), storeReg_of_plain v (by decide)]
    have hact : (s.writeReg 0x40010000 v).regAction 0x40010000 (s.locked 0x40010000) v.toNat =
        if (s.writeReg 0x40010000 v).locked 0x40010000 then s.writeReg 0x40010000 v else (s.writeReg 0x40010000 v).startRun := by
      simp [State.regAction, pdAddr, h3, hlock, hu]
    exact congrArg Host.Outcome.next hact

end

/-- `TIME_INC` (R407). -/
theorem exec_registerWrite_timeInc {s : State} (v : Word) (hg : s.gateOk 55 0x4011000C 4 .write = true) :
    exec (.registerWrite 55 0x4011000C 4 v) s = exec (.timeIncWrite v) s := by
  have hstore : s.storeReg 0x4011000C v = s.setInc v.toNat := if_pos rfl
  rw [exec_registerWrite_of_gateOk (a := 0x4011000C) v rfl hg rfl (maskRefused_of_fixedBits_zero v rfl), hstore,
    regAction_of_plain _ _ (by decide)]
  rfl

/-! ### Reads that clear (R5) -/

theorem doRead_of_gateOk {s : State} {ctx a n : Nat} (h1 : 1 ≤ n) (h2 : n ≤ 256) (hg : s.gateOk ctx a n .read = true) :
    s.doRead ctx a n =
      if n ≠ 4 ∨ a % 4 ≠ 0 then { s with rdata := 0 } else { (s.busRead a).2 with rdata := (s.busRead a).1 } := by
  rw [State.doRead, if_neg (by omega), State.gate, if_pos hg]

/-- The registers whose read latches the rest of a number or removes the head of a queue. -/
def latchingRegs : List Nat :=
  [0x40010020, 0x40010028, 0x40110004, 0x40090004, 0x40060018, 0x40120024, 0x40130024, 0x40030020]

theorem readLatch_of_plain {s : State} {a : Nat} (ha : a ∉ latchingRegs) : s.readLatch a = s := by
  simp only [latchingRegs, List.mem_cons, List.not_mem_nil, or_false, not_or] at ha
  obtain ⟨hnum, hstart, htime, htumb, hmirr, htsqA, htsqB, hvq⟩ := ha
  simp [State.readLatch, hnum, hstart, htime, htumb, hmirr, htsqA, htsqB, hvq]

/-- A read sets each bit of an RC field to its Reset column and keeps every other bit. -/
theorem nbit_rcClear {fs : List FieldDef} (hwf : FieldsWf fs) (w : Word) {f : FieldDef} (hf : f ∈ fs) {k : Nat}
    (hlo : f.lo ≤ k) (hhi : k ≤ f.hi) :
    nbit (rcClear fs w).toNat k = if f.acc = .rc then nbit f.rst (k - f.lo) else nbit w.toNat k := by
  obtain ⟨hbits, hapart⟩ := hwf
  have hk : k < 32 := Nat.lt_of_le_of_lt hhi (hbits f hf).2
  refine nbit_foldl_fields (φ := fun x c => if x.acc = .rc then nbit x.rst (k - x.lo) else c) hlo hhi _ _
    (fun x hx u => ?_) hapart hf
  by_cases hacc : x.acc = .rc
  · simp only [hacc, if_true, nbit_putBits_field u x x.rst k (hbits x hx).1 hk]
  · simp only [hacc, if_false, ite_self]

/-- A read of a register that latches nothing: its word, and its RC fields cleared. -/
theorem busRead_of_plain {s : State} {a : Nat} {b : BlockDef} {i : Nat} {r : RegDef} (hr : findReg a = some (b, i, r))
    (ha : a ∉ latchingRegs) : s.busRead a = (s.readReg a, s.setReg a (rcClear r.fields (s.reg a))) := by
  simp [State.busRead, hr, readLatch_of_plain ha, State.readClear]

/-! ### Addresses that no register holds (R15) -/

theorem ne_of_findReg_none {a c : Nat} (ha : findReg a = none) (hc : (findReg c).isSome = true) : a ≠ c := by
  rintro rfl
  rw [ha] at hc
  cases hc

theorem not_mem_of_findReg_none {a : Nat} {l : List Nat} (ha : findReg a = none) (hl : ∀ c ∈ l, (findReg c).isSome = true) :
    a ∉ l := fun hm => ne_of_findReg_none ha (hl a hm) rfl

theorem storeReg_of_unmapped {s : State} {a : Nat} (v : Word) (ha : findReg a = none) : s.storeReg a v = s := by
  rw [storeReg_of_plain v (not_mem_of_findReg_none ha (by decide)), State.writeReg, ha]

theorem regAction_of_unmapped {s : State} {a : Nat} (locked : Bool) (v : Nat) (ha : findReg a = none) :
    s.regAction a locked v = s := regAction_of_plain locked v (not_mem_of_findReg_none ha (by decide))

theorem busRead_of_unmapped {s : State} {a : Nat} (ha : findReg a = none) : s.busRead a = (0, s) := by
  simp [State.busRead, ha]

/-! ### The statements -/

/-- An access of another width or alignment, or where no register is (R4, R15). -/
theorem exec_of_other_form {ctx : Fin 64} {addr : Word} (val : Word) {n : Nat} {s : State} (h1 : 1 ≤ n) (h2 : n ≤ 256)
    (hform : n ≠ 4 ∨ addr.toNat % 4 ≠ 0 ∨ findReg addr.toNat = none) :
    (s.gateOk ctx addr.toNat n .write = true → exec (.registerWrite ctx addr n val) s = .next s) ∧
    (s.gateOk ctx addr.toNat n .read = true → exec (.readClear ctx addr n) s = .next { s with rdata := 0 }) := by
  refine ⟨fun hg => congrArg Host.Outcome.next ((doWrite_of_gateOk val h1 h2 hg).trans ?_),
    fun hg => congrArg Host.Outcome.next ((doRead_of_gateOk h1 h2 hg).trans ?_)⟩
  · split
    · rfl
    · next hcond =>
      have hnone : findReg addr.toNat = none :=
        (hform.resolve_left fun h => hcond (.inl h)).resolve_left fun h => hcond (.inr (.inl h))
      rw [storeReg_of_unmapped val hnone, regAction_of_unmapped _ _ hnone]
  · split
    · rfl
    · next hcond =>
      have hnone : findReg addr.toNat = none :=
        (hform.resolve_left fun h => hcond (.inl h)).resolve_left fun h => hcond (.inr h)
      rw [busRead_of_unmapped hnone]

/-- Settles O8: the widths and addresses that reach no register, and the RC fields of one that is read. -/
theorem registerReads : Obligations.RegisterReads := by
  refine ⟨fun ctx addr val n s h1 h2 hform => exec_of_other_form val h1 h2 hform,
    fun ctx addr s b i r hinv hg halign hr hlatch => ?_⟩
  have hread := (doRead_of_gateOk (by decide) (by decide) hg).trans (if_neg (by simp [halign]))
  rw [busRead_of_plain hr hlatch] at hread
  obtain ⟨-, hregs⟩ := onlyRegsAt_setReg hinv.regs addr.toNat (rcClear r.fields (s.reg addr.toNat))
  refine ⟨_, congrArg Host.Outcome.next hread, rfl, rfl, hregs, fun f hf k hlo hhi => ?_⟩
  have hreg := reg_setReg_same s hinv.regs addr.toNat (rcClear r.fields (s.reg addr.toNat))
  exact (congrArg (fun w => nbit w.toNat k) hreg).trans (nbit_rcClear (fieldsWf_of_findReg hr) _ hf hlo hhi)

/-- A write of a register without action is the write of its fields. -/
theorem exec_registerWrite_of_plain {s : State} {addr : Word} (v : Word) (hg : s.gateOk 55 addr.toNat 4 .write = true)
    (halign : addr.toNat % 4 = 0) (hfix : fixedBits addr.toNat = 0)
    (hstore : addr.toNat ∉ [0x4011000C, 0x400D0000, 0x400E0000]) (hact : addr.toNat ∉ actingRegs) :
    exec (.registerWrite 55 addr 4 v) s = .next (s.writeReg addr.toNat v) := by
  rw [exec_registerWrite_of_gateOk v rfl hg halign (maskRefused_of_fixedBits_zero v hfix), storeReg_of_plain v hstore,
    regAction_of_plain _ _ hact]

/-- Another mask than that of R369 for one of contexts 48 to 55 is refused. -/
theorem exec_registerWrite_of_other_mask {s : State} {addr val : Word} (hg : s.gateOk 55 addr.toNat 4 .write = true)
    (hlo : 0x40030580 ≤ addr.toNat) (hhi : addr.toNat < 0x400305C0)
    (hm : let m := s.fixedMasks s.img ((addr.toNat - 0x40030400) / 8)
      if addr.toNat % 8 = 0 then val &&& 0xFFFEFFFE#32 ≠ BitVec.ofNat 32 (m.1 + 65536 * m.2.1)
      else val &&& 0xFFFF#32 ≠ BitVec.ofNat 32 m.2.2) :
    exec (.registerWrite 55 addr 4 val) s = .next s := by
  have hmask : s.maskRefused addr.toNat val = true := by
    by_cases h8 : addr.toNat % 8 = 0 <;> simpa [State.maskRefused, hlo, hhi, h8] using hm
  exact congrArg Host.Outcome.next ((doWrite_of_gateOk val (by decide) (by decide) hg).trans (if_pos (by simp [hmask])))

/-- Settles O7: each field by its access code, the writes that act, and the masks that R369 fixes. -/
theorem registerWriteFields : Obligations.RegisterWriteFields := by
  refine ⟨fun addr val s b i r f hinv hg halign hr hf hown hfix hplain => ?_, fun val s hinv hg => ?_,
    fun addr val s hg hlo hhi => exec_registerWrite_of_other_mask hg hlo hhi⟩
  · have hstore : addr.toNat ∉ [0x4011000C, 0x400D0000, 0x400E0000] := by
      simp only [List.mem_cons, List.not_mem_nil, or_false] at hplain ⊢
      omega
    have hact : addr.toNat ∉ actingRegs := by
      simp only [actingRegs, List.mem_cons, List.not_mem_nil, or_false] at hplain ⊢
      omega
    refine ⟨_, exec_registerWrite_of_plain val hg halign hfix hstore hact, onlyRegsAt_writeReg hinv.regs _ val,
      fun k hlo hhi => ?_⟩
    rw [nbit_reg_writeReg val hinv.regs hr hf hfix hlo hhi]
    cases hacc : f.acc <;> simp [writtenBit, hown, hacc]
  · refine ⟨exec_registerWrite_timeLoad hinv.regs val (hg _ (by decide)), exec_registerWrite_timeInc val (hg _ (by decide)),
      exec_registerWrite_tumbCmd hinv.regs val (hg _ (by decide)), fun h0 h1 => ?_, fun h0 h1 => ?_,
      exec_registerWrite_tickCfg hinv.regs val (hg _ (by decide)),
      exec_registerWrite_sawHovr hinv.regs val (hg _ (by decide))⟩
    · obtain ⟨u, hu, he⟩ := exec_registerWrite_rackCmd hinv.regs val (hg _ (by decide)) (by simp [h0])
      rw [h0, h1] at he
      exact ⟨u, hu, he⟩
    · obtain ⟨u, hu, he⟩ := exec_registerWrite_rackCmd hinv.regs val (hg _ (by decide)) (by simp [h1])
      rw [h0, h1] at he
      exact ⟨u, hu, he⟩

end Sys2Proof.Proofs
end

section
/-!
SUPPORT. What a trip does (R343 to R348): what its steps change, what they leave, and the registers that report it; the
statements about reset (R8, R22) and about the causes of a trip.
-/
namespace Sys2Proof.Proofs
open Sys2Proof Sys2Proof.Machine Sys2Proof.Laws

/-- Settles O3: the reset state lists no register, so each reads its Reset column. -/
theorem resetState : Obligations.ResetState :=
  ⟨rfl, fun _ => rfl, rfl, rfl, rfl, by decide +kernel, by decide +kernel, by decide +kernel⟩

/-! ### Tables -/

/-- A value other than the default is read back from any table, canonical or not. -/
theorem tget_tset_of_ne_default {α : Type} [DecidableEq α] {d x : α} (hx : x ≠ d) (a : Nat) :
    ∀ t : Tab α, tget d (tset d t a x) a = x
  | [] => by simp [tset, tget, hx]
  | (k, v) :: t => by
    rcases Nat.lt_trichotomy a k with hlt | rfl | hgt
    · simp [tset, tget, hx, hlt]
    · simp [tset, tget, hx]
    · simp [tset, tget, Nat.lt_asymm hgt, Nat.ne_of_gt hgt, tget_tset_of_ne_default hx a t]

/-- What the default and every changed value satisfy holds of each entry of a changed table. -/
theorem tget_tmap_of_forall {α : Type} [DecidableEq α] {d : α} {f : Nat → α → α} {P : α → Prop} (hd : P d)
    (hf : ∀ k x, P (f k x)) (a : Nat) : ∀ t : Tab α, P (tget d (tmap d t f) a)
  | [] => hd
  | (k, v) :: t => by
    have ih := tget_tmap_of_forall hd hf a t
    simp only [tmap, List.foldr_cons] at ih ⊢
    split
    · exact ih
    · simp only [tget]
      split
      · exact hf k v
      · split
        · exact hd
        · exact ih

/-! ### Steps that set registers alone -/

/-- Nothing but registers differs, and they stay canonical. -/
structure SetsRegs (s t : State) : Prop where
  only : OnlyRegs s t
  canonical : tabWf resetWord s.regs = true → tabWf resetWord t.regs = true

/-- What does not speak of registers is kept where registers alone differ. -/
theorem kept_of_onlyRegs {γ : Type} {s t : State} (h : OnlyRegs s t) (π : State → γ)
    (hπ : ∀ u r, π { u with regs := r } = π u := by intros; rfl) : π t = π s := (congrArg π h).trans (hπ s t.regs)

theorem SetsRegs.refl (s : State) : SetsRegs s s := ⟨rfl, id⟩

theorem SetsRegs.trans {s t u : State} (hst : SetsRegs s t) (htu : SetsRegs t u) : SetsRegs s u := by
  refine ⟨?_, htu.canonical ∘ hst.canonical⟩
  have hu : u = { t with regs := u.regs } := htu.only
  rw [hst.only] at hu
  exact hu

theorem SetsRegs.wf {s t : State} (h : SetsRegs s t) (f : Fld) (v : Nat) : SetsRegs s (t.wf f v) :=
  h.trans ⟨rfl, fun hs => regsWf_wf t hs f v⟩

theorem SetsRegs.wfb {s t : State} (h : SetsRegs s t) (f : Fld) (b : Bool) : SetsRegs s (t.wfb f b) := h.wf f _

theorem SetsRegs.inc {s t : State} (h : SetsRegs s t) (f : Fld) (n : Nat) : SetsRegs s (t.inc f n) := h.wf f _

theorem SetsRegs.ite {s t u : State} {p : Prop} [Decidable p] (ht : SetsRegs s t) (hu : SetsRegs s u) :
    SetsRegs s (if p then t else u) := by
  split
  · exact ht
  · exact hu

theorem SetsRegs.foldl {β : Type} {g : State → β → State} (hg : ∀ t x, SetsRegs t (g t x)) {s t : State}
    (h : SetsRegs s t) (l : List β) : SetsRegs s (l.foldl g t) := by
  induction l generalizing t with
  | nil => exact h
  | cons x l ih => exact ih (h.trans (hg t x))

/-- A cancelled CAN frame leaves the port's list, and its object's pending mark. -/
theorem setsRegs_canFilter (s : State) (p : Nat) (keep : CanPend → Bool) :
    SetsRegs (s.updCan p fun c => { c with pend := (s.can p).pend.filter keep }) (s.canFilter p keep) :=
  .foldl (fun t _ => .ite (.refl t) ((SetsRegs.refl t).wfb _ _)) (.refl _) _

theorem setsRegs_chgPhase (s : State) : SetsRegs s s.chgPhase :=
  (((((SetsRegs.ite (.refl s) ((SetsRegs.refl s).wf _ _)).wf _ _).wf _ _).wf _ _).wf _ _).wf _ _

theorem setsRegs_tickFault (s : State) (kind cls : Nat) : SetsRegs s (s.tickFault kind cls) :=
  .ite (.refl s) ((((SetsRegs.refl s).wf _ _).wf _ _).wf _ _)

/-! ### What every step of a trip keeps -/

/-- The time, the tick, memory and the tags are kept, and the registers stay canonical. -/
structure TripKeeps (s t : State) : Prop where
  tick : t.tick = s.tick
  ns : t.ns = s.ns
  wrap : t.wrap = s.wrap
  mem : t.mem = s.mem
  tagBad : t.tagBad = s.tagBad
  canonical : tabWf resetWord s.regs = true → tabWf resetWord t.regs = true

theorem TripKeeps.refl (s : State) : TripKeeps s s := ⟨rfl, rfl, rfl, rfl, rfl, id⟩

theorem TripKeeps.trans {s t u : State} (hst : TripKeeps s t) (htu : TripKeeps t u) : TripKeeps s u where
  tick := htu.tick.trans hst.tick
  ns := htu.ns.trans hst.ns
  wrap := htu.wrap.trans hst.wrap
  mem := htu.mem.trans hst.mem
  tagBad := htu.tagBad.trans hst.tagBad
  canonical := htu.canonical ∘ hst.canonical

theorem SetsRegs.tripKeeps {s t : State} (h : SetsRegs s t) : TripKeeps s t where
  tick := kept_of_onlyRegs h.only State.tick
  ns := kept_of_onlyRegs h.only State.ns
  wrap := kept_of_onlyRegs h.only State.wrap
  mem := kept_of_onlyRegs h.only State.mem
  tagBad := kept_of_onlyRegs h.only State.tagBad
  canonical := h.canonical

theorem tripKeeps_send (s : State) (x : Tx) : TripKeeps s (s.send x) := ⟨rfl, rfl, rfl, rfl, rfl, id⟩

theorem tripKeeps_updCan (s : State) (p : Nat) (f : CanS → CanS) : TripKeeps s (s.updCan p f) := by
  unfold State.updCan
  split <;> exact ⟨rfl, rfl, rfl, rfl, rfl, id⟩

theorem TripKeeps.ite {s t u : State} {p : Prop} [Decidable p] (ht : TripKeeps s t) (hu : TripKeeps s u) :
    TripKeeps s (if p then t else u) := by
  split
  · exact ht
  · exact hu

theorem TripKeeps.foldl {β : Type} {g : State → β → State} (hg : ∀ t x, TripKeeps t (g t x)) (s : State) (l : List β) :
    TripKeeps s (l.foldl g s) := by
  induction l generalizing s with
  | nil => exact .refl s
  | cons x l ih => exact (hg s x).trans (ih _)

theorem tripKeeps_sendTrip (s : State) (cause : Nat) : TripKeeps s (s.sendTrip cause) := by
  unfold State.sendTrip
  split
  · exact .ite (tripKeeps_send s _) (.refl s)
  · exact (TripKeeps.ite (tripKeeps_send s _) (.refl s)).trans (.ite (tripKeeps_send _ _) (.refl _))
  · exact .refl s

theorem tripKeeps_releaseAll (s : State) (reason : Nat) (safe : Bool) (p : Nat → Bool) :
    TripKeeps s (s.releaseAll reason safe p) := .foldl (fun t _ => tripKeeps_send t _) s _

theorem tripKeeps_canCancel (s : State) (p : Nat) : TripKeeps s (s.canCancel p) :=
  (tripKeeps_updCan s p _).trans (setsRegs_canFilter s p _).tripKeeps

/-! ### What stopping leaves (R346, R348) -/

/-- An engine holds no activation and none waits for it. -/
def Idle (x : Engine) : Prop := x.cur = none ∧ x.ready = []

/-- No activation on any engine, nothing in flight or deferred, no session. -/
structure Halted (s : State) : Prop where
  engines : ∀ e, Idle (s.getEng e)
  flights : s.flights = []
  deferred : s.deferred = []
  session : s.svc.session = none

/-- An engine without its activations. -/
def emptied (e : Engine) : Engine := { e with cur := none, ready := [] }

/-- What `stopWork` takes out of the sequencers and queues, before the change machinery shows it. -/
def dropWork (s : State) : State :=
  { s with
    sched := { s.sched with newPlaced := none, fenceTrip := false, moved := [], execOpen := false }
    eng := tmap {} s.eng (fun _ e => emptied e)
    flights := []
    deferred := []
    tgSend := []
    svc := { s.svc with session := none, forces := [], writes := [] }
    tri := { s.tri with forces := [], fwd := [] }
    chg := { s.chg with switch := none, stopEnd := none } }

/-- Every engine shown idle, no drain, and on both CAN ports only what has started. -/
def idleShown (s : State) : State :=
  (((List.range 12).foldl (fun t e => t.wf (F.SEQ_ENG_RUNNING e) 0) (s.wf F.SEQ_FENCE_DRAINING 0)).canCancel 0).canCancel 1

theorem stopWork_eq (s : State) : s.stopWork = (dropWork (idleShown s)).chgPhase := by
  delta State.stopWork dropWork idleShown emptied
  rfl

theorem tripKeeps_dropWork (s : State) : TripKeeps s (dropWork s) := ⟨rfl, rfl, rfl, rfl, rfl, id⟩

theorem halted_dropWork (s : State) : Halted (dropWork s) where
  engines e := tget_tmap_of_forall (P := Idle) (d := ({} : Engine)) (f := fun _ x => emptied x) ⟨rfl, rfl⟩
    (fun _ _ => ⟨rfl, rfl⟩) e s.eng
  flights := rfl
  deferred := rfl
  session := rfl

theorem Halted.of_eq {s t : State} (h : Halted s) (heng : t.eng = s.eng) (hflights : t.flights = s.flights)
    (hdeferred : t.deferred = s.deferred) (hsvc : t.svc = s.svc) : Halted t where
  engines e := by simpa only [State.getEng, heng] using h.engines e
  flights := hflights.trans h.flights
  deferred := hdeferred.trans h.deferred
  session := hsvc ▸ h.session

theorem Halted.setsRegs {s t : State} (h : Halted s) (hst : SetsRegs s t) : Halted t :=
  h.of_eq (kept_of_onlyRegs hst.only State.eng) (kept_of_onlyRegs hst.only State.flights)
    (kept_of_onlyRegs hst.only State.deferred) (kept_of_onlyRegs hst.only State.svc)

theorem halted_stopWork (s : State) : Halted s.stopWork :=
  stopWork_eq s ▸ (halted_dropWork _).setsRegs (setsRegs_chgPhase _)

theorem tripKeeps_stopWork (s : State) : TripKeeps s s.stopWork := by
  have hengines := (SetsRegs.foldl (fun t e => (SetsRegs.refl t).wf (F.SEQ_ENG_RUNNING e) 0)
    ((SetsRegs.refl s).wf F.SEQ_FENCE_DRAINING 0) (List.range 12)).tripKeeps
  have hidle : TripKeeps s (idleShown s) := (hengines.trans (tripKeeps_canCancel _ 0)).trans (tripKeeps_canCancel _ 1)
  exact stopWork_eq s ▸ (hidle.trans (tripKeeps_dropWork _)).trans (setsRegs_chgPhase _).tripKeeps

/-- The command that puts the field die in its safe values, sent where it runs. -/
def safeSent (s : State) : State :=
  if s.rfb F.FIELD_CTRL_EN && nbit (s.reg 0x40000010).toNat 27 then
    (s.send (.field { crcOk := true, drive := false, safe := true, outs := List.replicate 32 0 })).wf F.FIELD_STAT_DRIVE 0
  else s

theorem tripKeeps_safeSent (s : State) : TripKeeps s (safeSent s) :=
  .ite ((tripKeeps_send s _).trans ((SetsRegs.refl _).wf _ _).tripKeeps) (.refl s)

theorem tripKeeps_fieldSafe (s : State) : TripKeeps s s.fieldSafe :=
  (tripKeeps_safeSent s).trans ⟨rfl, rfl, rfl, rfl, rfl, id⟩

theorem Halted.fieldSafe {s : State} (h : Halted s) : Halted s.fieldSafe := by
  have hsent : Halted (safeSent s) := by
    unfold safeSent
    split
    · exact h.of_eq rfl rfl rfl rfl
    · exact h
  exact hsent.of_eq rfl rfl rfl rfl

/-- What an entry into a state shows in registers (R293, R319). -/
def enterShown (s : State) (d : DevState) : State :=
  let t := if d = .active then s else s.wfb F.MIRR_STAT_MERGING false
  if d = .member ∨ d = .benched then t else (t.wf F.TRI_STAT_SET 0).wf F.TRI_STAT_MODE 0

theorem setsRegs_enterShown (s : State) (d : DevState) : SetsRegs s (enterShown s d) := by
  have hmerging : SetsRegs s (if d = .active then s else s.wfb F.MIRR_STAT_MERGING false) :=
    .ite (.refl s) ((SetsRegs.refl s).wfb _ _)
  exact .ite hmerging ((hmerging.wf _ _).wf _ _)

theorem tripKeeps_enter (s : State) (d : DevState) : TripKeeps s (s.enter d) :=
  (setsRegs_enterShown s d).tripKeeps.trans ⟨rfl, rfl, rfl, rfl, rfl, id⟩

theorem Halted.enter {s : State} (h : Halted s) (d : DevState) : Halted (s.enter d) :=
  (h.setsRegs (setsRegs_enterShown s d)).of_eq rfl rfl rfl rfl

theorem dev_enter (s : State) (d : DevState) : (s.enter d).dev = d := rfl

theorem fctl_enter (s : State) (d : DevState) : (s.enter d).fctl = s.fctl :=
  kept_of_onlyRegs (setsRegs_enterShown s d).only State.fctl

/-- The messages and RELEASE of a trip sent with the state that the device had (R346). -/
def tripSent (s : State) (cause : Nat) : State :=
  (s.sendTrip cause).releaseAll 1 (s.tripSafe cause) (s.sendTrip cause).releaseStr

/-- The state of a trip once everything has stopped. -/
def tripStopped (s : State) (cause : Nat) : State := ((tripSent s cause).stopWork.fieldSafe).enter .tripped

theorem tripKeeps_tripStopped (s : State) (cause : Nat) : TripKeeps s (tripStopped s cause) := by
  have hsent : TripKeeps s (tripSent s cause) := (tripKeeps_sendTrip s cause).trans (tripKeeps_releaseAll _ _ _ _)
  exact ((hsent.trans (tripKeeps_stopWork _)).trans (tripKeeps_fieldSafe _)).trans (tripKeeps_enter _ _)

theorem halted_tripStopped (s : State) (cause : Nat) : Halted (tripStopped s cause) :=
  (halted_stopWork (tripSent s cause)).fieldSafe.enter .tripped

/-! ### What the Tumbler reports (R364) -/

/-- `TUMB_STAT` as a trip leaves it. -/
def tumbStatSet (s : State) (cause : Nat) : State :=
  ((s.wfb F.TUMB_STAT_TRIPPED true).wf F.TUMB_STAT_CAUSE cause).wf F.TUMB_STAT_TICK_LO s.n

/-- A trip counted, and the role gone. -/
def tripCounted (s : State) (cause : Nat) : State :=
  ((tumbStatSet s cause).inc F.TUMB_COUNT_TRIPS).wf F.SAW_STAT_ROLE 0

/-- A planned handover that a trip aborts is shown so (R261). -/
def hovrAborted (s : State) : State :=
  if s.saw.hovrLive ∧ s.saw.role ≠ .relinquished ∧ s.n ≤ s.saw.hovrTick then s.wf F.SAW_HOVR_RESULT 4 else s

/-- The device is out of service: TRIP_N low, the time of the trip, its record for retain, no role. -/
def tripEnd (s : State) (cause : Nat) : State :=
  { s with
    tripN := false
    tripTime := BitVec.ofNat 64 s.mono
    ret := { s.ret with cause := cause, tripTick := s.tick }
    saw := { s.saw with role := .none, hovrLive := false } }

theorem tripAct_eq (s : State) (cause : Nat) :
    s.tripAct cause = tripEnd (hovrAborted (tripCounted (tripStopped s cause) cause)) cause := by
  delta State.tripAct tripEnd hovrAborted tripCounted tumbStatSet tripStopped tripSent
  rfl

theorem setsRegs_tumbStatSet (s : State) (cause : Nat) : SetsRegs s (tumbStatSet s cause) :=
  (((SetsRegs.refl s).wfb _ _).wf _ _).wf _ _

theorem setsRegs_tripCounted (s : State) (cause : Nat) : SetsRegs s (tripCounted s cause) :=
  ((setsRegs_tumbStatSet s cause).inc _ _).wf _ _

theorem setsRegs_hovrAborted (s : State) : SetsRegs s (hovrAborted s) := .ite ((SetsRegs.refl s).wf _ _) (.refl s)

section
variable {s : State} (hs : tabWf resetWord s.regs = true)
include hs

theorem reg_tripCounted {a : Nat} (cause : Nat) (ha : a = 0x40090000) :
    (tripCounted s cause).reg a = (tumbStatSet s cause).reg a := by
  subst ha
  have hstat := (setsRegs_tumbStatSet s cause).canonical hs
  have hcount := ((SetsRegs.refl (tumbStatSet s cause)).inc F.TUMB_COUNT_TRIPS 1).canonical hstat
  exact (reg_wf_ne _ hcount F.SAW_STAT_ROLE 0 _ (by decide)).trans (reg_wf_ne _ hstat F.TUMB_COUNT_TRIPS _ _ (by decide))

theorem reg_hovrAborted {a : Nat} (ha : a = 0x40090000) : (hovrAborted s).reg a = s.reg a := by
  subst ha
  unfold hovrAborted
  split
  · exact reg_wf_ne _ hs F.SAW_HOVR_RESULT 4 _ (by decide)
  · rfl

/-- A field of `TUMB_STAT` is not touched after it is set. -/
theorem rf_tumbStat {f : Fld} (cause : Nat) (hf : f.addr = 0x40090000) :
    (hovrAborted (tripCounted s cause)).rf f = (tumbStatSet s cause).rf f := by
  have hreg := (reg_hovrAborted ((setsRegs_tripCounted s cause).canonical hs) hf).trans (reg_tripCounted hs cause hf)
  exact congrArg (fun w => bitsOf w.toNat f.lo f.wid) hreg

theorem rfb_tripped_tumbStatSet (cause : Nat) : (tumbStatSet s cause).rfb F.TUMB_STAT_TRIPPED = true := by
  have h1 := regsWf_wf s hs F.TUMB_STAT_TRIPPED 1
  have h2 := regsWf_wf _ h1 F.TUMB_STAT_CAUSE cause
  have hrf : (tumbStatSet s cause).rf F.TUMB_STAT_TRIPPED = 1 :=
    calc (tumbStatSet s cause).rf F.TUMB_STAT_TRIPPED
      _ = ((s.wf F.TUMB_STAT_TRIPPED 1).wf F.TUMB_STAT_CAUSE cause).rf F.TUMB_STAT_TRIPPED :=
        rf_wf_ne _ h2 F.TUMB_STAT_TICK_LO F.TUMB_STAT_TRIPPED _ (by decide) (by decide)
      _ = (s.wf F.TUMB_STAT_TRIPPED 1).rf F.TUMB_STAT_TRIPPED :=
        rf_wf_ne _ h1 F.TUMB_STAT_CAUSE F.TUMB_STAT_TRIPPED _ (by decide) (by decide)
      _ = 1 := rf_wf_same s hs F.TUMB_STAT_TRIPPED 1 (by decide)
  simp [State.rfb, hrf]

theorem rf_cause_tumbStatSet {cause : Nat} (hc : cause < 256) : (tumbStatSet s cause).rf F.TUMB_STAT_CAUSE = cause := by
  have h1 := regsWf_wf s hs F.TUMB_STAT_TRIPPED 1
  have h2 := regsWf_wf _ h1 F.TUMB_STAT_CAUSE cause
  calc (tumbStatSet s cause).rf F.TUMB_STAT_CAUSE
    _ = ((s.wf F.TUMB_STAT_TRIPPED 1).wf F.TUMB_STAT_CAUSE cause).rf F.TUMB_STAT_CAUSE :=
      rf_wf_ne _ h2 F.TUMB_STAT_TICK_LO F.TUMB_STAT_CAUSE _ (by decide) (by decide)
    _ = cause % 256 := rf_wf_same _ h1 F.TUMB_STAT_CAUSE cause (by decide)
    _ = cause := Nat.mod_eq_of_lt hc

theorem rf_tickLo_tumbStatSet (cause : Nat) : (tumbStatSet s cause).rf F.TUMB_STAT_TICK_LO = s.n % 65536 := by
  have h2 := (((SetsRegs.refl s).wf F.TUMB_STAT_TRIPPED 1).wf F.TUMB_STAT_CAUSE cause).canonical hs
  exact rf_wf_same _ h2 F.TUMB_STAT_TICK_LO s.n (by decide)

end

/-! ### A trip -/

theorem fctl_safe_fieldSafe (s : State) : s.fieldSafe.fctl.safe = true := rfl

theorem dev_tripStopped (s : State) (cause : Nat) : (tripStopped s cause).dev = .tripped := dev_enter _ _

theorem fctl_safe_tripStopped (s : State) (cause : Nat) : (tripStopped s cause).fctl.safe = true := by
  rw [tripStopped, fctl_enter, fctl_safe_fieldSafe]

theorem tagBad_tripEnd (s : State) (cause : Nat) : (tripEnd s cause).tagBad = s.tagBad := rfl

/-- What `Tripped` asks of a halted state that shows the trip, at its end. -/
theorem tripped_tripEnd {s u : State} {cause : Nat} (hkeeps : TripKeeps s u) (hhalted : Halted u) (hdev : u.dev = .tripped)
    (hsafe : u.fctl.safe = true) (htripped : u.rfb F.TUMB_STAT_TRIPPED = true) (hcause : u.rf F.TUMB_STAT_CAUSE = cause)
    (htickLo : u.rf F.TUMB_STAT_TICK_LO = s.n % 65536) : Tripped cause s (tripEnd u cause) := by
  obtain ⟨hengines, hflights, hdeferred, hsession⟩ := hhalted
  obtain ⟨htick, hns, hwrap, hmem, -, -⟩ := hkeeps
  have htime : u.mono = s.ns.toNat + 2 ^ 32 * s.wrap.toNat := by rw [State.mono, hns, hwrap]
  exact ⟨hdev, rfl, htripped, hcause, htickLo, congrArg (BitVec.ofNat 64) htime, hengines, hflights, hdeferred, hsession,
    hsafe, htick, hmem⟩

/-- A trip from a state that trips leaves what R344, R346 and R364 say, and touches no tag. -/
theorem tripped_trip {s : State} (hs : tabWf resetWord s.regs = true) (hdev : trippable s.dev = true) {cause : Nat}
    (hc : cause < 256) : Tripped cause s (s.trip cause) ∧ (s.trip cause).tagBad = s.tagBad := by
  have hstop := tripKeeps_tripStopped s cause
  have hregs := hstop.canonical hs
  have hshown := (setsRegs_tripCounted (tripStopped s cause) cause).trans (setsRegs_hovrAborted _)
  have hkeeps := hstop.trans hshown.tripKeeps
  have heq : s.trip cause = tripEnd (hovrAborted (tripCounted (tripStopped s cause) cause)) cause :=
    (if_pos hdev).trans (tripAct_eq s cause)
  have hn : (tripStopped s cause).n = s.n := congrArg BitVec.toNat hstop.tick
  rw [heq]
  refine ⟨tripped_tripEnd hkeeps ((halted_tripStopped s cause).setsRegs hshown)
    ((kept_of_onlyRegs hshown.only State.dev).trans (dev_tripStopped s cause))
    ((kept_of_onlyRegs hshown.only fun t => t.fctl.safe).trans (fctl_safe_tripStopped s cause)) ?_ ?_ ?_,
    (tagBad_tripEnd _ cause).trans hkeeps.tagBad⟩
  · rw [State.rfb, rf_tumbStat hregs cause rfl]
    exact rfb_tripped_tumbStatSet hregs cause
  · rw [rf_tumbStat hregs cause rfl, rf_cause_tumbStatSet hregs hc]
  · rw [rf_tumbStat hregs cause rfl, rf_tickLo_tumbStatSet hregs, hn]

/-- A trip speaks of the time, the tick and the memory that were before it, and of nothing else. -/
theorem tripped_of_same {cause : Nat} {s u t : State} (htick : u.tick = s.tick) (hns : u.ns = s.ns) (hwrap : u.wrap = s.wrap)
    (hmem : u.mem = s.mem) (h : Tripped cause u t) : Tripped cause s t := by
  simpa only [Tripped, htick, hns, hwrap, hmem] using h

/-! ### The commands that report a cause -/

section
variable (s : State)

/-- The limits of the tick watchdog (R47): from tick 1 on, 0.8 to 1.25 of T_b. -/
theorem exec_tickWatchdogExpiry_of_outside {ns : Nat} (hrun : s.rfb F.TICK_STAT_RUNNING = true) (htick : s.tick.toNat ≠ 0)
    (hns : 10 * ns < 8 * s.tb ∨ 125 * s.tb < 100 * ns) :
    exec (.tickWatchdogExpiry ns) s = .next ((s.tickFault 3 0).trip 3) :=
  congrArg Host.Outcome.next (if_pos (by simp [hrun, State.n, htick, hns]))

theorem exec_tickWatchdogExpiry_of_inside {ns : Nat} (hlow : 8 * s.tb ≤ 10 * ns) (hhigh : 100 * ns ≤ 125 * s.tb) :
    exec (.tickWatchdogExpiry ns) s = .next s :=
  congrArg Host.Outcome.next (if_neg (by simp [Nat.not_lt.2 hlow, Nat.not_lt.2 hhigh]))

/-- An error of bank L marks its line (R69). -/
theorem exec_imageEccTrip_of_bankL {addr : Word} (hlo : 0x80000000 ≤ addr.toNat) (hhi : addr.toNat < 0x82800000) :
    exec (.imageEccTrip addr) s = .next { s with eccBad := tset false s.eccBad ((addr.toNat - 0x80000000) / 64) true } :=
  congrArg Host.Outcome.next (if_pos ⟨hlo, hhi⟩)

/-- An error of the rest of the image memory trips (R69). -/
theorem exec_imageEccTrip_of_rest {addr : Word} (hlo : 0x82800000 ≤ addr.toNat) (hhi : addr.toNat < 0x90000000) :
    exec (.imageEccTrip addr) s = .next (s.trip 0x0B) := by
  have hbankL : ¬ (bankL ≤ addr.toNat ∧ addr.toNat < bankL + 0x2800000) := fun h => by
    have := h.2
    simp only [bankL] at this
    omega
  have himage : bankL ≤ addr.toNat ∧ addr.toNat < bankL + 0x10000000 := ⟨Nat.le_trans (by decide) hlo, hhi⟩
  exact congrArg Host.Outcome.next ((if_neg hbankL).trans (if_pos himage))

/-! ### Tag errors (R377) -/

theorem tagIndex_of_image {a : Nat} (hlo : 0x80000000 ≤ a) (hhi : a < 0x90000000) : tagIndex a = some (lineOf a) :=
  if_pos ⟨hlo, hhi⟩

theorem tagIndex_of_above {a : Nat} (ha : 0x90000000 ≤ a) : tagIndex a = none := by
  have himage : ¬ (bankL ≤ a ∧ a < bankL + 0x10000000) := by simp only [bankL]; omega
  have hcode : ¬ (0x20000000 ≤ a ∧ a < 0x20800000) := by omega
  simp only [tagIndex, himage, hcode, if_false]

/-- What an uncorrectable tag error does before its trip: it is counted and its line loses its colour. -/
def tagLost (i : Nat) : State := { s.inc F.GATE_ECC_UNCORR with tagBad := tset false s.tagBad i true }

theorem exec_tagEccError_of_tagIndex {addr : Word} {i : Nat} (hi : tagIndex addr.toNat = some i) (uncorrectable : Bool) :
    exec (.tagEccError addr uncorrectable) s =
      .next (if !uncorrectable then s.inc F.GATE_ECC_CORR
        else if addr.toNat < bankF ∧ bankL ≤ addr.toNat then tagLost s i else (tagLost s i).trip 0x0B) := by
  change execTagEccError addr uncorrectable s = _
  rw [execTagEccError, hi]
  rfl

theorem exec_tagEccError_of_no_tag {addr : Word} (hi : tagIndex addr.toNat = none) (uncorrectable : Bool) :
    exec (.tagEccError addr uncorrectable) s = .next s := by
  change execTagEccError addr uncorrectable s = _
  rw [execTagEccError, hi]

theorem exec_tagEccError_of_rest {addr : Word} (hlo : 0x82800000 ≤ addr.toNat) (hhi : addr.toNat < 0x90000000) :
    exec (.tagEccError addr true) s = .next ((tagLost s (lineOf addr.toNat)).trip 0x0B) := by
  have hrest : ¬ (addr.toNat < bankF ∧ bankL ≤ addr.toNat) := fun h => Nat.not_lt.2 hlo h.1
  rw [exec_tagEccError_of_tagIndex s (tagIndex_of_image (Nat.le_trans (by decide) hlo) hhi), if_neg (by decide), if_neg hrest]

theorem exec_tagEccError_corrected {addr : Word} (hlo : 0x80000000 ≤ addr.toNat) (hhi : addr.toNat < 0x90000000) :
    exec (.tagEccError addr false) s = .next (s.inc F.GATE_ECC_CORR) :=
  exec_tagEccError_of_tagIndex s (tagIndex_of_image hlo hhi) false

/-- A line whose tag is lost has colour 0. -/
theorem colourOf_of_tagBad {s : State} {a : Nat} (hlo : 0x80000000 ≤ a) (hhi : a < 0x90000000)
    (hbad : tget false s.tagBad (lineOf a) = true) : s.colourOf a = 0 := by
  have himage : bankL ≤ a ∧ a < bankL + 0x10000000 := ⟨hlo, hhi⟩
  simp [State.colourOf, himage, hbad]

/-! ### Clock faults (R532) -/

theorem exec_clockMonitor_refRange {ns : Nat} (hns : 4000 ≤ ns) :
    exec (.clockMonitor (.refRange ns)) s =
      .next ({ s with hlth := { s.hlth with monAt := some (s.mono : Int) } }.trip 0x0A) :=
  congrArg Host.Outcome.next (if_pos (decide_eq_true hns))

/-- A fault shorter than the bound of its monitor, or on a lane that is not enabled, does nothing. -/
theorem exec_clockMonitor_of_short (ns : Nat) :
    (ns < 4000 → exec (.clockMonitor (.refRange ns)) s = .next s) ∧
    (ns < 1000 → exec (.clockMonitor (.refStop ns)) s = .next s ∧ exec (.clockMonitor (.pllUnlock ns)) s = .next s ∧
      ∀ en, exec (.clockMonitor (.laneRefStop ns en)) s = .next s) ∧
    exec (.clockMonitor (.laneRefStop ns false)) s = .next s := by
  refine ⟨fun h => ?_, fun h => ⟨?_, ?_, fun en => ?_⟩, rfl⟩ <;>
    exact congrArg Host.Outcome.next (if_neg (by simp [Nat.not_le.2 h]))

end

/-! ### The statement -/

/-- A command that trips after a step which moved no time, tick or memory. -/
theorem exec_tripped_of_trip {i : Instr} {s u : State} {cause : Nat} (he : exec i s = .next (u.trip cause))
    (hu : tabWf resetWord u.regs = true) (hdev : trippable u.dev = true) (hc : cause < 256) (htick : u.tick = s.tick)
    (hns : u.ns = s.ns) (hwrap : u.wrap = s.wrap) (hmem : u.mem = s.mem) :
    ∃ t, exec i s = .next t ∧ Tripped cause s t :=
  ⟨_, he, tripped_of_same htick hns hwrap hmem (tripped_trip hu hdev hc).1⟩

section
variable {s : State} (hs : s.Inv) (hdev : trippable s.dev = true)
include hs hdev

theorem exec_trips {i : Instr} {cause : Nat} (he : exec i s = .next (s.trip cause)) (hc : cause < 256) :
    ∃ t, exec i s = .next t ∧ Tripped cause s t := ⟨_, he, (tripped_trip hs.regs hdev hc).1⟩

theorem tickWatchdogExpiry_trips {ns : Nat} (hrun : s.rfb F.TICK_STAT_RUNNING = true) (htick : s.tick.toNat ≠ 0)
    (hns : 10 * ns < 8 * s.tb ∨ 125 * s.tb < 100 * ns) :
    ∃ t, exec (.tickWatchdogExpiry ns) s = .next t ∧ Tripped 3 s t := by
  have hfault := setsRegs_tickFault s 3 0
  obtain ⟨hsame, hdevSame⟩ := And.intro hfault.tripKeeps (kept_of_onlyRegs hfault.only State.dev)
  exact exec_tripped_of_trip (exec_tickWatchdogExpiry_of_outside s hrun htick hns) (hfault.canonical hs.regs)
    (hdevSame ▸ hdev) (by decide) hsame.tick hsame.ns hsame.wrap hsame.mem

theorem tagEccError_trips {addr : Word} (hlo : 0x82800000 ≤ addr.toNat) (hhi : addr.toNat < 0x90000000) :
    ∃ t, exec (.tagEccError addr true) s = .next t ∧ Tripped 0xB s t ∧ t.colourOf addr.toNat = 0 := by
  have hregs : tabWf resetWord (tagLost s (lineOf addr.toNat)).regs = true :=
    ((SetsRegs.refl s).inc F.GATE_ECC_UNCORR 1).canonical hs.regs
  obtain ⟨htrip, htags⟩ := tripped_trip hregs (cause := 0xB) hdev (by decide)
  have hbad : tget false (tagLost s (lineOf addr.toNat)).tagBad (lineOf addr.toNat) = true :=
    tget_tset_of_ne_default (by decide) _ s.tagBad
  exact ⟨_, exec_tagEccError_of_rest s hlo hhi, tripped_of_same (s := s) rfl rfl rfl rfl htrip,
    colourOf_of_tagBad (Nat.le_trans (by decide) hlo) hhi (htags ▸ hbad)⟩

end

/-- Settles O11: each cause ends in `State.trip`, and what trips nothing answers the state it found but for the mark of a bank L
line and the count of a corrected tag error. -/
theorem tripCauses : Obligations.TripCauses := by
  refine ⟨fun s hs hdev => ⟨exec_trips hs hdev rfl (by decide), fun ns hrun htick hns =>
      tickWatchdogExpiry_trips hs hdev hrun htick hns, fun hfield hmisses => ?_, fun addr hlo hhi =>
      exec_trips hs hdev (exec_imageEccTrip_of_rest s hlo hhi) (by decide), fun addr hlo hhi =>
      tagEccError_trips hs hdev hlo hhi, fun ns hns => ?_, fun htriad hserves hvoted hcount => ?_⟩,
    fun s => ⟨fun key hkey => ?_, fun ns hlow hhigh => exec_tickWatchdogExpiry_of_inside s hlow hhigh, fun hmisses => ?_,
      fun addr hlo hhi => ⟨_, exec_imageEccTrip_of_bankL s hlo hhi, rfl, rfl⟩, fun addr hlo => ?_, fun ns =>
      (exec_clockMonitor_of_short s ns).1, fun ns => (exec_clockMonitor_of_short s ns).2.1, fun ns =>
      (exec_clockMonitor_of_short s ns).2.2⟩⟩
  · exact exec_trips hs hdev (congrArg Host.Outcome.next (if_pos ⟨hfield, hmisses⟩)) (by decide)
  · exact exec_tripped_of_trip (exec_clockMonitor_refRange s hns) hs.regs hdev (by decide) rfl rfl rfl rfl
  · exact exec_trips hs hdev (congrArg Host.Outcome.next (if_pos ⟨htriad, hserves, hvoted, hcount⟩)) (by decide)
  · exact congrArg Host.Outcome.next (if_neg hkey)
  · exact congrArg Host.Outcome.next (if_neg fun h => Nat.not_le.2 hmisses h.2)
  · by_cases hhi : addr.toNat < 0x90000000
    · exact ⟨_, exec_tagEccError_corrected s hlo hhi, rfl, fun _ => rfl⟩
    · exact ⟨s, exec_tagEccError_of_no_tag s (tagIndex_of_above (Nat.not_lt.1 hhi)) false, rfl, fun h => absurd h hhi⟩

end Sys2Proof.Proofs
end

section
/-!
SUPPORT. Power domains (R18 to R20, R472), rack-chain commands (R467, R473) and the sleep of a CAN port (R451): the bits of
`SYS_PD` that each request sets, what a domain reset leaves, and the statement about them.
-/
namespace Sys2Proof.Proofs
open Sys2Proof Sys2Proof.Machine Sys2Proof.Laws

/-! ### Cleared tables -/

/-- A cleared key reads the default. -/
theorem tget_tclear_of_mem {α : Type} (d : α) {p : Nat → Bool} {a : Nat} (ha : p a = true) :
    ∀ t : Tab α, tget d (tclear t p) a = d
  | [] => rfl
  | (k, v) :: t => by
    have ih := tget_tclear_of_mem d ha t
    rw [tclear] at ih ⊢
    rw [List.filter_cons]
    split
    · next hk =>
      have hne : a ≠ k := fun h => by simp [← h, ha] at hk
      simp [tget, hne, ih]
    · exact ih

/-- Every other key reads what it read. -/
theorem tget_tclear_of_not_mem {α : Type} [DecidableEq α] {D : Nat → α} {p : Nat → Bool} {a : Nat} (d : α) (ha : p a = false) :
    ∀ (lo : Nat) (t : Tab α), tabWfFrom D lo t = true → tget d (tclear t p) a = tget d t a
  | _, [], _ => rfl
  | lo, (k, v) :: t, w => by
    simp only [tabWfFrom, Bool.and_eq_true] at w
    have ih := tget_tclear_of_not_mem d ha (k + 1) t w.2
    rw [tclear] at ih ⊢
    rw [List.filter_cons]
    split
    · simp [tget, ih]
    · next hk =>
      have hne : a ≠ k := fun h => by simp [← h, ha] at hk
      rw [ih]
      by_cases hlt : a < k
      · rw [tget_below D t (k + 1) a w.2 (by omega)]
        simp [tget, hne, hlt]
      · simp [tget, hne, hlt]

/-! ### The bits of `SYS_PD` -/

/-- Bit `k` of a word in which bit `i` is set to `v`. -/
theorem nbit_putBits_one (w : Word) (i : Nat) (v : Bool) {k : Nat} (hk : k < 32) :
    nbit (putBits w i 1 (b2n v)).toNat k = if k = i then v else nbit w.toNat k := by
  rw [nbit_putBits _ _ _ _ _ hk]
  by_cases h : k = i
  · subst h
    cases v <;> simp [nbit, b2n]
  · rw [if_neg (by omega), if_neg h]

theorem switchable_iff (d : Nat) : switchable d = true ↔ d ∈ [4, 5, 6, 8, 9, 11] := by
  simp [switchable, or_assoc]

section
variable {s : State} (hs : tabWf resetWord s.regs = true)
include hs

theorem nbit_setReg_pd {w : Word} {k : Nat} : nbit ((s.setReg pdAddr w).reg 0x40000010).toNat k = nbit w.toNat k := by
  rw [show (s.setReg pdAddr w).reg 0x40000010 = w from reg_setReg_same s hs pdAddr w]

theorem regsBut_setReg_pd (w : Word) : RegsBut [0x40000010] s (s.setReg pdAddr w) := (onlyRegsAt_setReg hs pdAddr w).2

end

/-! ### Requests (R18 to R20, R472) -/

section
variable {s : State} (hs : tabWf resetWord s.regs = true) (d : Fin 12)

theorem pdOffReq_of_flushing (hd : switchable d = true) (hflush : s.ret.flushing = true) :
    s.pdOffReq d = { s with ret := { s.ret with offLater := s.ret.offLater ++ [d.val] } } := by
  simp [State.pdOffReq, hd, hflush]

theorem pdOffReq_of_refused (hd : switchable d = true) (hflush : s.ret.flushing = false) (hok : s.pdOffOk d = false) :
    s.pdOffReq d = s.pdDeny d := by
  simp [State.pdOffReq, hd, hflush, hok]

theorem pdOffReq_of_running (hd : switchable d = true) (hflush : s.ret.flushing = false) (hok : s.pdOffOk d = true)
    (hrun : s.rfb F.TICK_STAT_RUNNING = true) :
    s.pdOffReq d = { s.setReg pdAddr (putBits (s.reg pdAddr) d 1 (b2n false)) with
      ret := { s.ret with offDue := s.ret.offDue.filter (· != d.val) ++ [d.val] } } := by
  simp [State.pdOffReq, hd, hflush, hok, hrun, b2n]

theorem pdOffReq_of_stopped (hd : switchable d = true) (hflush : s.ret.flushing = false) (hok : s.pdOffOk d = true)
    (hrun : s.rfb F.TICK_STAT_RUNNING = false) : s.pdOffReq d = s.pdOff d := by
  simp [State.pdOffReq, hd, hflush, hok, hrun]

theorem pdOnReq_of_switchable (hd : switchable d = true) :
    s.pdOnReq d = { s.setReg pdAddr (putBits (s.reg pdAddr) d 1 (b2n true)) with
      ret := { s.ret with offDue := s.ret.offDue.filter (· != d.val) } } := by
  simp [State.pdOnReq, hd, b2n]

theorem pdReq_of_not_switchable (hd : switchable d = false) : s.pdOffReq d = s ∧ s.pdOnReq d = s := by
  simp [State.pdOffReq, State.pdOnReq, hd]

/-- `SYS_PD` of a domain off: neither ON nor ACK. -/
def pdOffWord (w : Word) (d : Nat) : Word := putBits (putBits w d 1 (b2n false)) (16 + d) 1 (b2n false)

theorem nbit_pdOffWord (w : Word) (d : Nat) {k : Nat} (hk : k < 32) :
    nbit (pdOffWord w d).toNat k = (nbit w.toNat k && decide (k ≠ d ∧ k ≠ 16 + d)) := by
  rw [pdOffWord, nbit_putBits_one _ _ _ hk, nbit_putBits_one _ _ _ hk]
  split
  · next h => simp [h]
  · next h => split <;> next h' => simp [h, h']

/-- `SYS_PD` of a domain whose off request is refused: ON and DENIED. -/
def pdDenyWord (w : Word) (d : Nat) : Word := putBits (putBits w d 1 (b2n true)) 31 1 (b2n true)

theorem nbit_pdDenyWord (w : Word) (d : Nat) {k : Nat} (hk : k < 32) :
    nbit (pdDenyWord w d).toNat k = (nbit w.toNat k || decide (k = d ∨ k = 31)) := by
  rw [pdDenyWord, nbit_putBits_one _ _ _ hk, nbit_putBits_one _ _ _ hk]
  split
  · next h => simp [h]
  · next h => split <;> next h' => simp [h, h']

theorem pdOff_of_field (h : d.val = 11) :
    s.pdOff d = { s.setReg pdAddr (pdOffWord (s.reg pdAddr) d) with field := {} } := if_pos h

theorem pdOff_of_other (h : d.val ≠ 11) : s.pdOff d = s.setReg pdAddr (pdOffWord (s.reg pdAddr) d) := if_neg h

include hs

/-- A domain switched off (R20): its two bits, and the local outputs with PD11. -/
theorem pdOff_frame : RegsBut [0x40000010] s (s.pdOff d) ∧ (s.pdOff d).mem = s.mem ∧ (d.val = 11 → (s.pdOff d).field = {}) ∧
    (d.val ≠ 11 → OnlyRegs s (s.pdOff d)) ∧ ∀ k, k < 32 → nbit ((s.pdOff d).reg 0x40000010).toNat k =
      (nbit (s.reg 0x40000010).toNat k && decide (k ≠ d.val ∧ k ≠ 16 + d.val)) := by
  have hbits : ∀ k, k < 32 → nbit ((s.setReg pdAddr (pdOffWord (s.reg pdAddr) d)).reg 0x40000010).toNat k =
      (nbit (s.reg 0x40000010).toNat k && decide (k ≠ d.val ∧ k ≠ 16 + d.val)) := fun k hk =>
    (nbit_setReg_pd hs).trans (nbit_pdOffWord _ _ hk)
  by_cases h : d.val = 11
  · rw [pdOff_of_field d h]
    exact ⟨regsBut_setReg_pd hs _, rfl, fun _ => rfl, fun hne => absurd h hne, hbits⟩
  · rw [pdOff_of_other d h]
    exact ⟨regsBut_setReg_pd hs _, rfl, fun he => absurd he h, fun _ => rfl, hbits⟩

/-- An off request refused (R19): ON is 1 again and DENIED is set. -/
theorem pdDeny_frame : OnlyRegsAt [0x40000010] s (s.pdDeny d) ∧ ∀ k, k < 32 →
    nbit ((s.pdDeny d).reg 0x40000010).toNat k = (nbit (s.reg 0x40000010).toNat k || decide (k = d.val ∨ k = 31)) :=
  ⟨onlyRegsAt_setReg hs _ _, fun _ hk => (nbit_setReg_pd hs).trans (nbit_pdDenyWord _ _ hk)⟩

/-- Bit `d` of `SYS_PD` set to `v`. -/
theorem nbit_setReg_on (v : Bool) {k : Nat} (hk : k < 32) :
    nbit ((s.setReg pdAddr (putBits (s.reg pdAddr) d 1 (b2n v))).reg 0x40000010).toNat k =
      if k = d.val then v else nbit (s.reg 0x40000010).toNat k :=
  (nbit_setReg_pd hs).trans (nbit_putBits_one _ _ _ hk)

end

/-! ### Power-up (R20) -/

/-- A domain that has come up: in its reset, with its ACK. -/
def poweredUp (s : State) (d : Nat) : State :=
  (s.domainReset d).setReg pdAddr (putBits (s.reg pdAddr) (16 + d) 1 (b2n true))

theorem exec_pdPowerUpDone_of_due {s : State} {d : Fin 12} (hon : nbit (s.reg 0x40000010).toNat d = true)
    (hack : nbit (s.reg 0x40000010).toNat (16 + d.val) = false) : exec (.pdPowerUpDone d) s = .next (poweredUp s d) := by
  have hdue : (nbit (s.reg pdAddr).toNat d && !s.pdAck d) = true := by simp [State.pdAck, pdAddr, hon, hack]
  exact congrArg Host.Outcome.next (if_pos hdue)

theorem exec_pdPowerUpDone_of_not_due {s : State} {d : Fin 12} (h : nbit (s.reg 0x40000010).toNat d = false ∨
    nbit (s.reg 0x40000010).toNat (16 + d.val) = true) : exec (.pdPowerUpDone d) s = .next s := by
  have hdue : ¬ (nbit (s.reg pdAddr).toNat d && !s.pdAck d) = true := by
    rcases h with h | h <;> simp [State.pdAck, pdAddr, h]
  exact congrArg Host.Outcome.next (if_neg hdue)

/-- The registers that the reset of a domain puts back to their Reset column. -/
def domainRegs (d a : Nat) : Bool :=
  if d = 8 ∨ d = 9 then decide (0x40200000 + 0x80000 * (d - 8) ≤ a ∧ a < 0x40280000 + 0x80000 * (d - 8))
  else if d = 11 then decide (0x40100000 ≤ a ∧ a < 0x40110000)
  else if 4 ≤ d ∧ d ≤ 6 then
    decide (0x40050100 + 16 * (d - 4) ≤ a ∧ a < 0x40050110 + 16 * (d - 4)) || twinRegOf (d - 4) a
  else false

theorem tclear_false {α : Type} (t : Tab α) : tclear t (fun _ => false) = t := List.filter_eq_self.2 fun _ _ => rfl

theorem domainReset_of_strings (s : State) {d : Nat} (h : d = 8 ∨ d = 9) : s.domainReset d = s.stringReset d := if_pos h

theorem domainReset_of_bay (s : State) {d : Nat} (h : 4 ≤ d ∧ d ≤ 6) : s.domainReset d = s.bayReset (d - 4) := by
  have hstr : ¬ (d = 8 ∨ d = 9) := by omega
  have hfield : ¬ d = 11 := by omega
  simp only [State.domainReset, hstr, hfield, h, if_false, and_self, if_true]

theorem regs_domainReset (s : State) (d : Nat) : (s.domainReset d).regs = tclear s.regs (domainRegs d) := by
  unfold State.domainReset
  split
  · next hstr =>
    have hregs : domainRegs d = _ := funext fun a => if_pos hstr
    rw [hregs]
    rfl
  · next hstr =>
    split
    · next hfield =>
      have hregs : domainRegs d = _ := funext fun a => (if_neg hstr).trans (if_pos hfield)
      rw [hregs]
    · next hfield =>
      split
      · next hbay =>
        have hregs : domainRegs d = _ := funext fun a => (if_neg hstr).trans ((if_neg hfield).trans (if_pos hbay))
        rw [hregs]
        rfl
      · next hbay =>
        have hregs : domainRegs d = _ := funext fun a => (if_neg hstr).trans ((if_neg hfield).trans (if_neg hbay))
        rw [hregs, tclear_false]

section
variable {s : State} (hs : tabWf resetWord s.regs = true) (d : Nat)
include hs

theorem regsWf_domainReset : tabWf resetWord (s.domainReset d).regs = true :=
  regs_domainReset s d ▸ tabWf_tclear resetWord s.regs _ hs

theorem nbit_poweredUp {k : Nat} (hk : k < 32) : nbit ((poweredUp s d).reg 0x40000010).toNat k =
    (nbit (s.reg 0x40000010).toNat k || decide (k = 16 + d)) := by
  refine ((nbit_setReg_pd (regsWf_domainReset hs d)).trans (nbit_putBits_one _ _ _ hk)).trans ?_
  split <;> next h => simp [h, pdAddr]

/-- A register of the domain reads its Reset column. -/
theorem reg_poweredUp {a : Nat} (ha : domainRegs d a = true) (hne : a ≠ 0x40000010) : (poweredUp s d).reg a = resetWord a := by
  refine (reg_setReg_ne _ (regsWf_domainReset hs d) pdAddr a _ hne).trans ?_
  rw [State.reg, regs_domainReset]
  exact tget_tclear_of_mem _ ha s.regs

theorem reg_poweredUp_of_strings (h : d = 8 ∨ d = 9) {a : Nat} (hlo : 0x40200000 + 0x80000 * (d - 8) ≤ a)
    (hhi : a < 0x40280000 + 0x80000 * (d - 8)) : (poweredUp s d).reg a = resetWord a :=
  reg_poweredUp hs d ((if_pos h).trans (decide_eq_true ⟨hlo, hhi⟩)) (by omega)

theorem reg_poweredUp_of_bay (h : 4 ≤ d ∧ d ≤ 6) {a : Nat} (hlo : 0x40050100 + 16 * (d - 4) ≤ a)
    (hhi : a < 0x40050110 + 16 * (d - 4)) : (poweredUp s d).reg a = resetWord a := by
  have hstr : ¬ (d = 8 ∨ d = 9) := by omega
  have hfield : ¬ d = 11 := by omega
  exact reg_poweredUp hs d (by simp [domainRegs, hstr, hfield, h, hlo, hhi]) (by omega)

end

theorem mem_poweredUp_of_strings (s : State) {d : Nat} (h : d = 8 ∨ d = 9) : (poweredUp s d).mem = s.mem := by
  rw [poweredUp, domainReset_of_strings s h]
  rfl

theorem mem_poweredUp_of_bay (s : State) {d : Nat} (h : 4 ≤ d ∧ d ≤ 6) : (poweredUp s d).mem =
    tclear s.mem fun a => decide (0x30000000 + 0x4000000 * (d - 4) ≤ a ∧ a < 0x34000000 + 0x4000000 * (d - 4)) := by
  rw [poweredUp, domainReset_of_bay s h]
  rfl

theorem eng_poweredUp_of_bay (s : State) {d : Nat} (h : 4 ≤ d ∧ d ≤ 6) :
    (poweredUp s d).eng = tclear s.eng fun e => decide (e / 4 = d - 4) := by
  rw [poweredUp, domainReset_of_bay s h]
  rfl

/-- A bay in its reset: its memory, its engines and its registers alone. -/
theorem poweredUp_of_bay {s : State} (hs : s.Inv) {d : Nat} (h : 4 ≤ d ∧ d ≤ 6) :
    MemBut (0x30000000 + 0x4000000 * (d - 4)) 0x4000000 s (poweredUp s d) ∧
    (∀ e, e / 4 = d - 4 → (poweredUp s d).getEng e = {}) ∧
    ∀ a, 0x40050100 + 16 * (d - 4) ≤ a → a < 0x40050110 + 16 * (d - 4) → (poweredUp s d).reg a = resetWord a := by
  refine ⟨fun b hb => ?_, fun e he => ?_, fun a => reg_poweredUp_of_bay hs.regs d h⟩
  · rw [State.rdB, mem_poweredUp_of_bay s h]
    exact tget_tclear_of_not_mem _ (decide_eq_false (by omega)) 0 s.mem hs.mem
  · rw [State.getEng, eng_poweredUp_of_bay s h]
    exact tget_tclear_of_mem _ (decide_eq_true he) s.eng

/-! ### The sleep of a CAN port (R451) -/

theorem can_updCan_same (s : State) (p : Nat) (f : CanS → CanS) : (s.updCan p f).can p = f (s.can p) := by
  unfold State.updCan State.can
  split <;> rfl

theorem can_updCan_other (s : State) (p : Fin 2) (f : CanS → CanS) : (s.updCan p f).can (1 - p.val) = s.can (1 - p.val) := by
  match p with
  | 0 => rfl
  | 1 => rfl

/-- What is not of a port is left by a change of it. -/
theorem kept_updCan {γ : Type} (s : State) (p : Nat) (f : CanS → CanS) (π : State → γ)
    (h0 : ∀ u c, π { u with can0 := c } = π u := by intros; rfl) (h1 : ∀ u c, π { u with can1 := c } = π u := by intros; rfl) :
    π (s.updCan p f) = π s := by
  unfold State.updCan
  split
  · exact h0 s _
  · exact h1 s _

/-- A port asked to sleep: what had not started is cancelled, and SLEEP is set. -/
def sleepAsked (s : State) (p : Nat) : State := (s.canCancel p).wfb (F.CAN_CTRL_SLEEP p) true

theorem setsRegs_sleepAsked (s : State) (p : Nat) :
    SetsRegs (s.updCan p fun c => { c with pend := (s.can p).pend.filter (·.started) }) (sleepAsked s p) :=
  (setsRegs_canFilter s p _).wfb _ _

theorem can_sleepAsked_same (s : State) (p : Nat) :
    (sleepAsked s p).can p = { s.can p with pend := (s.can p).pend.filter (·.started) } :=
  (kept_of_onlyRegs (setsRegs_sleepAsked s p).only fun t => t.can p).trans (can_updCan_same s p _)

theorem can_sleepAsked_other (s : State) (p : Fin 2) : (sleepAsked s p).can (1 - p.val) = s.can (1 - p.val) :=
  (kept_of_onlyRegs (setsRegs_sleepAsked s p).only fun t => t.can (1 - p.val)).trans (can_updCan_other s p _)

theorem mem_sleepAsked (s : State) (p : Nat) : (sleepAsked s p).mem = s.mem :=
  (kept_of_onlyRegs (setsRegs_sleepAsked s p).only State.mem).trans (kept_updCan s p _ State.mem)

theorem tx_sleepAsked (s : State) (p : Nat) : (sleepAsked s p).tx = s.tx :=
  (kept_of_onlyRegs (setsRegs_sleepAsked s p).only State.tx).trans (kept_updCan s p _ State.tx)

theorem regsWf_sleepAsked {s : State} (hs : tabWf resetWord s.regs = true) (p : Nat) :
    tabWf resetWord (sleepAsked s p).regs = true :=
  (setsRegs_sleepAsked s p).canonical ((kept_updCan s p _ State.regs).symm ▸ hs)

theorem rf_sleep_sleepAsked {s : State} (hs : tabWf resetWord s.regs = true) (p : Nat) :
    (sleepAsked s p).rf (F.CAN_CTRL_SLEEP p) = 1 := by
  have hcancelled : tabWf resetWord (s.canCancel p).regs = true :=
    (tripKeeps_canCancel s p).canonical hs
  exact rf_wf_same _ hcancelled (F.CAN_CTRL_SLEEP p) 1 (by simp [F.CAN_CTRL_SLEEP])

theorem rfb_sleep_sleepAsked {s : State} (hs : tabWf resetWord s.regs = true) (p : Nat) :
    (sleepAsked s p).rfb (F.CAN_CTRL_SLEEP p) = true := by
  rw [State.rfb, rf_sleep_sleepAsked hs]
  rfl

/-- A port that has a frame of its own on its bus keeps its sleep for later. -/
theorem canSettle_of_started {s : State} {p : Nat} (h : (s.can p).pend.any (·.started) = true) : s.canSettle p = s := by
  simp [State.canSettle, h]

theorem canSettle_of_idle {s : State} {p : Nat} (hsleep : s.rfb (F.CAN_CTRL_SLEEP p) = true)
    (h : (s.can p).pend.any (·.started) = false) (hwake : (s.can p).wakeDue = false) :
    s.canSettle p = (s.wf (F.CAN_STAT_STATE p) 3).updCan p fun c => { c with stb := true } := by
  simp only [State.canSettle, hsleep, h, hwake, Bool.not_true, Bool.or_self, Bool.false_eq_true, if_false]

/-- A port settled: its frames, the other port, memory and what was sent are as they were. -/
structure Settled (p : Nat) (s t : State) : Prop where
  pend : (t.can p).pend = (s.can p).pend
  other : t.can (1 - p) = s.can (1 - p)
  mem : t.mem = s.mem
  tx : t.tx = s.tx

theorem Settled.refl (p : Nat) (s : State) : Settled p s s := ⟨rfl, rfl, rfl, rfl⟩

theorem Settled.wf {p : Nat} {s t : State} (h : Settled p s t) (f : Fld) (v : Nat) : Settled p s (t.wf f v) :=
  ⟨h.pend, h.other, h.mem, h.tx⟩

theorem Settled.updCan {p : Fin 2} {s t : State} (h : Settled p s t) {f : CanS → CanS} (hf : ∀ c, (f c).pend = c.pend) :
    Settled p s (t.updCan p f) where
  pend := by rw [can_updCan_same, hf, h.pend]
  other := (can_updCan_other t p f).trans h.other
  mem := (kept_updCan t p f State.mem).trans h.mem
  tx := (kept_updCan t p f State.tx).trans h.tx

theorem settled_canAwake (p : Fin 2) (s : State) : Settled p s (s.canAwake p) := by
  have hrise : Settled p s (s.canRise p) := ((Settled.refl p s).wf _ _).updCan fun _ => rfl
  exact (hrise.wf _ _).wf _ _

theorem settled_canSettle (p : Fin 2) (s : State) : Settled p s (s.canSettle p) := by
  unfold State.canSettle
  split
  · exact .refl p s
  · split
    · exact settled_canAwake p s
    · exact ((Settled.refl p s).wf _ _).updCan fun _ => rfl

theorem any_started_sleepAsked (s : State) (p : Nat) :
    ((sleepAsked s p).can p).pend.any (·.started) = (s.can p).pend.any (·.started) := by
  simp [can_sleepAsked_same, List.any_filter]

theorem any_started_eq_false {l : List CanPend} (h : ∀ x ∈ l, x.started = false) : l.any (·.started) = false := by
  simpa using h

theorem canDoze_of_started {s : State} {p : Nat} (h : (s.can p).pend.any (·.started) = true) : s.canDoze p = sleepAsked s p :=
  canSettle_of_started ((any_started_sleepAsked s p).trans h)

section
variable {s : State} (hs : tabWf resetWord s.regs = true) (p : Nat) (hwake : (s.can p).wakeDue = false)
include hs hwake

theorem canDoze_of_idle (h : (s.can p).pend.any (·.started) = false) :
    s.canDoze p = ((sleepAsked s p).wf (F.CAN_STAT_STATE p) 3).updCan p fun c => { c with stb := true } :=
  canSettle_of_idle (rfb_sleep_sleepAsked hs p) ((any_started_sleepAsked s p).trans h)
    ((congrArg CanS.wakeDue (can_sleepAsked_same s p)).trans hwake)

/-- A port with nothing on its bus sleeps at once: SLEEPING, and CANn_STB raised (R451). -/
theorem asleep_canDoze (h : (s.can p).pend.any (·.started) = false) :
    (s.canDoze p).rf (F.CAN_STAT_STATE p) = 3 ∧ ((s.canDoze p).can p).stb = true := by
  rw [canDoze_of_idle hs p hwake h, can_updCan_same, kept_updCan _ _ _ fun t => t.rf (F.CAN_STAT_STATE p)]
  exact ⟨rf_wf_same _ (regsWf_sleepAsked hs p) _ _ (by simp [F.CAN_STAT_STATE]), rfl⟩

/-- Unless it wakes at once, the port shows SLEEP. -/
theorem rfb_sleep_canDoze : (s.canDoze p).rfb (F.CAN_CTRL_SLEEP p) = true := by
  cases h : (s.can p).pend.any (·.started) with
  | true =>
    rw [canDoze_of_started h]
    exact rfb_sleep_sleepAsked hs p
  | false =>
    rw [canDoze_of_idle hs p hwake h, kept_updCan _ _ _ fun t => t.rfb (F.CAN_CTRL_SLEEP p), State.rfb,
      rf_wf_ne _ (regsWf_sleepAsked hs p) _ _ _ (by simp [F.CAN_CTRL_SLEEP])
        (.inl (by simp [F.CAN_CTRL_SLEEP, F.CAN_STAT_STATE]))]
    exact rfb_sleep_sleepAsked hs p

end

/-! ### The statement -/

/-- `CAN_SLEEP` (R451). -/
theorem exec_canSleep_frame {s : State} (hs : tabWf resetWord s.regs = true) (p : Fin 2) :
    ∃ t, exec (.canSleep p) s = .next t ∧ (t.can p).pend = (s.can p).pend.filter (·.started) ∧
      t.can (1 - p.val) = s.can (1 - p.val) ∧ t.mem = s.mem ∧ t.tx = s.tx ∧
      ((s.can p).wakeDue = false → t.rfb (F.CAN_CTRL_SLEEP p) = true) ∧
      ((s.can p).wakeDue = false → (∀ x ∈ (s.can p).pend, x.started = false) →
        t.rf (F.CAN_STAT_STATE p) = 3 ∧ (t.can p).stb = true) ∧
      ((∃ x ∈ (s.can p).pend, x.started = true) → (t.can p).stb = (s.can p).stb) := by
  have hsettled : Settled p (sleepAsked s p) (s.canDoze p) := settled_canSettle p _
  refine ⟨s.canDoze p, rfl, hsettled.pend.trans (congrArg CanS.pend (can_sleepAsked_same s p)),
    hsettled.other.trans (can_sleepAsked_other s p), hsettled.mem.trans (mem_sleepAsked s p),
    hsettled.tx.trans (tx_sleepAsked s p), rfb_sleep_canDoze hs p,
    fun hwake hidle => asleep_canDoze hs p hwake (any_started_eq_false hidle), fun hstarted => ?_⟩
  rw [canDoze_of_started (List.any_eq_true.2 hstarted), can_sleepAsked_same]

/-- A domain that comes up (R20). -/
theorem poweredUp_frame {s : State} (hs : s.Inv) (d : Fin 12) :
    (d.val = 8 → (poweredUp s d).mem = s.mem ∧ ∀ a, 0x40200000 ≤ a → a < 0x40280000 → (poweredUp s d).reg a = resetWord a) ∧
    (d.val = 9 → (poweredUp s d).mem = s.mem ∧ ∀ a, 0x40280000 ≤ a → a < 0x40300000 → (poweredUp s d).reg a = resetWord a) ∧
    (d.val = 11 → (poweredUp s d).mem = s.mem ∧ (poweredUp s d).field = {} ∧
      ∀ a, 0x40100000 ≤ a → a < 0x40110000 → (poweredUp s d).reg a = resetWord a) ∧
    (d.val ∈ [4, 5, 6] → MemBut (0x30000000 + 0x4000000 * (d.val - 4)) 0x4000000 s (poweredUp s d) ∧
      (∀ e, e / 4 = d.val - 4 → (poweredUp s d).getEng e = {}) ∧
      ∀ a, 0x40050100 + 16 * (d.val - 4) ≤ a → a < 0x40050110 + 16 * (d.val - 4) → (poweredUp s d).reg a = resetWord a) := by
  refine ⟨fun h => ?_, fun h => ?_, fun h => ?_, fun h => poweredUp_of_bay hs ?_⟩
  · rw [h]
    exact ⟨mem_poweredUp_of_strings s (.inl rfl), fun a => reg_poweredUp_of_strings hs.regs 8 (.inl rfl)⟩
  · rw [h]
    exact ⟨mem_poweredUp_of_strings s (.inr rfl), fun a => reg_poweredUp_of_strings hs.regs 9 (.inr rfl)⟩
  · rw [h]
    exact ⟨rfl, rfl, fun a hlo hhi => reg_poweredUp hs.regs 11 (decide_eq_true ⟨hlo, hhi⟩) (by omega)⟩
  · simp only [List.mem_cons, List.not_mem_nil, or_false] at h
    omega

/-- Settles O10: each request by the branch of R18 to R20 and R472 that it takes, and the two other queues by what they append and
cancel. -/
theorem powerDomainsAndRackCommands : Obligations.PowerDomainsAndRackCommands := by
  refine ⟨fun d s hs => ?_, fun s hs => ⟨fun _ => rfl, fun _ => rfl, exec_canSleep_frame hs.regs⟩⟩
  simp only [← switchable_iff, Bool.not_eq_true]
  refine ⟨fun hd hflush hok hrun => ?_, fun hd hflush hok hrun => ?_, fun hd hflush hok => ?_, fun hd hflush => ?_,
    fun hd => ?_, fun hd => ?_, fun hon hack => ?_, exec_pdPowerUpDone_of_not_due⟩
  · refine ⟨_, congrArg Host.Outcome.next (pdOffReq_of_running d hd hflush hok hrun), regsBut_setReg_pd hs.regs _, rfl,
      fun k hk => (nbit_setReg_on hs.regs d false hk).trans ?_⟩
    split <;> next h => simp [h]
  · exact ⟨_, congrArg Host.Outcome.next (pdOffReq_of_stopped d hd hflush hok hrun), pdOff_frame hs.regs d⟩
  · exact ⟨_, congrArg Host.Outcome.next (pdOffReq_of_refused d hd hflush hok), pdDeny_frame hs.regs d⟩
  · exact congrArg Host.Outcome.next (pdOffReq_of_flushing d hd hflush)
  · refine ⟨_, congrArg Host.Outcome.next (pdOnReq_of_switchable d hd), regsBut_setReg_pd hs.regs _, rfl,
      fun k hk => (nbit_setReg_on hs.regs d true hk).trans ?_⟩
    split <;> next h => simp [h]
  · obtain ⟨hoff, hon⟩ := pdReq_of_not_switchable (s := s) d hd
    exact ⟨congrArg Host.Outcome.next hoff, congrArg Host.Outcome.next hon⟩
  · exact ⟨_, exec_pdPowerUpDone_of_due hon hack, fun k hk => nbit_poweredUp hs.regs d hk, poweredUp_frame hs d⟩

end Sys2Proof.Proofs
end
